-- ==== Sys2Proof/Word.lean ====
section
/-! DEFINITION. The plain types every file shares: bytes, device time, tables keyed by a hardware index, and the
header and parameters of a command (R47). -/
namespace Sys2Proof

/-- One byte of a host-visible structure. -/
abbrev Byte := BitVec 8

/-- A string of bytes, lowest offset first (R2). -/
abbrev Bytes := List Byte

/-- Device time in ticks of 2^-16 ns, the unit of the fraction of R8. -/
abbrev Time := Nat

/-- A table keyed by a hardware index. A key that is not listed holds the table's default. -/
abbrev Tab (κ α : Type) := List (κ × α)

/-- A command as the host places it in the Command Ring: the header fields of R47 but for the opcode, which the
constructor gives, and the parameter bytes. `t` is the device time at which the last of its entries is in place. -/
structure Cmd where
  /-- instant at which the command is placed -/
  t : Time
  /-- sequence, echoed (R50) -/
  seq : BitVec 16 := 0
  /-- target_unit (R49) -/
  target : BitVec 8 := 0
  /-- flags: bit 0 reply requested, bit 1 relay, bit 2 two-phase (R47) -/
  flags : BitVec 8 := 1
  /-- param_length as the header states it (R48) -/
  paramLen : BitVec 16 := 0
  /-- cont_count as the header states it (R48) -/
  cont : BitVec 8 := 0
  /-- header bytes 9 to 15, reserved (R47) -/
  reserved : BitVec 56 := 0
  /-- the parameter bytes the entries carry -/
  params : Bytes := []
  deriving DecidableEq, Repr

/-- An event as HUB writes it (R59). The phase bit is not part of it: it belongs to the slot. -/
structure Event where
  code : BitVec 16
  block : BitVec 8
  remote : Bool := false
  unit : BitVec 5 := 0
  time : Time := 0
  /-- detail bytes 0 to 15 -/
  detail : Bytes := []
  deriving DecidableEq, Repr

/-- A reply as the device writes it (R51). The phase bit belongs to the slot. -/
structure Reply where
  seq : BitVec 16
  status : BitVec 16
  opcode : BitVec 16
  result : Bytes := []
  source : BitVec 8 := 0
  deriving DecidableEq, Repr

/-- The two ring ports of a unit (R69). -/
inductive RingPort where
  | east | west
  deriving DecidableEq, Repr

/-- The header of a ring packet (04, Ring packets), with the port it arrives at or leaves from. -/
structure RingHdr where
  port : RingPort := .west
  src : BitVec 5 := 0
  dst : BitVec 5 := 31
  hops : BitVec 5 := 30
  /-- direction: false east, true west -/
  west : Bool := false
  wrapped : Bool := false
  seq : BitVec 16 := 0
  /-- originator device_serial -/
  serial : BitVec 64 := 0
  deriving DecidableEq, Repr

/-- A range of ticket IDs: the first and a count (R85). -/
structure TicketRange where
  first : BitVec 64
  count : BitVec 16
  deriving DecidableEq, Repr

/-- One unit in an address assignment, in ring order going east from the issuer (R77). -/
structure Assigned where
  address : BitVec 5
  serial : BitVec 64
  deriving DecidableEq, Repr

/-- The content of a ring packet, one constructor for each packet type (04, Ring packets). -/
inductive RingBody where
  | enum (fill : Bool) (next : Nat) (units : List Assigned)
  | enumCommit (units : List Assigned) (adopt : Time)
  | enumAbort (status : BitVec 16) (token : BitVec 64)
  | linkState (eastUp westUp announced : Bool) (mode : BitVec 3) (lastValid : Time)
  | hopAck (upTo : BitVec 16)
  | time (sent : Time) (auto slave : Bool)
  | cmd (opcode : BitVec 16) (c : Cmd)
  | rpl (r : Reply)
  | evt (es : List Event)
  | void (reason : BitVec 8) (ranges : List TicketRange)
  | prepare (txn : BitVec 16) (timeoutMs : Nat) (opcode : BitVec 16) (c : Cmd)
  | vote (txn : BitVec 16) (status : BitVec 16) (result : Bytes)
  | commit (txn : BitVec 16) (instant : Time)
  | abort (txn : BitVec 16)
  | snap (instant : Time)
  deriving DecidableEq, Repr

/-- A ring packet. -/
structure RingPacket where
  hdr : RingHdr
  body : RingBody
  deriving DecidableEq, Repr

/-- What an MSI_X_UNMASK row unmasks or enables (R62). -/
inductive Unmask where
  /-- vector control of an MSI-X vector cleared -/
  | vector (v : Fin 64)
  /-- enable set in the INT_MAP word of a source -/
  | source (n : Fin 5)
  deriving DecidableEq, Repr

/-- An image slot of NVM, as far as the manual says what an image decides (R334, R335, R336). -/
structure ImageSlot where
  /-- the slot holds bytes that are not erased -/
  present : Bool := false
  verifies : Bool := false
  fwVersion : BitVec 32 := 0
  security : Nat := 0
  root : Nat := 0
  measurement : Bytes := []
  deriving DecidableEq, Repr

/-- What an Announce message says of its master (R95, R97). -/
structure Announce where
  grandmaster : BitVec 64
  clockClass : BitVec 8
  accuracy : BitVec 8
  stepsRemoved : BitVec 16
  utcOffset : BitVec 16
  /-- the dataset comparison of IEEE 1588-2019 over the qualified foreign masters selects this master -/
  selected : Bool
  deriving DecidableEq, Repr

/-- A PTP message the device sends (R95, R96). -/
inductive PtpMessage where
  | delayReq | pdelayReq | pdelayResp | pdelayRespFollowUp
  deriving DecidableEq, Repr

/-- One rank's reading of mode register 4 (R138). -/
structure DramTemp where
  channel : Nat
  rank : Nat
  reading : Nat
  /-- above 85 °C -/
  above85 : Bool
  /-- above the device's maximum operating temperature -/
  aboveMax : Bool
  deriving DecidableEq, Repr

/-- A DRAM device position (R137). -/
structure Position where
  channel : Nat
  sub : Nat
  rank : Nat
  device : Nat
  deriving DecidableEq, Repr

/-- What a patrol scrub read finds (R136): page and burst are 0 where no page object holds the address. -/
inductive ScrubFind where
  | clean
  | corrected (p : Position)
  | uncorrectable (p : Position) (page burst : Nat)
  deriving DecidableEq, Repr

/-- How a page load ends (R128, R130): with the bytes the list carried, or with the first failure found. -/
inductive LoadEnd where
  /-- list total and the page bytes: offset and byte, offsets rising, zero bytes not listed -/
  | loaded (total : Nat) (data : List (Nat × Byte))
  | listError | dmaError | uncorrectable
  deriving DecidableEq, Repr

/-- An IDENT block (R196). -/
structure Ident where
  vendor : BitVec 16 := 0
  product : BitVec 16 := 0
  hardware : BitVec 8 := 0
  protocol : BitVec 8 := 1
  q : BitVec 8 := 64
  maxKhz : BitVec 8 := 200
  highWave : BitVec 4 := 15
  portB : Bool := false
  serial : BitVec 32 := 0
  deriving DecidableEq, Repr

/-- A CSI-2 packet that is neither Frame Start nor Frame End (R240): `headerOk` is false for an uncorrectable header. -/
structure CsiPacket where
  headerOk : Bool := true
  channel : Nat := 0
  dataType : BitVec 6 := 0x2B
  crcOk : Bool := true
  pixels : List Nat := []
  deriving DecidableEq, Repr

/-- What an axis's feedback receivers decode (R297): a count, an invalid transition, or the Z index. -/
inductive AxisEdge where
  | count (reverse : Bool)
  | invalid
  | index
  deriving DecidableEq, Repr

/-- A STATUS block (R196): sensors in 0.1 °C, none where not valid. -/
structure HeadStatus where
  sensor0 : Option Int := none
  sensor1 : Option Int := none
  queued : BitVec 8 := 0
  wave : BitVec 4 := 0
  timeLocked : Bool := true
  lockA : Bool := true
  lockB : Bool := true
  fireFault : Bool := false
  highest : BitVec 24 := 0
  deriving DecidableEq, Repr

end Sys2Proof
end

