-- ==== Sys2Proof/Syntax.lean ====
section
/-! DEFINITION. The commands of the block: one constructor for each row of the opcode table. An opcode row carries the
command as the host places it (`Cmd`); an event row carries the instant at which it happens and what it brings. -/
namespace Sys2Proof

/-- One row of the opcode table (R5, R58; 95). -/
inductive Instr where
  /-- Command returning part code, stepping, mode, boot state, faults and identity of the device (R31). -/
  | identify (c : Cmd)
  /-- Command returning the four feature offer words (R32). -/
  | featureQuery (c : Cmd)
  /-- Command fixing the accepted feature set, forming epoch and digest and scheduling the exit from BOOT (R33). -/
  | featureAccept (c : Cmd)
  /-- Command requesting a mode transition or a change of the drain target (R34). -/
  | modeSet (c : Cmd)
  /-- Command clearing host-request and boot-fault causes and scheduling SAFE to STANDBY when no other cause remains (R23). -/
  | safeClear (c : Cmd)
  /-- Command with confirm word that replies E_OK and resets the device 1 ms later (R23). -/
  | deviceReset (c : Cmd)
  /-- Command returning part of a block's configuration record with the epoch (R36). -/
  | configRead (c : Cmd)
  /-- Command setting the host watchdog period and action and arming its deadline (R68). -/
  | hostWatchdogSet (c : Cmd)
  /-- A command whose opcode is not defined returns E_BAD_OPCODE (R5). -/
  | undefinedOpcode (opcode : BitVec 16) (c : Cmd)
  /-- Command starting a FRESH or FILL enumeration token round the ring (R77). -/
  | ringEnumerate (c : Cmd)
  /-- Command setting vote, commit and relay timeouts, commit lead and forward level (R82). -/
  | ringConfig (c : Cmd)
  /-- Command setting polarity, lane swap and preset of a stopped ring port (R28). -/
  | ringPortSet (c : Cmd)
  /-- Command putting a ring port into RUN (R74). -/
  | ringPortStart (c : Cmd)
  /-- Command stopping a ring port as an announced break (R76). -/
  | ringPortStop (c : Cmd)
  /-- Command setting time source policy, preferred domain and slew and step limits (R93). -/
  | timeSourceSet (c : Cmd)
  /-- Command configuring a PTP domain, passing it through DISABLED (R97). -/
  | ptpDomainSet (c : Cmd)
  /-- Command configuring a network port and restarting its link (R96). -/
  | netPortSet (c : Cmd)
  /-- Command requesting a step of device time under policy FREE (R91). -/
  | timeStep (c : Cmd)
  /-- Command setting a window generator's period, origin and enable (R100). -/
  | windowSet (c : Cmd)
  /-- Command arming or cancelling a snapshot instant, optionally with ring scope (R101). -/
  | snapshotArm (c : Cmd)
  /-- Command configuring SNAP_IN and SNAP_OUT (R104). -/
  | snapPinSet (c : Cmd)
  /-- Command configuring an encoder input, ratio, index and standstill settings (R114). -/
  | encInputSet (c : Cmd)
  /-- Command setting Regulator bandwidth, thresholds and auto switchover (R118). -/
  | regulatorSet (c : Cmd)
  /-- Command making an encoder active and latching the offset again (R119). -/
  | encActiveSet (c : Cmd)
  /-- Command configuring the pulse output divider, format and width (R123). -/
  | pulseSet (c : Cmd)
  /-- Command creating a LOADING page object and starting its DMA load (R130). -/
  | pageLoad (c : Cmd)
  /-- Command freeing a page object that is not queued or printing (R128). -/
  | pageDiscard (c : Cmd)
  /-- Command returning the state of a page object (R128). -/
  | pageQuery (c : Cmd)
  /-- Command appending page IDs to the print queue (R131). -/
  | queueAppend (c : Cmd)
  /-- Command committing the print queue with its end_action (R132). -/
  | queueCommit (c : Cmd)
  /-- Command uncommitting and emptying the print queue (R131). -/
  | queueClear (c : Cmd)
  /-- Command setting a memory port's rate, burst and page policy (R140). -/
  | memPortSet (c : Cmd)
  /-- Command setting the INS region size and scrub period (R135). -/
  | memConfigSet (c : Cmd)
  /-- Command writing the DRAM description to NVM for the next reset (R135). -/
  | memDramDescribe (c : Cmd)
  /-- Command measuring the DDR5 delay set for the present die band (R138). -/
  | memDelayMeasure (c : Cmd)
  /-- Command setting module count, addressability, auto_map and page shift (R143). -/
  | grtBarSet (c : Cmd)
  /-- Command setting a module's mode, origin, skew and row delays (R146). -/
  | grtModuleSet (c : Cmd)
  /-- Command setting a join's stitch type, cut or table (R151). -/
  | grtStitchSet (c : Cmd)
  /-- Command writing host nozzle states into the staging table (R152). -/
  | grtNozzleStage (c : Cmd)
  /-- Command applying staged nozzle states as one map generation (R153). -/
  | grtNozzleCommit (c : Cmd)
  /-- Command returning nozzle states and trim classes (R152). -/
  | grtNozzleRead (c : Cmd)
  /-- Command setting revoke threshold, max lead and OVERSPEED pin level (R169). -/
  | escConfigSet (c : Cmd)
  /-- Command setting the run-ahead depth D (R167). -/
  | escRunaheadSet (c : Cmd)
  /-- Command setting nozzle rate, waveform bands, leads and thermal limits (R164). -/
  | escHeadProfileSet (c : Cmd)
  /-- Command setting a module's row remainders rho (R163). -/
  | escRowOffsetSet (c : Cmd)
  /-- Command returning a module's band, lead, rho and c (R163). -/
  | escTimingRead (c : Cmd)
  /-- Command setting time period, auto_restore and restore_hold (R207). -/
  | hlkConfigSet (c : Cmd)
  /-- Command configuring a head lane and restarting it through DISABLED (R204). -/
  | hlkLaneSet (c : Cmd)
  /-- Command restoring a single-lane module to SPLIT (R207). -/
  | hlkLaneRestore (c : Cmd)
  /-- Command starting an eye scan on a lane (R211). -/
  | hlkEyeScan (c : Cmd)
  /-- Command taking a lane out of service for a PRBS loopback test (R212). -/
  | hlkLaneTest (c : Cmd)
  /-- Command returning a module's state, identity, delays and sensors (R205). -/
  | hlkModuleRead (c : Cmd)
  /-- Command starting or stopping a purge on named modules in SERVICE (R209). -/
  | hlkPurge (c : Cmd)
  /-- Command setting reject gate, verdict distance and checkpoint horizon (R236). -/
  | ldgConfigSet (c : Cmd)
  /-- Command naming, enabling or disabling the host ledger ring (R229). -/
  | ldgStreamSet (c : Cmd)
  /-- Command acknowledging delivered ledger blocks and freeing them (R230). -/
  | ldgBlockAck (c : Cmd)
  /-- Command returning a ticket's state, void reason, flags and record (R216). -/
  | ldgTicketQuery (c : Cmd)
  /-- Command voiding ticket ranges with reason HOST and broadcasting them (R220). -/
  | ldgVoid (c : Cmd)
  /-- Command closing the open ledger block with cause HOST (R225). -/
  | ldgSeal (c : Cmd)
  /-- Command configuring a stopped camera pipeline (R241). -/
  | insCameraSet (c : Cmd)
  /-- Command moving a camera pipeline from STOPPED to WAITING (R242). -/
  | insCameraStart (c : Cmd)
  /-- Command stopping a camera pipeline (R242). -/
  | insCameraStop (c : Cmd)
  /-- Command committing a new exposure epoch for a future strip (R250). -/
  | exposureSet (c : Cmd)
  /-- Command setting comparison and stripe-judgment parameters (R256). -/
  | insCompareSet (c : Cmd)
  /-- Command setting the display surface format, size and origin (R253). -/
  | insDisplaySet (c : Cmd)
  /-- Command naming, enabling or disabling a camera's output ring and planes (R252). -/
  | insOutputSet (c : Cmd)
  /-- Command freeing delivered strip frames up to a strip (R252). -/
  | insOutputAck (c : Cmd)
  /-- Command declaring a nozzle-check stripe in a page not begun (R258). -/
  | insStripeAdd (c : Cmd)
  /-- Command returning a strip's statistics (R249). -/
  | insStatsRead (c : Cmd)
  /-- Command setting SPARE or HOLD policy, tolerances, triggers and timeout (R271). -/
  | calPolicySet (c : Cmd)
  /-- Command queuing calibration runs for a type and target (R266). -/
  | calRun (c : Cmd)
  /-- Command giving a pass's external reference reading (R265). -/
  | calReference (c : Cmd)
  /-- Command declaring a calibration patch in a page not begun (R272). -/
  | calPatchAdd (c : Cmd)
  /-- Command aborting a run with reason HOST (R266). -/
  | calAbort (c : Cmd)
  /-- Command returning the latest run result for a type and target (R267). -/
  | calResultRead (c : Cmd)
  /-- Command setting corrections of a type and target to their defaults (R270). -/
  | calClear (c : Cmd)
  /-- Command setting thermal hysteresis, tolerances, margins and equaliser offsets (R281). -/
  | thmConfigSet (c : Cmd)
  /-- Command returning failed sensors to healthy (R279). -/
  | thmSensorClear (c : Cmd)
  /-- Command configuring a stopped axis and clearing its referenced flag (R295). -/
  | axsConfigSet (c : Cmd)
  /-- Command moving an axis from STOPPED to IDLE and starting set-point frames (R300). -/
  | axsStart (c : Cmd)
  /-- Command halting an axis, to IDLE with keep_run or to STOPPED (R300). -/
  | axsStop (c : Cmd)
  /-- Command starting or replanning a position or velocity move (R302). -/
  | axsMove (c : Cmd)
  /-- Command homing an axis by its configured method (R306). -/
  | axsHome (c : Cmd)
  /-- Command leaving FAULT and aligning commanded to feedback position (R305). -/
  | axsFaultClear (c : Cmd)
  /-- Command setting the view mode, mapping, watermark and border colour (R317). -/
  | viewModeSet (c : Cmd)
  /-- Command starting the view output (R317). -/
  | viewStart (c : Cmd)
  /-- Command stopping the view output at the next latch point (R317). -/
  | viewStop (c : Cmd)
  /-- Command committing a frame-address set for a future frame (R319). -/
  | viewFrameSet (c : Cmd)
  /-- Command setting event-log selection and update health timeout (R348). -/
  | mssConfigSet (c : Cmd)
  /-- Command returning the device public key and its endorsement (R331). -/
  | mssKeyRead (c : Cmd)
  /-- Command erasing the inactive image slot (R341). -/
  | mssUpdateBegin (c : Cmd)
  /-- Command writing image data into the inactive slot (R341). -/
  | mssUpdateWrite (c : Cmd)
  /-- Command verifying the written image (R341). -/
  | mssUpdateVerify (c : Cmd)
  /-- Command activating a verified image live or at next reset (R342). -/
  | mssUpdateActivate (c : Cmd)
  /-- Command raising the OTP minimum security version and revoking root keys (R330). -/
  | mssRollbackFence (c : Cmd)
  /-- Command blowing the seal fuse and closing debug access (R345). -/
  | mssSeal (c : Cmd)
  /-- Command returning event-log entries with the anchor (R340). -/
  | mssLogRead (c : Cmd)
  /-- Command returning a signed attestation report (R346). -/
  | attest (c : Cmd)
  /-- Host write of a new Command Ring tail, after which the device begins commands lying before it (R48). -/
  | cmdTailDb (t : Time) (v : BitVec 32) (readFails : Bool)
  /-- Host write freeing Reply Ring entries, so waiting commands and held relayed replies proceed (R55). -/
  | rplHeadDb (t : Time) (v : BitVec 32)
  /-- Host write freeing Event Ring entries, so buffered events are written (R61). -/
  | evtHeadDb (t : Time) (v : BitVec 32)
  /-- Host write that moves the host watchdog deadline (R68). -/
  | hostHeartbeat (t : Time) (v : BitVec 32)
  /-- Setting enable on the Command Ring, which checks configuration and enables or errors (R44). -/
  | cmdRingEnable (t : Time)
  /-- Clearing enable on the Command Ring after the command in progress (R44). -/
  | cmdRingDisable (t : Time)
  /-- Setting enable on the Reply Ring (R44). -/
  | rplRingEnable (t : Time)
  /-- Clearing enable on the Reply Ring, which disables the Command Ring with it (R44). -/
  | rplRingDisable (t : Time)
  /-- Setting enable on the Event Ring (R44). -/
  | evtRingEnable (t : Time)
  /-- Clearing enable on the Event Ring, so events are held on chip (R44). -/
  | evtRingDisable (t : Time)
  /-- Write to a BAR0 register with no behaviour of its own, or a discarded write (R42). -/
  | bar0RegisterWrite (t : Time) (offset size : Nat) (v : BitVec 64)
  /-- Expiry of an interrupt source's coalescing time, sending its MSI-X message (R62). -/
  | coalesceTimeout (t : Time) (source : Fin 5)
  /-- Each whole millisecond of device time HUB increments DEV_HEARTBEAT (R64). -/
  | devHeartbeatTick (t : Time)
  /-- FLR returns BAR0 rings and interrupts to reset values and drops unbegun commands (R40). -/
  | functionLevelReset (t : Time)
  /-- PCIe link loss: DMA stops, replies and events held, loads in progress fail (R40). -/
  | linkDown (t : Time)
  /-- PCIe link returns and EV_PCIE_LINK is written (R40). -/
  | linkUp (t : Time) (gen width : Nat)
  /-- Host clears Bus Master Enable, with the effect of link down (R40). -/
  | busMasterEnableCleared (t : Time)
  /-- Host puts the function in D3hot, with the effect of link down (R40). -/
  | d3hotEntry (t : Time)
  /-- Assertion of power-on reset at supply rise or a supply below 90 % (R355). -/
  | powerOnReset (t : Time)
  /-- Release 10 ms after supplies, REFCLK_SYS and RESET_N are good; device time 0 and BOOT begins (R355). -/
  | powerOnResetRelease (t : Time)
  /-- RESET_N driven low, starting a power-on reset after any page program (R355). -/
  | resetNLow (t : Time)
  /-- PCIe fundamental reset asserted, resetting every block (R89). -/
  | perst (t : Time)
  /-- PERST# deasserted; device time starts at 0 and BOOT begins (R89). -/
  | perstRelease (t : Time)
  /-- 1 ms after the DEVICE_RESET reply the device resets to BOOT (R23). -/
  | deviceResetExecute (t : Time)
  /-- Boot state ROM completes OTP read and RNG health test (R30). -/
  | romDone (t : Time) (rngOk : Bool)
  /-- Image slot verification completes, loading an image or falling back or failing (R336). -/
  | imageDone (t : Time) (reasonA reasonB : Nat) (board : Option ImageSlot) (hubOk : Bool)
  /-- Built-in test of SRAMs completes, recording failed blocks (R31). -/
  | selftestDone (t : Time) (failed : BitVec 16)
  /-- Journal check and mirror comparison complete (R339). -/
  | nvmCheckDone (t : Time) (ok0 ok1 : Bool)
  /-- DDR5 initialisation, delay measurement and zero fill complete (R30). -/
  | dramInitDone (t : Time) (ok : Bool)
  /-- Ledger recovery step 1 completes and boot state becomes READY (R235). -/
  | recoveryDone (t : Time)
  /-- A scheduled mode transition takes effect in every block at its instant (R27). -/
  | modeTransitionInstant (t : Time) (line : Option Int)
  /-- Last line of the drained row fired and receipted; device goes to ARMED or STANDBY (R24). -/
  | drainComplete (t : Time)
  /-- Device enters PRINT by itself at a row boundary once the resume condition holds (R26). -/
  | autoResume (t : Time)
  /-- The host watchdog deadline passes and its action is carried out once (R68). -/
  | hostWatchdogExpiry (t : Time)
  /-- An open interlock combination held 10 µs is confirmed and sets the SAFE cause (R365). -/
  | interlockOpen (t since : Time)
  /-- The closed combination held 10 ms clears the interlock cause (R365). -/
  | interlockClose (t since : Time)
  /-- Enumeration token received, taken, refused or returned to its issuer (R77). -/
  | enum (t : Time) (h : RingHdr) (fill : Bool) (next : Nat) (units : List Assigned)
  /-- Address assignment received with its adoption instant (R77). -/
  | enumCommit (t : Time) (h : RingHdr) (units : List Assigned) (adopt : Time)
  /-- Enumeration abort received; pending addresses are discarded (R77). -/
  | enumAbort (t : Time) (h : RingHdr) (status : BitVec 16) (token : BitVec 64)
  /-- At the adoption instant each unit adopts its address and rebuilds the map (R78). -/
  | enumAdopt (t : Time)
  /-- Token not returned 10 ms after issue; issuer aborts the enumeration (R77). -/
  | enumTimeout (t : Time)
  /-- A unit that missed the abort discards its pending address at its commit timeout (R77). -/
  | pendingAddressTimeout (t : Time)
  /-- LINK_STATE packet received, updating ring state and routing (R75). -/
  | linkState (t : Time) (h : RingHdr) (eastUp westUp announced : Bool) (mode : BitVec 3) (lastValid : Time)
  /-- Neighbour acknowledgement releasing retransmission copies (R72). -/
  | hopAck (t : Time) (h : RingHdr) (upTo : BitVec 16)
  /-- Ring TIME packet received for link-delay and time transfer (R94). -/
  | ringTime (t : Time) (h : RingHdr) (roundTrip : Nat) (offset : Int) (auto slave : Bool)
  /-- Every 100 µs a unit sends TIME packets to each neighbour (R94). -/
  | ringTimeExchange (t : Time)
  /-- Relayed command received at its target and applied as if local (R79). -/
  | cmd (t : Time) (h : RingHdr) (opcode : BitVec 16) (c : Cmd)
  /-- Relayed reply received and written to the source's Reply Ring (R80). -/
  | rpl (t : Time) (h : RingHdr) (r : Reply)
  /-- Forwarded events received and written with the remote bit (R86). -/
  | evt (t : Time) (h : RingHdr) (es : List Event)
  /-- Void broadcast received; listed tickets voided or entered in the pending-void table (R85). -/
  | void (t : Time) (h : RingHdr) (reason : BitVec 8) (ranges : List TicketRange)
  /-- Two-phase PREPARE received; participant validates, holds the change and votes (R82). -/
  | prepare (t : Time) (h : RingHdr) (txn : BitVec 16) (timeoutMs : Nat) (opcode : BitVec 16) (c : Cmd)
  /-- Vote received by the coordinator, leading to COMMIT or ABORT once all are in (R82). -/
  | vote (t : Time) (h : RingHdr) (txn : BitVec 16) (status : BitVec 16) (result : Bytes)
  /-- COMMIT received carrying the commit instant (R82). -/
  | commit (t : Time) (h : RingHdr) (txn : BitVec 16) (instant : Time)
  /-- Two-phase ABORT received; the prepared change is discarded (R82). -/
  | abort (t : Time) (h : RingHdr) (txn : BitVec 16)
  /-- At commit instant T each unit applies the prepared change (R82). -/
  | commitInstant (t : Time)
  /-- A participant has not voted within vote_timeout; coordinator aborts (R82). -/
  | voteTimeout (t : Time)
  /-- A prepared change with no COMMIT or ABORT is discarded at the commit timeout (R83). -/
  | prepareExpired (t : Time)
  /-- No reply to a relayed command within relay_timeout (R80). -/
  | relayTimeout (t : Time)
  /-- Ring snapshot packet received, arming the instant or missing it (R87). -/
  | snap (t : Time) (h : RingHdr) (instant : Time)
  /-- Packet with bad CRC or reserved type discarded and counted (R70). -/
  | ringPacketBad (t : Time) (port : RingPort)
  /-- An UP ring port loses lock or hears no valid block for 16 µs (R74). -/
  | ringPortFailed (t : Time) (port : RingPort) (lastValid : Time)
  /-- A hunting port held lock and exchanged LINK_STATE for 10 ms (R74). -/
  | ringPortUp (t : Time) (port : RingPort)
  /-- Wrapped and resent packets delivered after a break (R76). -/
  | ringRerouteDone (t : Time)
  /-- Every 256 ns MER's beacon corrects each island's copy of device time (R18). -/
  | islandTimeBeacon (t : Time) (block : Fin 16) (lane residual : Nat)
  /-- Reference clock monitor finds REFCLK_SYS missing or out of tolerance (R18). -/
  | referenceClockFault (t : Time) (missing : Bool) (ppm : Int)
  /-- A pending step of device time takes effect once R91 permits it (R91). -/
  | stepApply (t : Time)
  /-- A Sync or Follow_Up message updates the domain servo and lock state (R97). -/
  | ptpSyncReceived (t : Time) (d : Fin 2) (offset : Int)
  /-- An Announce message feeds the best master clock algorithm (R95). -/
  | ptpAnnounceReceived (t : Time) (d : Fin 2) (a : Announce)
  /-- A Delay_Resp or Pdelay_Resp completes a path-delay measurement (R95). -/
  | ptpDelayRespReceived (t : Time) (d : Fin 2) (delay : Int)
  /-- A Pdelay_Req is answered with Pdelay_Resp and possibly a follow-up (R96). -/
  | ptpPdelayReqReceived (t : Time) (d : Fin 2)
  /-- At the delay request interval the device sends Delay_Req or Pdelay_Req (R96). -/
  | ptpDelayReqSend (t : Time) (d : Fin 2)
  /-- No Sync for 8 sync intervals returns a domain to UNCALIBRATED (R97). -/
  | ptpSyncTimeout (t : Time) (d : Fin 2)
  /-- No Announce for 3 intervals returns a domain to LISTENING (R97). -/
  | ptpAnnounceTimeout (t : Time) (d : Fin 2)
  /-- A returning preferred domain or lower master has held SLAVE for revert_holdoff (R93). -/
  | revertHoldoffExpiry (t : Time)
  /-- A network port's link goes down or up, moving its domains to FAULTY or LISTENING (R97). -/
  | netLinkChange (t : Time) (p : Fin 2) (up : Bool)
  /-- A received non-PTP frame is dropped and counted (R96). -/
  | nonPtpFrame (t : Time) (p : Fin 2)
  /-- A window generator's boundary ends one window and starts the next (R99). -/
  | windowBoundary (t : Time) (g : Fin 8)
  /-- Every block latches its snapshot set at the snapshot instant (R102). -/
  | snapshotInstant (t : Time)
  /-- Snapshot copy finishes and SNAP_SEQ returns to even (R66). -/
  | snapshotPublished (t : Time)
  /-- An edge of the selected polarity on SNAP_IN is timestamped (R103). -/
  | snapInEdge (t : Time) (rising : Bool)
  /-- The edge held for snap_in_filter is accepted and arms an instant 2 µs later (R103). -/
  | snapInAccepted (t : Time)
  /-- A SNAP_OUT pulse ends after snap_out_width (R104). -/
  | snapOutPulseEnd (t : Time)
  /-- A valid quadrature transition counts, feeds the Regulator, pulse output and schedule tests (R107). -/
  | encoderCount (t : Time) (x : Fin 2) (reverse valid : Bool)
  /-- An output pulse ends after width_ns and a waiting pulse may start (R123). -/
  | pulseWidthEnd (t : Time)
  /-- An index pulse references the count or is checked and corrected (R115). -/
  | encoderIndex (t : Time) (x : Fin 2)
  /-- An encoder line held in the fail-safe region for 200 ns makes the encoder FAULTY (R109). -/
  | receiverFault (t : Time) (x : Fin 2)
  /-- A fault cause clears after its hold time and the encoder may return to HEALTHY (R109). -/
  | encoderCauseClear (t : Time) (x : Fin 2) (cause : Fin 6)
  /-- standstill_timeout after the last count standstill is declared and the Regulator enters HOLD (R112). -/
  | standstillDeclared (t : Time) (x : Fin 2)
  /-- Line position q reaches a slot number; high-water mark, test B and agreement check run (R161). -/
  | slotBoundary (t : Time) (n : Int)
  /-- Each whole millisecond at standstill the encoder agreement is checked (R119). -/
  | agreementMsCheck (t : Time)
  /-- ESC fixes a slot's instants and hands them to HLK once all conditions hold (R166). -/
  | slotFix (t : Time)
  /-- Velocity below 95 % for 10 ms returns WARN to NORMAL (R173). -/
  | overspeedWarnClear (t : Time)
  /-- The qualifying run reaches one ticket pitch and TRIPPED ends (R173). -/
  | overspeedQualified (t : Time)
  /-- A slot's last row instant passes; flow count, blank-pitch records and fire reports follow (R145). -/
  | slotFired (t : Time) (n : Int)
  /-- A page load ends RESIDENT or INVALID (R128). -/
  | pageLoadEnd (t : Time) (id : BitVec 32) (o : LoadEnd)
  /-- The patrol scrub reads a burst, writing back corrections (R136). -/
  | patrolScrubRead (t : Time) (addr : Nat) (f : ScrubFind)
  /-- Every 16 ms MEM reads mode register 4 of every rank and sets refresh (R138). -/
  | dramTempRead (t : Time) (temps : List DramTemp)
  /-- After every rank reads 85 °C or below for 1 s refresh returns to 1x (R138). -/
  | refreshRelax (t : Time)
  /-- An all-bank refresh, at which a sub-channel switches delay set (R138). -/
  | allBankRefresh (t : Time) (channel sub : Fin 2)
  /-- A delay measurement completes (R138). -/
  | delayMeasureDone (t : Time) (ok : Bool) (eye : Nat)
  /-- The DRAM description NVM write completes (R135). -/
  | dramDescribeDone (t : Time) (ok0 ok1 : Bool)
  /-- GRT fetches and assembles one fire slot's module payloads (R148). -/
  | lineFetch (t : Time) (n : Int) (blank : List (Fin 24 × Position × Nat)) (ecc : List (Fin 24 × Fin 4)) (corrected : Nat)
  /-- HLK sends a slot's pairs to a module once ready and O is below Q (R197). -/
  | slotSend (t : Time) (m : Fin 24) (n : Int)
  /-- HLK sends a TIME block on every lane each time_period (R193). -/
  | timeBlockSend (t : Time)
  /-- A module's TIME echo updates lane delay and time error (R193). -/
  | timeEchoReceived (t : Time) (lane : Fin 48) (tag : BitVec 8) (t2 : BitVec 40) (fraction : BitVec 13) (turnaround : BitVec 32)
  /-- IDENT checked and accepted, or the module refused (R203). -/
  | identReceived (t : Time) (lane : Fin 48) (id : Ident)
  /-- STATUS block gives head temperatures, queue and fault state (R196). -/
  | statusReceived (t : Time) (lane : Fin 48) (st : HeadStatus)
  /-- A group receipt is checked against the expected bitmap and CRC (R202). -/
  | receiptReceived (t : Time) (lane : Fin 48) (group : BitVec 16) (bitmap : BitVec 64) (crc : BitVec 32)
  /-- No receipt 100 µs after a group's last row instant (R202). -/
  | receiptTimeout (t : Time) (m : Fin 24) (group : Int)
  /-- A module acknowledges a REVOKE or FAILOVER (R200). -/
  | revokeAckReceived (t : Time) (lane : Fin 48) (gen : BitVec 8) (a : BitVec 24) (failover : Bool)
  /-- A missing acknowledgement 20 µs after detection fails the lane (R204). -/
  | revokeAckTimeout (t : Time) (lane : Fin 48)
  /-- A module reports a pair fired blank; the tickets concerned are voided (R199). -/
  | lineErrReceived (t : Time) (lane : Fin 48) (seq : BitVec 24) (pairCD : Bool) (cause : BitVec 7)
  /-- A module reports loss of a lane, failing it with cause REMOTE (R204). -/
  | laneLossReceived (t : Time) (lane : Fin 48) (lostB : Bool) (highest : BitVec 24) (loss : BitVec 40)
  /-- 64 consecutive valid headers give block lock (R186). -/
  | blockLock (t : Time) (lane : Fin 48)
  /-- A head lane loses block lock and fails (R186). -/
  | lockLost (t : Time) (lane : Fin 48) (lastValid : Time)
  /-- No valid block for 2 µs is declared silence and fails the lane (R187). -/
  | laneSilence (t : Time) (lane : Fin 48) (lastValid : Time)
  /-- 1 ms after failure a lane returns to HUNT (R204). -/
  | laneRetry (t : Time) (lane : Fin 48)
  /-- A recovered lane held OPERATIONAL for restore_hold restores SPLIT (R207). -/
  | restoreHoldExpiry (t : Time) (m : Fin 24)
  /-- An eye scan completes or ends by failure (R211). -/
  | eyeScanDone (t : Time) (lane : Fin 48) (left right upper lower : Nat)
  /-- A lane test reaches its duration and the lane returns to HUNT (R212). -/
  | laneTestDone (t : Time) (lane : Fin 48) (errors bitsCompared losses : Nat) (locked : Bool)
  /-- A purge ends after its last receipt or by stop, mode, limit or loss (R209). -/
  | purgeEnd (t : Time)
  /-- Line position reaches F plus p plus verdict_distance and waiting tickets close (R218). -/
  | verdictDeadline (t : Time)
  /-- An open ledger block closes 1 s after it opened (R225). -/
  | ledgerBlockTimeClose (t : Time)
  /-- MSS writes a block's signature and the block is sealed (R332). -/
  | blockSigned (t : Time)
  /-- A sealed block is written to the host ledger ring once space is free (R229). -/
  | ledgerFrameDelivery (t : Time) (dmaOk : Bool)
  /-- LDG starts a checkpoint write when one of its triggers falls due (R231). -/
  | checkpointWrite (t : Time)
  /-- A checkpoint commits or fails on both mirrors (R231). -/
  | checkpointCommit (t : Time) (ok0 ok1 : Bool)
  /-- A CSI-2 Frame Start places a new strip and applies its exposure epoch (R243). -/
  | frameStart (t : Time) (c channel : Fin 4)
  /-- A long packet line is received, placed and reconstructed (R244). -/
  | csiLine (t : Time) (c : Fin 4) (p : CsiPacket)
  /-- A strip ends and is judged, stored, compared and statistics computed (R244). -/
  | frameEnd (t : Time) (c channel : Fin 4)
  /-- Position reaches a ticket's imaging point with no covering camera running; verdict given (R257). -/
  | verdictMoment (t : Time)
  /-- PHY loss, sync error, header errors or overrate make a camera FAULTY (R242). -/
  | cameraFault (t : Time) (c cause : Fin 4)
  /-- Pulses for strip_timeout with no line make a camera FAULTY (R242). -/
  | cameraSilent (t : Time) (c : Fin 4)
  /-- Every cause absent for 100 ms returns a camera to WAITING (R242). -/
  | cameraRecover (t : Time) (c : Fin 4)
  /-- A stored strip is written to the host output ring once space is free (R252). -/
  | insFrameDelivery (t : Time) (c : Fin 4) (dmaOk : Bool)
  /-- Every 100 ms CAL compares temperatures and queues due runs (R268). -/
  | calTriggerCheck (t : Time)
  /-- run_timeout elapses since PASS1 and the run is aborted (R266). -/
  | calRunTimeout (t : Time)
  /-- Every 100 µs die sensors convert; die band, level and shutdown are decided (R277). -/
  | dieSensorReading (t : Time) (readings : List Int)
  /-- Every 1 ms each healthy sensor is checked for deviation and staleness (R278). -/
  | sensorCrossCheck (t : Time)
  /-- 2 ms after a shutdown trigger the core is powered down (R288). -/
  | corePowerDown (t : Time)
  /-- Every 16 µs the profile generator updates and a set-point frame is sent (R294). -/
  | setpointFrame (t : Time)
  /-- An SSI read completes or fails with TIMEOUT, ERROR or CRC (R298). -/
  | ssiReadDone (t : Time) (a : Fin 2) (lineOk : Bool) (bits : List Bool)
  /-- An axis feedback quadrature transition, including the Z index for homing (R297). -/
  | axisFeedbackCount (t : Time) (a : Fin 2) (e : AxisEdge)
  /-- A feedback fault cause takes the axis to FAULT with a hard stop (R299). -/
  | feedbackFault (t : Time) (a : Fin 2) (cause : Fin 5)
  /-- A feedback cause clears after valid input (R299). -/
  | feedbackCauseClear (t : Time) (a : Fin 2) (cause : Fin 5)
  /-- A raw edge into the active level starts a switch candidate (R303). -/
  | switchEdge (t : Time) (a : Fin 2) (w : Fin 3) (high : Bool)
  /-- A candidate held for switch_filter is confirmed and acts (R303). -/
  | switchConfirm (t : Time) (a : Fin 2) (w : Fin 3)
  /-- A switch inactive for switch_filter is released (R303). -/
  | switchRelease (t : Time) (a : Fin 2) (w : Fin 3)
  /-- Following error beyond the window for stall_time stalls the axis (R305). -/
  | axisStall (t : Time) (a : Fin 2)
  /-- search_limit counts travelled with no Benchmark; homing fails (R307). -/
  | homingSearchLimit (t : Time) (a : Fin 2)
  /-- hold_delay after velocity reaches zero the current drops to hold_current (R296). -/
  | holdDelayExpiry (t : Time) (a : Fin 2)
  /-- The 100 ms wait and 10 ms averaging of an AXIS_SCALE pass elapse (R308). -/
  | axisScaleSettle (t : Time) (a : Fin 2)
  /-- A view frame begins; the frame-address set is transferred and read-back compared (R318). -/
  | latchPoint (t : Time) (pad0 pad1 : Option (BitVec 32))
  /-- The pixel clock locks and frame 0 begins (R317). -/
  | pixelClockLock (t : Time)
  /-- No lock within 5 ms of VIEW_START returns the output to STOPPED (R317). -/
  | pixelClockTimeout (t : Time)
  /-- A view line is scanned out from the line buffer (R323). -/
  | viewLineStart (t : Time) (n : Nat) (dataTo : Option Nat) (level : BitVec 16)
  /-- The lockstep comparator finds a mismatch; SAFE and the reset sequence begin (R328). -/
  | lockstepMismatch (t : Time)
  /-- 2 ms after a lockstep mismatch or watchdog expiry the device resets to BOOT (R328). -/
  | lockstepReset (t : Time)
  /-- The MSS watchdog expires and the reset sequence runs with cause 4 (R329). -/
  | mssWatchdogExpiry (t : Time)
  /-- A random number generator health test fails (R333). -/
  | trngHealthFailure (t : Time) (test : Nat)
  /-- A supply outside ±3 % for 100 µs raises a warning (R344). -/
  | supplyWarning (t : Time) (supply : Fin 7) (mv : Nat)
  /-- A supply outside ±5 % for 10 µs sets the SAFE cause supply monitor (R344). -/
  | supplyFault (t : Time) (supply : Fin 7) (mv : Nat)
  /-- Core or SRAM supply below −8 % for 2 µs starts the shutdown sequence (R344). -/
  | supplyCollapse (t : Time) (supply : Fin 2) (mv : Nat)
  /-- A supply within ±3 % for 100 ms clears its warning or fault (R344). -/
  | supplyClear (t : Time) (supply : Fin 7) (mv : Nat)
  /-- After a collapse both supplies within ±5 % for 10 ms let the core boot (R344). -/
  | coreRestart (t : Time)
  /-- The inactive slot erase completes and the update enters WRITING (R341). -/
  | slotEraseDone (t : Time) (ok0 ok1 : Bool)
  /-- Verification of the written image completes (R341). -/
  | updateVerifyDone (t : Time) (signatureOk readOk decryptOk : Bool)
  /-- At T_a the ledger block closes and the cores switch code bank (R342). -/
  | activation (t : Time) (begin : Option Int)
  /-- The trial image confirms itself and becomes preferred (R343). -/
  | imageConfirm (t : Time)
  /-- health_timeout passes without confirmation (R343). -/
  | trialTimeout (t : Time)
  /-- At the next row begin slot MSS switches back to the old bank (R343). -/
  | trialRevert (t : Time) (begin : Option Int)
  /-- A journal record write commits on both devices or fails (R338). -/
  | journalCommit (t : Time) (ok0 ok1 : Bool)
  /-- Log entries are programmed to both devices, erasing the oldest sector after its anchor (R340). -/
  | eventLogAppend (t : Time) (ok0 ok1 : Bool)
  /-- The host unmasks an MSI-X vector or enables an interrupt source, and a pending message is then sent (R62). -/
  | msiXUnmask (t : Time) (u : Unmask)
  /-- The host sets Bus Master Enable again, ending the link-down-like condition so that held replies, events and DMA resume (R40). -/
  | busMasterEnableSet (t : Time)
  /-- The host returns the function from D3hot to D0, ending the link-down-like condition (R40). -/
  | d3hotExit (t : Time)
  /-- A lane's next IDLE block is sent, at which a new equaliser preset for the die band or an accepted sampler correction is applied (R211). -/
  | nextIdleBlock (t : Time) (lane : Fin 48)
  deriving DecidableEq, Repr

end Sys2Proof
end

