-- ==== Sys2Proof/Config.lean ====
section
/-! DEFINITION. What an implementation of the part fixes and the spec does not, and the free values. Every constant
here is opaque: nothing in Lean can say what it is, so a statement about it holds whatever it is. -/
namespace Sys2Proof

/-- A free natural number: `freeNat tag n` is the n-th open value drawn for the purpose `tag` (log entry 4). -/
opaque Config.freeNat : Nat → Nat → Nat

/-- A free integer, drawn as `freeNat` is (log entry 4). -/
opaque Config.freeInt : Nat → Nat → Int

/-- A free choice, drawn as `freeNat` is (log entry 4). -/
opaque Config.freeBool : Nat → Nat → Bool

/-- The device's 64-bit serial number, "any" in IDENTIFY's reply (02, IDENTIFY; log entry 5). -/
opaque Config.deviceSerial : BitVec 64

/-- The boot ROM's version, "any" in IDENTIFY's reply (02, IDENTIFY; log entry 5). -/
opaque Config.romVersion : BitVec 32

/-- The device public key, 96 bytes (R331; log entry 5). -/
opaque Config.devicePublicKey : List (BitVec 8)

/-- The endorsement of the device public key, 96 bytes (R331; log entry 5). -/
opaque Config.endorsement : List (BitVec 8)

/-- The 96 bytes r, s of the ECDSA P-384 signature of the device key over a digest (R228, R332, R346; log entry 5). -/
opaque Config.sign : List (BitVec 8) → List (BitVec 8)

end Sys2Proof
end

