-- ==== Sys2Proof/Machine/State.lean ====
section
/-! DEFINITION. The state of the block as plain data: one structure for each block of the device (R16), the queue of
the commands that wait, the record of what the device has sent out of its ports, and the state right after reset. -/
namespace Sys2Proof.Machine

/-- The closed list of faults. No meaning of this model raises one: every command the spec describes has an effect. -/
inductive Fault where
  /-- Raised by nothing; it keeps the type inhabited. Safe. -/
  | none
  deriving DecidableEq, Repr

/-- The closed list of refusals. -/
inductive Refusal where
  /-- Raised by an arm of `exec` that has no meaning yet. Safe: the machine stops. -/
  | notModelled (mnemonic : String)
  deriving DecidableEq, Repr

/-- The eight operating modes with their codes 0 to 7 (R22). -/
inductive Mode where
  | boot | standby | service | calibrate | armed | print | drain | safe
  deriving DecidableEq, Repr

/-- The boot states with their codes 0 to 7 (R30). -/
inductive BootState where
  | rom | image | selftest | nvm | dram | recovery | ready | failed
  deriving DecidableEq, Repr

/-- When a scheduled transition takes effect (R27). -/
inductive Due where
  /-- at a device-time instant (host-commanded transitions) -/
  | instant (t : Time)
  /-- at the first line boundary after the instant (automatic transitions) -/
  | line (after : Time)
  /-- into PRINT: at the boundary of the first slot P that meets the conditions of R27, not before the instant -/
  | print (notBefore : Time)
  /-- at the boundary of a named slot (the end of the print queue, R132) -/
  | slot (n : Int)
  deriving DecidableEq, Repr

/-- A transition that is scheduled and not yet reached (R27). -/
structure Transition where
  target : Mode
  due : Due
  /-- cause code of EV_MODE_CHANGED -/
  cause : Nat
  /-- origin of the requesting command, as EV_MODE_CHANGED byte 3 -/
  origin : Nat
  /-- sequence number of that command -/
  seq : Nat
  /-- auto_resume of the MODE_SET that enters PRINT (R26) -/
  autoResume : Bool := false
  /-- device time of the trigger -/
  since : Time := 0
  deriving DecidableEq, Repr

/-- One standing cause of the SAFE cause set: its bit in HUB_SAFE_CAUSE, the block that raised it, and when. -/
structure CauseRec where
  bit : Nat
  block : Nat
  t : Time
  deriving DecidableEq, Repr

/-- One ring's registers and indices (R41, R43). The Command Ring's `idx` is CMD_HEAD and its `other` the tail the
doorbell gave. The other rings' `idx` is the tail and `other` the head the doorbell gave. -/
structure RingRegs where
  base : BitVec 64 := 0
  /-- lower half of BASE written and not yet followed by its upper half (R42) -/
  baseLow : Option (BitVec 32) := none
  size : BitVec 32 := 0
  /-- CTRL bit 0 as the host wrote it -/
  ctrl : Bool := false
  /-- STATUS.enabled -/
  enabled : Bool := false
  /-- STATUS.error -/
  error : Bool := false
  /-- queue error code -/
  code : BitVec 8 := 0
  /-- current phase (Reply Ring and Event Ring) -/
  phase : Bool := false
  idx : Nat := 0
  other : Nat := 0
  deriving DecidableEq, Repr

/-- Coalescing state of one interrupt source (R62). -/
structure IntSource where
  /-- entries written since the last message -/
  count : Nat := 0
  /-- when the oldest of them was written -/
  oldest : Time := 0
  deriving DecidableEq, Repr

/-- A command that lies in the Command Ring and that the device has not begun (R48). -/
structure Placed where
  opcode : Nat
  cmd : Cmd
  deriving DecidableEq, Repr

/-- BAR0 and the three rings (R41 to R46, R61, R62). -/
structure Bar0 where
  cmd : RingRegs := {}
  rpl : RingRegs := {}
  evt : RingRegs := {}
  /-- INT_MAP0 to INT_MAP4 -/
  intMap : Tab Nat (BitVec 32) := []
  coalReply : BitVec 32 := 0x00010001
  coalEvent : BitVec 32 := 0x00010001
  /-- MSI-X table as 32-bit words; an unlisted entry is the PCI Express reset value (mask bit set, all else 0) -/
  msix : Tab Nat (BitVec 32) := []
  /-- pending bits by vector -/
  pba : List Nat := []
  /-- a disabled interrupt source that has a message pending -/
  srcPending : List Nat := []
  sources : Tab Nat IntSource := []
  /-- commands placed and not begun, in ring order -/
  placed : List Placed := []
  /-- the on-chip event buffer (R61) -/
  buffer : List Event := []
  lostInfo : Nat := 0
  lostWarn : Nat := 0
  lostFault : Nat := 0
  /-- relayed replies held until the Reply Ring has room (R56) -/
  heldReplies : List Reply := []
  deriving DecidableEq, Repr

/-- The PCI Express link and function (R39, R40). -/
structure Link where
  up : Bool := true
  busMaster : Bool := true
  d3hot : Bool := false
  gen : Nat := 4
  width : Nat := 4
  downCount : Nat := 0
  deriving DecidableEq, Repr

/-- What is left of a drain (R24, R26): its cause code, and the auto-resume request. -/
structure Resume where
  cause : Nat
  /-- since when, at which line position, the resume condition holds without a break -/
  since : Option Int := none
  deriving DecidableEq, Repr

/-- The sets every block latches at one snapshot instant (R66, R102). -/
structure SnapCopy where
  t : Time
  source : Nat
  words : List (Nat × Nat × Bytes)
  deriving DecidableEq, Repr

/-- HUB: mode control, feature negotiation, epoch, watchdog (02, 03). -/
structure Hub where
  mode : Mode := .boot
  bootState : BootState := .rom
  /-- host-commanded transition scheduled (R27) -/
  trans : Option Transition := none
  /-- automatic transition scheduled: into DRAIN or into SAFE (R23, R27) -/
  auto : Option Transition := none
  /-- drain target: false ARMED, true STANDBY (R24) -/
  drainStandby : Bool := false
  safe : List CauseRec := []
  lastCause : BitVec 8 := 10
  modeTime : Time := 0
  /-- word 0 of the accepted features; words 1 to 3 offer nothing -/
  features : BitVec 32 := 0
  /-- features accepted and not yet in force: FEATURE_ACCEPT is scheduled -/
  accepted : Option (BitVec 32) := none
  cfgCount : BitVec 32 := 0
  /-- auto-resume asked for by the MODE_SET that entered PRINT (R26) -/
  autoResume : Bool := false
  /-- cause of the present or last drain -/
  drainCause : Nat := 0
  resume : Option Resume := none
  bootFaults : BitVec 16 := 0
  bistFailed : BitVec 16 := 0
  wdDeadline : Option Time := none
  wdLast : Time := 0
  /-- DEVICE_RESET accepted: the instant of the reset (R23) -/
  resetAt : Option Time := none
  heartbeat : BitVec 32 := 0
  /-- last whole millisecond counted -/
  heartbeatMs : Nat := 0
  snapSeq : BitVec 32 := 0
  snapSource : BitVec 2 := 0
  snapTime : Time := 0
  /-- latched sets in the order of their instants; the first is being copied while snapSeq is odd (R66) -/
  snapQueue : List SnapCopy := []
  /-- the published snapshot: block, offset in its page, bytes -/
  snapPages : List (Nat × Nat × Bytes) := []
  /-- HUB failed its own built-in test and services no command (R31) -/
  dead : Bool := false
  /-- blocks that have passed built-in test, once SELFTEST is over (R67) -/
  tested : Bool := false
  /-- the device is held in reset: power-on reset or PERST# asserted (R355, R89) -/
  inReset : Bool := false
  /-- interlock as confirmed (R365) -/
  interlockOpen : Bool := false
  deriving DecidableEq, Repr

/-- One setting command's values in a configuration record (R36): the record of a block is the concatenation of its
slots in the order its chapter gives. -/
inductive CfgSlot where
  | hub
  | timeSource | ptp (d : Fin 2) | netPort (p : Fin 2) | snapPin | window (g : Fin 8)
  | encInput (x : Fin 2) | regulator | pulse
  | memPort (p : Fin 7) | memConfig | dram
  | grtBar | grtModule (m : Fin 24) | grtStitch (j : Fin 23)
  | escConfig | runAhead | profile | rowOffset (m : Fin 24)
  | hlkConfig | lane (n : Fin 48)
  | ringConfig | ringPort (p : Fin 2)
  | ldgConfig
  | camera (c : Fin 4) | compare | display
  | view | calPolicy | thermal | axis (a : Fin 2) | mss
  deriving DecidableEq, Repr

/-- What the device has sent out of one of its ports: the model's own record of the device's outputs. -/
inductive Output where
  /-- a reply and the Reply Ring slot and phase of its head entry (R45, R51) -/
  | reply (slot : Nat) (phase : Bool) (r : Reply)
  /-- an event and its Event Ring slot and phase (R45, R59) -/
  | event (slot : Nat) (phase : Bool) (e : Event)
  /-- an MSI-X message (R62) -/
  | msix (vector : Nat)
  /-- a ring packet leaving a port (04) -/
  | ring (port : RingPort) (p : RingPacket)
  /-- a block leaving on a head lane: data or control, and its 128-bit payload (R183) -/
  | block (lane : Nat) (data : Bool) (payload : BitVec 128)
  /-- a frame or wrap frame written to the host ledger ring (R229) -/
  | ledger (offset : Nat) (frame : Bytes)
  /-- a frame or wrap frame written to a camera's output ring (R252) -/
  | frame (camera offset : Nat) (bytes : Bytes)
  /-- a set-point frame of an axis, 24 bits (R294) -/
  | setpoint (axis frame : Nat)
  /-- a PTP message leaving a network port for a domain (R95) -/
  | net (port domain : Nat) (m : PtpMessage)
  /-- a view line on a link: for each link clock the seven slots of D0 to D3, slot 0 first (R315) -/
  | view (link line : Nat) (clocks : List (List (List Bool)))
  deriving DecidableEq, Repr

/-- One PTP domain (R97, MER_PTP_A). -/
structure PtpDomain where
  /-- port state code of IEEE 1588-2019: 2 FAULTY, 3 DISABLED, 4 LISTENING, 8 UNCALIBRATED, 9 SLAVE -/
  state : Nat := 3
  /-- domain time minus device time in 2^-16 ns -/
  offset : Int := 0
  clockClass : BitVec 8 := 0
  accuracy : BitVec 8 := 0
  stepsRemoved : BitVec 16 := 0
  utcOffset : BitVec 16 := 0
  grandmaster : BitVec 64 := 0
  /-- meanPathDelay in 2^-16 ns -/
  pathDelay : Int := 0
  syncs : BitVec 32 := 0
  announceTimeouts : Nat := 0
  /-- consecutive Sync messages inside, and outside, lock_threshold -/
  inLock : Nat := 0
  outLock : Nat := 0
  lastSync : Time := 0
  lastAnnounce : Time := 0
  slaveSince : Time := 0
  deriving DecidableEq, Repr

/-- One window generator: the grid in force, the window in progress, and the changes that wait (R99, R100). -/
structure WindowGen where
  enabled : Bool := false
  /-- period in ticks -/
  period : Nat := 65536000000
  origin : Time := 0
  index : Int := 0
  start : Time := 0
  shortened : Bool := false
  /-- boundaries at which changes take effect, with their parameter bytes, earliest first -/
  waiting : List (Time × Bytes) := []
  deriving DecidableEq, Repr

/-- A pending snapshot instant (R101). -/
structure SnapPending where
  t : Time
  source : Nat
  deriving DecidableEq, Repr

/-- What TIME packets say of another unit (R93). -/
structure TimePeer where
  auto : Bool := true
  slave : Bool := false
  slaveSince : Time := 0
  deriving DecidableEq, Repr

/-- MER, device time (05). -/
structure Mer where
  /-- rate adjustment in ppb -/
  rate : Int := 0
  rateTime : Time := 0
  /-- active source: 0 none, 1 A, 2 B, 3 RING -/
  source : Nat := 0
  holdover : Bool := true
  slewing : Bool := false
  ptpA : PtpDomain := {}
  ptpB : PtpDomain := {}
  /-- ring time master, 0 when none is chosen -/
  master : BitVec 5 := 0
  peers : Tab (BitVec 5) TimePeer := []
  /-- ring time master's time minus device time, in ps -/
  ringOffset : Int := 0
  /-- link delay to each neighbour, east and west, in ticks -/
  linkDelayE : Nat := 0
  linkDelayW : Nat := 0
  /-- a decided step: the delta in ticks and the instant of the decision (R91) -/
  step : Option (Int × Time) := none
  blockedRaised : Bool := false
  islandWorst : BitVec 16 := 0
  islandBlock : BitVec 8 := 0
  /-- islands whose residual is beyond one period: block and lane or pipeline -/
  badIslands : List (Nat × Nat) := []
  refFault : Bool := false
  windows : Tab Nat WindowGen := [(0, { enabled := true })]
  snaps : List SnapPending := []
  snapIn : Nat := 0
  snapInIgnored : Nat := 0
  /-- edge of the selected polarity that waits for the filter -/
  snapEdge : Option Time := none
  /-- SNAP_OUT pulse in progress: its end and its active level (true low) -/
  snapOut : Option (Time × Bool) := none
  linkUp0 : Bool := false
  linkUp1 : Bool := false
  drop0 : Nat := 0
  drop1 : Nat := 0
  deriving DecidableEq, Repr

/-- One web encoder and its Regulator (R107 to R118). Line positions are 32.32 fixed point. -/
structure Encoder where
  count : Int := 0
  subrev : Int := 0
  rev : Int := 0
  lastEdge : Time := 0
  /-- the instant from which standstill is timed (R112) -/
  lastRef : Time := 0
  /-- direction bit: true reverse -/
  reverse : Bool := false
  referenced : Bool := false
  /-- fault causes in force: 0 RECEIVER, 1 QUAD, 2 OVERRATE, 3 SILENT, 4 INDEX_MISMATCH, 5 INDEX_MISSING, each with
  the instant it was last seen -/
  causes : List (Nat × Time) := []
  quadErr : Nat := 0
  /-- recent invalid transitions, newest first -/
  quadTimes : List Time := []
  /-- recent counts within 1 µs, newest first -/
  recent : List Time := []
  /-- net motion since the last index (R116) -/
  sinceIndex : Int := 0
  /-- the other encoder's position at this encoder's last count (SILENT) -/
  silentRef : Int := 0
  standstill : Bool := false
  /-- standstill was declared inside the window in progress -/
  declaredHere : Bool := false
  /-- first count after standstill, until a whole window that starts later has ended (R111) -/
  starting : Option Time := none
  reversalHere : Bool := false
  windowNet : Int := 0
  /-- last published window: status, flags, count, rate, index -/
  winStatus : Nat := 0
  winShort : Bool := false
  winStepped : Bool := false
  winCount : Int := 0
  winRate : Int := 0
  winIndex : Int := 0
  indexDev : Int := 0
  corrections : BitVec 32 := 0
  /-- position of count `countBase`, from which counts are scaled by the ratio in force (R117, R269) -/
  posBase : Int := 0
  countBase : Int := 0
  /-- web-scale correction, and the quadrature interpolation corrections of the four phases -/
  scale : Int := 0
  interp : Tab Nat Int := []
  /-- Regulator state: 0 OFF, 1 ACQUIRING, 2 LOCKED, 3 HOLD -/
  reg : Nat := 0
  pos : Int := 0
  vel : Int := 0
  acc : Int := 0
  time : Time := 0
  residual : Int := 0
  /-- part of an index step that the loop has not followed yet (R115) -/
  stepLeft : Int := 0
  inLock : Nat := 0
  outLock : Nat := 0
  /-- takes no further counts until the switch (R118, R120) -/
  frozen : Bool := false
  deriving DecidableEq, Repr

/-- One output pulse as ENC records it: its index, device time and active line position (R122). -/
structure PulseRecord where
  index : Nat
  t : Time
  pos : Int
  deriving DecidableEq, Repr

/-- ENC, web encoders and pulse output (06). -/
structure Enc where
  e0 : Encoder := { reg := 1 }
  e1 : Encoder := {}
  /-- active encoder: true secondary -/
  active1 : Bool := false
  offset : Int := 0
  latched : Bool := false
  agree : Bool := false
  passing : Nat := 0
  /-- each encoder was HEALTHY, its Regulator LOCKED or HOLD, and agreeing, at the last check (R120) -/
  ok0 : Bool := false
  ok1 : Bool := false
  /-- a switch that waits for the next line boundary: the cause bit and its timestamp -/
  switch : Option (Nat × Time) := none
  /-- the active encoder failed with no switch possible, and no encoder has recovered (R121) -/
  noSource : Bool := false
  switchCount : BitVec 32 := 0
  pulseAcc : Int := 0
  pulseDebt : Nat := 0
  pulseCount : Nat := 0
  pulseOverrun : Nat := 0
  pulseReset : Int := 0
  resetPending : Bool := false
  /-- end of the pulse in progress -/
  pulseEnd : Option Time := none
  pulseWaiting : Nat := 0
  quadPhase : BitVec 2 := 0
  pulses : List PulseRecord := []
  deriving DecidableEq, Repr
/-- State of a page object (R128), with the codes 0 to 5 of PAGE_QUERY. -/
inductive PageState where
  | empty | loading | resident | printing | consumed | invalid
  deriving DecidableEq, Repr

/-- A page object (R126 to R129). -/
structure Page where
  id : Nat
  /-- the 48 parameter bytes of its PAGE_LOAD -/
  params : Bytes
  /-- sequence of that command -/
  seq : BitVec 16 := 0
  state : PageState := .loading
  reason : Nat := 0
  applied : Time := 0
  loaded : Nat := 0
  residentAt : Time := 0
  nextRow : Nat := 0
  blanks : Nat := 0
  /-- page bytes: offset and byte, offsets strictly rising, no zero byte listed; an unlisted byte of the page is 0 -/
  data : List Host.Cell := []
  /-- 64-byte bursts the patrol scrub marked bad while the page was printing (R136) -/
  bad : List Nat := []
  /-- first bar line of the first row begun in this print -/
  firstLine : Int := 0
  lastLine : Int := 0
  firstFire : Time := 0
  lastFire : Time := 0
  deriving DecidableEq, Repr

/-- What follows the current page and has not begun (R134). -/
inductive PlanItem where
  /-- a starvation gap: the page waited for (0 if the queue was empty) and its pitch -/
  | gap (id pitch : Nat)
  /-- a page committed to start -/
  | page (id : Nat)
  deriving DecidableEq, Repr

/-- What occupies a pitch of bar lines (R149, R224). -/
inductive PitchKind where
  | row (page row : Nat)
  /-- starvation gap or ledger hold: page waited for and cause of the STARVE record -/
  | starve (page cause : Nat)
  /-- thermal pause: page and the module that caused it -/
  | pause (page module_ : Nat)
  deriving DecidableEq, Repr

/-- A ticket row or blank pitch placed on the bar lines from `first`. -/
structure Pitch where
  first : Int
  len : Nat
  kind : PitchKind
  /-- its begin slot has come -/
  begun : Bool := false
  /-- its blank-pitch record is appended, or its page's last line is accounted for -/
  recorded : Bool := false
  firstFire : Time := 0
  lastFire : Time := 0
  deriving DecidableEq, Repr

/-- MEM, the page store and DDR5 controller (07). -/
structure Mem where
  pages : List Page := []
  /-- when the last object whose load was in progress stopped LOADING (R130) -/
  loadEnded : Time := 0
  queue : List Nat := []
  committed : Bool := false
  endAction : Nat := 0
  current : Option Nat := none
  /-- pitch of the last page that was current in this print -/
  lastPitch : Nat := 256
  /-- bar line at which the next pitch begins -/
  next : Int := 0
  plan : List PlanItem := []
  /-- page whose rows are being placed on bar lines, and its next row to place -/
  placing : Option Nat := none
  placeRow : Nat := 0
  /-- the end of the queue has placed a drain (R132) -/
  ended : Bool := false
  /-- bar line up to which rows and blank pitches have begun -/
  begunTo : Int := 0
  /-- bar lines of rows to come whose dots are lost, with the bar columns and a record flag: their tickets are void from
  the begin -/
  spoilt : List (Int × Int × Int × Nat) := []
  /-- pitches placed, newest first -/
  pitches : List Pitch := []
  refresh2 : Bool := false
  hot : Bool := false
  refreshRank : Nat := 0
  /-- since when every rank has reported 85 °C or below -/
  coolSince : Option Time := none
  /-- delay-set band in use, by channel and sub-channel -/
  bandUsed : Tab (Nat × Nat) Nat := []
  stale : Bool := false
  gaps : Nat := 0
  blankCount : Nat := 0
  corrected : Nat := 0
  uncorrectable : Nat := 0
  portBytes : Tab Nat Nat := []
  scrubAddr : Nat := 0
  scrubPasses : Nat := 0
  corrections : Tab Position (List Time) := []
  failing : List Position := []
  /-- a delay measurement in progress: its band -/
  measuring : Option Nat := none
  /-- a description that waits for its write -/
  describing : Option Bytes := none
  deriving DecidableEq, Repr

/-- A change of the nozzle map, a trim table, a column correction, a timing correction or a head band that waits for
its bar line (R153, R164, R165, R269). -/
inductive LineChange where
  | host (entries : List (Nat × Nat)) (clearDetected : Bool)
  | detect (nozzle state : Nat)
  /-- trim classes and tables from a calibration run -/
  | trim (classes : List (Nat × Nat)) (tables : List ((Nat × Nat) × Nat))
  | column (module_ : Nat) (e : Int)
  | timing (module_ : Nat) (c : List Int)
  /-- the printing nozzle set of a module in spare mode is exchanged (R271) -/
  | spareSet (module_ : Nat)
  | band (module_ band : Nat)
  deriving DecidableEq, Repr

/-- A change that waits (R153). -/
structure PendingChange where
  change : LineChange
  /-- slot in progress at the change's timestamp -/
  since : Int
  /-- bar line B, once fixed -/
  line : Option Int := none
  /-- bar line B has been assembled: the change is reported as in force -/
  inForce : Bool := false
  /-- 0 host, 1 detection, 2 calibration -/
  source : Nat := 0
  /-- run ID of the calibration run it applies, 0 if none -/
  run : Nat := 0
  deriving DecidableEq, Repr

/-- One module's rows as assembled in one fire slot, before the row delays (R150). -/
structure AsmLine where
  slot : Int
  module_ : Nat
  line : Int
  /-- rows A to D, 272 bytes each -/
  rows : List Bytes
  deriving DecidableEq, Repr

/-- Events reported at most once per millisecond: when the last went out, and what has come since. -/
structure RateLimit where
  last : Option Time := none
  count : Nat := 0
  first : Int := 0
  cause : Nat := 0
  deriving DecidableEq, Repr

/-- GRT, bar geometry and line assembly (08). -/
structure Grt where
  run : Bool := false
  /-- partner substitution in force (R154) -/
  partner : Bool := false
  host : Tab Nat Nat := []
  detected : Tab Nat Nat := []
  trimClass : Tab Nat Nat := []
  /-- trim tables by module and class (8 m + class) and code; an unlisted entry is the identity -/
  trim : Tab (Nat × Nat) Nat := []
  column : Tab Nat Int := []
  /-- modules whose printing set is exchanged against the configured spare_set (R271) -/
  exchanged : List Nat := []
  gen : BitVec 32 := 0
  staged : Tab Nat Nat := []
  changes : List PendingChange := []
  asm : List AsmLine := []
  /-- highest fire slot assembled -/
  slot : Int := -1
  eccCorr : Nat := 0
  eccUnc : Nat := 0
  partnerCount : BitVec 32 := 0
  spreadCount : BitVec 32 := 0
  droppedCount : Nat := 0
  handover : BitVec 32 := 0
  dropped : Tab Nat RateLimit := []
  deriving DecidableEq, Repr

/-- The instants of one module in one slot: rows A to D, and the generation they belong to. -/
structure ModuleInstants where
  module_ : Nat
  gen : BitVec 32
  rows : List Time
  deriving DecidableEq, Repr

/-- A fixed slot (R166). -/
structure FixedSlot where
  n : Int
  /-- slot boundary t_n, rounded -/
  boundary : Time
  modules : List ModuleInstants
  deriving DecidableEq, Repr

/-- A revocation whose acknowledgements are awaited (R170, R171, R200). -/
structure Revoke where
  gen : BitVec 32
  slot : Int
  detected : Time
  discard : Bool
  /-- lanes that carry it and have not acknowledged -/
  lanes : List Nat
  /-- the schedule it withdrew -/
  old : List FixedSlot
  /-- modules that have acknowledged it -/
  noted : List Nat := []
  deriving DecidableEq, Repr

/-- ESC, the Escapement (09). -/
structure Esc where
  /-- 0 IDLE, 1 TRACKING, 2 FIRING, 3 DRAINING, 4 STOPPED (R178) -/
  state : Nat := 0
  /-- 0 NORMAL, 1 WARN, 2 TRIPPED (R173) -/
  overspeed : Nat := 0
  /-- line origin Π, 32.32; at reset one line, so that q is h_w (R161) -/
  origin : Int := 2 ^ 32
  /-- ARMED has been entered since reset (R161) -/
  armedOnce : Bool := false
  /-- a purge has run since the last entry to ARMED (R161) -/
  purged : Bool := false
  /-- high-water mark h_w (R162) -/
  hwm : Int := -1
  /-- highest slot number fixed, taken or sent in this boot -/
  taken : Int := -1
  /-- highest slot fixed or missed for the present print -/
  handled : Int := -1
  /-- highest fixed slot -/
  fixedTop : Int := -1
  /-- fixed slots not all of whose instants have passed, and the last two fired, lowest first -/
  slots : List FixedSlot := []
  /-- slot P of the scheduled or present print -/
  printSlot : Option Int := none
  endSlot : Option Int := none
  stopSlot : Option Int := none
  fired : Int := -1
  qualify : Nat := 0
  /-- a drain for overspeed or reversal waits for its resume condition: slot boundaries passed under it (R26) -/
  resumeRun : Nat := 0
  /-- L_lim and the nozzle rate, as fixed when bar geometry entered RUN -/
  limit : Nat := 200000
  nozzleRate : Nat := 200000
  /-- v has been below 95 % since (R173) -/
  lowSince : Option Time := none
  band : Tab Nat Nat := []
  timing : Tab (Nat × Nat) Int := []
  gen : BitVec 32 := 0
  revokeCount : BitVec 32 := 0
  revokes : List Revoke := []
  revokeRate : RateLimit := {}
  missed : Nat := 0
  missedRate : RateLimit := {}
  maxErr : Nat := 0
  /-- revoke slots of revocations that rows still to begin may count -/
  revokedAt : List Int := []
  deriving DecidableEq, Repr

/-- One head lane (R193, R204). -/
structure Lane where
  /-- 0 DISABLED, 1 HUNT, 2 LOCKED, 3 OPERATIONAL, 4 FAILED, 5 TEST -/
  state : Nat := 1
  /-- IDENT accepted on this lane since lock -/
  ident : Bool := false
  /-- the module reports receive lock on the lane -/
  rxLock : Bool := false
  echoes : Nat := 0
  /-- consecutive echoes within ±100 ps, beyond it, and beyond ±1,000 ps -/
  good : Nat := 0
  over100 : Nat := 0
  over1000 : Nat := 0
  /-- last 16 round-trip delays, newest first, in ps -/
  delays : List Int := []
  timeErr : Int := 0
  tag : BitVec 8 := 0
  /-- departures of TIME blocks by tag -/
  departures : Tab (BitVec 8) Time := []
  cause : Nat := 0
  failedAt : Time := 0
  opSince : Option Time := none
  invalid : Nat := 0
  stuff : Nat := 0
  lockLoss : Nat := 0
  /-- eye scan: dwell, and the calibration run it serves (0 for HLK_EYE_SCAN) -/
  scan : Option (Nat × Nat) := none
  /-- lane test: loop, end, lock losses at its start -/
  test : Option (Nat × Time × Nat) := none
  /-- sampler position: phase and voltage (R211) -/
  phase : Int := 0
  volt : Int := 0
  /-- sampler correction that waits for the next IDLE block -/
  nextSampler : Option (Int × Int) := none
  /-- receiver preset in force, and a change that waits for the next IDLE block (R211, R281) -/
  preset : Nat := 8
  nextPreset : Option Nat := none
  deriving DecidableEq, Repr

/-- One line sent to a module and not yet receipted (R202). -/
structure SentLine where
  slot : Int
  payload : Bytes
  instants : List Time
  gen : BitVec 32
  /-- withdrawn by a discarding REVOKE -/
  withdrawn : Bool := false
  blankAB : Bool := false
  blankCD : Bool := false
  deriving DecidableEq, Repr

/-- One head module (R205). -/
structure HeadModule where
  /-- 0 ABSENT, 1 DOWN, 2 SPLIT, 3 SINGLE_A, 4 SINGLE_B, 5 LOST, 6 REFUSED -/
  state : Nat := 1
  ident : Option Ident := none
  timeB : Bool := false
  /-- highest slot sent or skipped for the module -/
  sentTop : Int := -1
  lines : List SentLine := []
  sf : Int := 0
  /-- FAILOVER awaiting its acknowledgement: failed lane, cause, declaration minus t_c, s_f -/
  failover : Option (Bool × Nat × Time × Int) := none
  /-- both lanes have passed through HUNT since REFUSED -/
  huntA : Bool := false
  huntB : Bool := false
  /-- cause of its last loss, as EV_HLK_MODULE_LOST numbers it (R208) -/
  lossCause : Nat := 3
  mismatched : Nat := 0
  group : Nat := 0
  sensor0 : Int := 0
  sensor1 : Int := 0
  late : RateLimit := {}
  lineErr : RateLimit := {}
  deriving DecidableEq, Repr

/-- A purge in progress (R209). -/
structure Purge where
  modules : Nat
  rows : Nat
  code : Nat
  rate : Nat
  count : Nat
  first : Int
  t0 : Time
  /-- status that the end will report, once decided -/
  ending : Option Nat := none
  mismatch : Bool := false
  /-- purge lines that were skipped on the lowest named module -/
  skips : Nat := 0
  /-- slots from here on are withdrawn -/
  cut : Option Int := none
  deriving DecidableEq, Repr

/-- HLK, head lanes and modules (10). -/
structure Hlk where
  lanes : Tab Nat Lane := []
  modules : Tab Nat HeadModule := []
  failovers : BitVec 32 := 0
  receiptErr : Nat := 0
  lineErrs : Nat := 0
  late : Nat := 0
  sentGen : BitVec 32 := 0
  lastFail : Time := 0
  purge : Option Purge := none
  /-- last sequence named by a FLUSH -/
  flush : Option Int := none
  deriving DecidableEq, Repr

/-- A ticket whose row has begun, until its records are acknowledged (R216, R218, R223). -/
structure Ticket where
  id : BitVec 64
  page : Nat
  row : Nat
  lane : Nat
  /-- 2 PRINTING, 3 VERIFIED, 4 UNVERIFIED, 5 VOID, 6 INDETERMINATE -/
  state : Nat := 2
  reason : Nat := 0
  origin : BitVec 5 := 0
  originReason : Nat := 0
  /-- timestamp of its void, and its rank under R219 -/
  voidAt : Time := 0
  voidRank : Nat := 9
  flags : Nat := 0
  cal : Bool := false
  /-- its row has begun; a ticket voided while SCHEDULED waits here for its row -/
  begun : Bool := true
  first : Int := 0
  pitch : Nat := 0
  /-- active line position at which a missing verdict closes it -/
  deadline : Int := 0
  /-- bar columns of its area -/
  lo : Int := 0
  hi : Int := -1
  colLo : Nat := 0
  colCount : Nat := 0
  intent : Bytes := []
  firstFire : Time := 0
  lastFire : Time := 0
  genFirst : BitVec 32 := 0
  genLast : BitVec 32 := 0
  revokes : Nat := 0
  verdict : Nat := 0
  score : Nat := 0
  cameras : Nat := 0
  /-- record_seq of its latest record, and of its TICKET record -/
  seq : Option Nat := none
  own : Option Nat := none
  deriving DecidableEq, Repr

/-- A row the reject gate follows (R236). -/
structure RejectRow where
  first : Int
  pitch : Nat
  page : Nat
  row : Nat
  /-- window of active line positions, in lines -/
  opens : Int
  closes : Int
  policy : Nat
  /-- flag bit of the record once marked: 1 REJECTED, 2 REJECT_PARTIAL, 3 REJECT_MISSED; 0 not marked -/
  mark : Nat := 0
  deriving DecidableEq, Repr

/-- A record that waits for a place in a block: its bytes but for record_seq and close_time. -/
structure Deferred where
  record : Bytes
  ticket : BitVec 64
  deriving DecidableEq, Repr

/-- A ledger block that is open, closed or sealed (R225 to R228). -/
structure Block where
  number : Nat
  firstSeq : Nat
  openTime : Time
  closeTime : Time := 0
  cause : Nat := 0
  extended : Bool := false
  recovered : Bool := false
  calibrate : Bool := false
  mapOpen : BitVec 32 := 0
  mapClose : BitVec 32 := 0
  /-- 128-byte records in append order -/
  records : List Bytes := []
  /-- the 320-byte header, once sealed -/
  header : Option Bytes := none
  /-- offset of its frame in the ledger ring and the bytes it takes there, once delivered -/
  frame : Option (Nat × Nat) := none
  deriving DecidableEq, Repr

/-- The content of a checkpoint (R231). -/
structure Checkpoint where
  hash : Bytes
  block : Option Nat
  nextSeq : Nat
  ranges : List (BitVec 64 × Nat)
  deriving DecidableEq, Repr

/-- The host ledger ring (R229, R230). -/
structure Stream where
  base : Nat := 0
  size : Nat := 0
  enabled : Bool := false
  error : Bool := false
  offset : Nat := 0
  phase : Bool := true
  deriving DecidableEq, Repr

/-- LDG, tickets and the signed ledger (11). -/
structure Ldg where
  open_ : Bool := false
  tickets : List Ticket := []
  rejects : List RejectRow := []
  deferred : List Deferred := []
  deferredLost : Nat := 0
  /-- the reserve kept for the entry to SAFE may be used (R233) -/
  reserve : Bool := false
  /-- last sealed block -/
  sealedTop : Option Nat := none
  /-- closed blocks not acknowledged, oldest first -/
  blocks : List Block := []
  current : Option Block := none
  nextBlock : Nat := 0
  nextSeq : Nat := 0
  lastClose : Time := 0
  prevHash : Bytes := List.replicate 32 0
  acked : Option Nat := none
  /-- hash of the last acknowledged header and the record_seq after it, for checkpoints -/
  ackedHash : Bytes := List.replicate 32 0
  ackedSeq : Nat := 0
  stream : Stream := {}
  /-- hold in force: its cause (R234) -/
  hold : Option Nat := none
  /-- checkpoint being written, the start of the last write, and the triggers that wait (R231) -/
  writing : Option Checkpoint := none
  wroteAt : Option Time := none
  wanted : Bool := false
  recoveryUnsealed : Bool := false
  recoveredIds : List (BitVec 64 × Nat) := []
  recoveredSent : Bool := false
  recoveredBlocks : List Nat := []
  amends : BitVec 32 := 0
  verdictLate : Nat := 0
  ckptCount : Nat := 0
  stateCount : Tab Nat (BitVec 32) := []
  voidCount : Tab Nat (BitVec 32) := []
  voidRate : Tab Nat RateLimit := []
  rejectRows : BitVec 32 := 0
  rejectMissed : Nat := 0
  lastSeal : Time := 0
  storageFull : Bool := false
  deriving DecidableEq, Repr


/-- State of one ring port (R74; STOPPED is R28's). -/
inductive PortState where
  | stopped | hunt | up | failed
  deriving DecidableEq, Repr

/-- Ring state with the codes 0 to 5 of RNG_STATE (R75). -/
inductive RingState where
  | unenumerated | enumerating | closed | broken | split | isolated
  deriving DecidableEq, Repr

/-- One ring port: its state, the bad packets counted on it, and the copies kept for retransmission (R72). -/
structure RingPortState where
  state : PortState := .stopped
  crcErr : Nat := 0
  copies : List RingPacket := []
  deriving DecidableEq, Repr

/-- One entry of RNG_MAP (R78). -/
structure MapEntry where
  serial : BitVec 64 := 0
  hopsE : Nat := 0
  hopsW : Nat := 0
  reachE : Bool := false
  reachW : Bool := false
  mode : BitVec 3 := 0
  deriving DecidableEq, Repr

/-- What LINK_STATE last said of one unit's ports. -/
structure UnitLinks where
  eastUp : Bool := true
  westUp : Bool := true
  /-- the unit still holds the address it was enumerated with -/
  addressed : Bool := true
  deriving DecidableEq, Repr

/-- A change held as prepared (R82, R83). -/
structure Prepared where
  txn : BitVec 16
  /-- address of the coordinator; 0 when it is this unit without an address -/
  coord : BitVec 5
  local_ : Bool
  opcode : Nat
  cmd : Cmd
  status : BitVec 16
  result : Bytes
  votedAt : Time
  timeoutMs : Nat
  /-- commit instant, once COMMIT has arrived -/
  commitAt : Option Time := none
  deriving DecidableEq, Repr

/-- One participant's answer in a transaction or a broadcast read. -/
structure Answer where
  address : BitVec 5
  status : Option (BitVec 16) := none
  result : Bytes := []
  /-- a participant's vote was no -/
  refused : Bool := false
  deriving DecidableEq, Repr

/-- A transaction this unit coordinates (R82, R84). -/
structure CoordTxn where
  txn : BitVec 16
  opcode : Nat
  cmd : Cmd
  started : Time
  answers : List Answer
  /-- a vote was no: ABORT has been sent, and the votes to come are only reported -/
  aborted : Bool := false
  /-- vote_timeout and commit_lead in µs, and commit_timeout in ms, when it began -/
  voteUs : Nat
  leadUs : Nat
  commitMs : Nat
  /-- its replies are discarded: the function was reset (R40) -/
  silent : Bool := false
  deriving DecidableEq, Repr

/-- A relayed read that waits for its replies (R56, R80). -/
structure Relay where
  opcode : Nat
  cmd : Cmd
  sentAt : Time
  /-- true for a read sent to address 31 -/
  broadcast : Bool
  answers : List Answer
  /-- relay_timeout in µs when it began -/
  timeoutUs : Nat
  deriving DecidableEq, Repr

/-- An enumeration in progress on this unit (R77). -/
structure Enumeration where
  issuer : Bool
  fill : Bool
  started : Time
  serial : BitVec 64
  pending : Option (BitVec 5) := none
  /-- assignment received or decided, with its adoption instant -/
  adopt : Option (List Assigned × Time) := none
  deriving DecidableEq, Repr

/-- A range of the pending-void table (R85): tickets not yet voided here. -/
structure PendingVoid where
  ids : List (BitVec 64)
  origin : BitVec 5
  reason : BitVec 8
  deriving DecidableEq, Repr

/-- A re-route in progress (R76): the port at the break (none if remote), the addresses east and west of it, and the
timestamp of the last valid block. -/
structure Reroute where
  port : Option RingPort
  eastOf : BitVec 5
  westOf : BitVec 5
  last : Time
  deriving DecidableEq, Repr

/-- A completion event owed to the unit that relayed a command (R86): the codes it may have, and the detail bytes that
say which command it completes. -/
structure Owed where
  unit : BitVec 5
  codes : List (BitVec 16)
  off : Nat
  key : Bytes
  deriving DecidableEq, Repr

/-- RNG, the unit ring (04). -/
structure Rng where
  address : BitVec 5 := 0
  state : RingState := .isolated
  east : RingPortState := {}
  west : RingPortState := {}
  /-- the units in ring order going east, as last adopted -/
  order : List Assigned := []
  links : Tab (BitVec 5) UnitLinks := []
  map : Tab (BitVec 5) MapEntry := []
  enum : Option Enumeration := none
  prepared : Option Prepared := none
  /-- transactions this unit coordinates, oldest first -/
  coords : List CoordTxn := []
  /-- ID of this unit's next transaction (log entry 77) -/
  nextTxn : BitVec 16 := 1
  relays : List Relay := []
  txSeq : BitVec 16 := 0
  /-- last ring sequence accepted from each originator (R72) -/
  accepted : Tab (BitVec 64) (BitVec 16) := []
  /-- VOID packets that wait for a port (R85) -/
  heldVoids : List RingBody := []
  pendingVoid : List PendingVoid := []
  /-- jobs whose voids overflowed the pending-void table -/
  voidJobs : List (BitVec 24) := []
  rerouteCount : BitVec 32 := 0
  retxCount : BitVec 32 := 0
  voidTx : BitVec 32 := 0
  voidRx : BitVec 32 := 0
  lastBreak : Time := 0
  /-- the re-route in progress -/
  reroute : Option Reroute := none
  /-- completion events owed to units that relayed commands (R86) -/
  completions : List Owed := []
  deriving DecidableEq, Repr
/-- One line of a strip as received (R243, R244). -/
structure CamLine where
  index : Nat
  /-- active line position q and device time of its pulse -/
  q : Int
  t : Time
  /-- raw pixel codes; a line error leaves none -/
  raw : List Nat
  deriving DecidableEq, Repr

/-- One strip (R243 to R252). -/
structure Strip where
  number : Nat
  epoch : Nat
  /-- [0] TRUNCATED, [1] OVERLONG, [2] LINE_ERR, [3] UNSYNCED, [4] STALE -/
  flags : Nat := 0
  /-- pulse of line 0, and pulses missed between the expected and the placed start -/
  start : Int
  missedFrom : Int
  length : Nat
  /-- lines received, line errors included -/
  count : Nat := 0
  lines : List CamLine := []
  /-- the parameters in force for it: INS_CAMERA_SET, EXPOSURE_SET, and the corrections -/
  setup : Bytes
  exposure : Bytes
  delta : Int := 0
  scale : Int := 0
  along : Int := 0
  flat : List Nat := []
  /-- recorded line position and device time of line 0's pulse -/
  pos0 : Int := 0
  t0 : Time := 0
  /-- cut short by a fault of the camera or by INS_CAMERA_STOP -/
  cut : Bool := false
  deriving DecidableEq, Repr

/-- A strip stored for delivery (R251, R252). -/
structure Stored where
  strip : Strip
  /-- plane mask in force for it -/
  mask : Nat
  /-- bin_threshold in force for it -/
  bin : Nat
  /-- count of free values drawn before those of its planes (log entry 4) -/
  free : Nat
  /-- offset of its frame and ring bytes it takes, once delivered -/
  frame : Option (Nat × Nat) := none
  deriving DecidableEq, Repr

/-- One camera pipeline (R242). -/
structure Camera where
  /-- 0 STOPPED, 1 WAITING, 2 RUNNING, 3 FAULTY -/
  state : Nat := 0
  causes : List Nat := []
  /-- when a cause was last seen -/
  causeAt : Time := 0
  epoch : Nat := 0
  /-- last epoch committed -/
  committed : Nat := 0
  exposure : Bytes := []
  /-- epoch, strip and parameters of a pending commit -/
  pending : Option (Nat × Nat × Bytes) := none
  nextStrip : Nat := 0
  current : Option Strip := none
  /-- strips kept for verdicts and statistics, newest first -/
  done_ : List Strip := []
  expected : Option Int := none
  lastLine : Time := 0
  headerErrs : List Time := []
  lineTimes : List Time := []
  trunc : Nat := 0
  overlong : Nat := 0
  lineErr : Nat := 0
  outDrop : Nat := 0
  syncErr : Nat := 0
  base : Nat := 0
  size : Nat := 0
  enabled : Bool := false
  mask : Nat := 0
  offset : Nat := 0
  phase : Bool := true
  stored : List Stored := []
  acked : Option Nat := none
  lineRate : RateLimit := {}
  /-- geometry and photometry corrections (R264): δ in 1/16 column, s in ppm, a in 2^-16 line; f by pixel; xfer by
  channel and code -/
  delta : Int := 0
  scale : Int := 0
  along : Int := 0
  flat : List Nat := []
  xfer : Tab (Nat × Nat) Nat := []
  stale : Bool := false
  deriving DecidableEq, Repr

/-- A ticket that awaits its verdict, with the page data its area was fetched from (R254 to R257). -/
structure InsTicket where
  id : BitVec 64
  lo : Int
  hi : Int
  first : Int
  pitch : Nat
  /-- page column of bar column b is b + shift; page line of bar line l is l - origin -/
  shift : Int
  origin : Int
  data : List Host.Cell
  /-- INS_COMPARE_SET in force when its row began -/
  compare : Bytes
  /-- bar columns fetched -/
  fetchLo : Int
  fetchHi : Int
  /-- covering cameras that are done with it (R257) -/
  done_ : List Nat := []
  deriving DecidableEq, Repr

/-- A declared nozzle-check stripe (R258). -/
structure Stripe where
  page : Nat
  l0 : Nat
  lo : Nat
  hi : Nat
  /-- page lines of it whose rows have begun: first page line, count, and first bar line -/
  spans : List (Nat × Nat × Int) := []
  /-- page shift in force when they began -/
  shift : Int := 0
  /-- nozzle that assembled the dots of a segment and page column; none where more than one did -/
  made : Tab (Nat × Nat) (Option Nat) := []
  /-- the fetched data differs from the pattern -/
  bad : Bool := false
  deriving DecidableEq, Repr

/-- INS, inspection (12). -/
structure Ins where
  cameras : Tab Nat Camera := []
  tickets : List InsTicket := []
  stripes : List Stripe := []
  stripesDone : Nat := 0
  /-- consecutive bad judgments of a nozzle and the worse of them -/
  bad : Tab Nat (Nat × Nat) := []
  detectOut : Nat := 0
  detectWeak : Nat := 0
  verdicts : Tab Nat (BitVec 32) := []
  lastScore : Nat := 0
  lastVerdict : Nat := 0
  /-- last cell row of the expected-density map, and map rows held (R254) -/
  mapTop : Int := 0
  mapRows : Nat := 0
  displayRow : Nat := 0
  /-- next display row to write -/
  displayNext : Nat := 0
  /-- display surface bytes from the start of the INS region -/
  surface : List Host.Cell := []
  deriving DecidableEq, Repr

/-- One calibration run (R264 to R267); state codes as R266. Measured elements are in 2^-16 of their unit. -/
structure CalRun where
  id : Nat
  type : Nat
  target : Nat
  ink : Nat := 0
  posA : Int := 0
  posB : Int := 0
  state : Nat := 0
  reason : Nat := 0
  hold : Bool := false
  spare : Bool := false
  /-- CAL_POLICY_SET in force when pass 1 started -/
  policy : Bytes := []
  /-- order in which it became final, for the table (R266) -/
  final : Nat := 0
  /-- start of pass 1, and of the present pass, with the bar line up to which rows had begun then -/
  started : Time := 0
  passFrom : Time := 0
  since : Int := 0
  /-- elements measured by pass 1 and by pass 2 -/
  pass1 : List Int := []
  pass2 : List Int := []
  /-- DENSITY: nozzle and code, darkness sum and twice the median of its neighbours, by pass -/
  dens1 : Tab (Nat × Nat) (Nat × Nat) := []
  dens2 : Tab (Nat × Nat) (Nat × Nat) := []
  /-- velocity at which each row fired its patch: the present pass, and the two passes -/
  vels : Tab Nat Int := []
  vels1 : Tab Nat Int := []
  vels2 : Tab Nat Int := []
  /-- CAL_REFERENCE reading of the present pass -/
  ref : Option Bytes := none
  /-- the device has seen the target of the present pass, and its own reading -/
  seen : Bool := false
  reading : List Int := []
  /-- snapshots recorded: instant and ENC_x_COUNT -/
  snaps : List (Time × Int) := []
  /-- ENCODER_INTERP: counts taken and the velocity at the first -/
  counts : Nat := 0
  velocity : Int := 0
  /-- AXIS_SCALE: step (0 before the move to a, 1 moving, 2 settling, 3 to 5 the same at b, 6 done), when the present
  step began, and the feedback sums and counts at a and at b -/
  step : Nat := 0
  stepAt : Time := 0
  sumA : Int := 0
  numA : Nat := 0
  sumB : Int := 0
  numB : Nat := 0
  /-- the patch in use: page and l0 -/
  patch : Option (Nat × Nat) := none
  q1 : Nat := 0
  q2 : Nat := 0
  /-- the new correction, as its type lists it -/
  value : List Int := []
  temp : Int := 0
  /-- bar line from which an accepted encoder correction applies -/
  boundary : Option Int := none
  deriving DecidableEq, Repr

/-- A declared calibration patch (R272). -/
structure Patch where
  page : Nat
  l0 : Nat
  type : Nat
  target : Nat
  deriving DecidableEq, Repr

/-- The part of a declared patch that lies on the bar lines of one placed row (R272). -/
structure LaidPatch where
  /-- bar line that the patch's first line has, or would have if all its lines lay with this part's -/
  line : Int
  /-- bar lines of this part, the second not included -/
  from_ : Int
  to_ : Int
  type : Nat
  target : Nat
  page : Nat := 0
  l0 : Nat := 0
  /-- the data differs from the content R272 asks for, or a segment was sent blank -/
  bad : Bool := false
  deriving DecidableEq, Repr

/-- CAL, calibration (13). -/
structure Cal where
  runs : List CalRun := []
  nextId : Nat := 1
  finals : Nat := 0
  patches : List Patch := []
  laid : List LaidPatch := []
  due : List (Nat × Nat) := []
  /-- temperature recorded at the last APPLIED run of a type and target -/
  temps : Tab (Nat × Nat) Int := []
  /-- time and bar line of the last application -/
  last : Tab (Nat × Nat) (Time × Int) := []
  lastLine : Int := 0
  lastTime : Time := 0
  applied : Nat := 0
  failed : Nat := 0
  /-- module serial that FIRE_TIMING, STITCH and DENSITY corrections were measured with (R270) -/
  serials : Tab Nat (BitVec 32) := []
  /-- a SPARE run made the other encoder active: the run and the encoder it measures (R271) -/
  spareHome : Option (Nat × Nat) := none
  deriving DecidableEq, Repr


/-- One temperature sensor (R277 to R279). -/
structure Sensor where
  /-- last reading with its TEMP_OFFSET added, in 0.1 °C -/
  value : Option Int := none
  /-- that reading before its TEMP_OFFSET -/
  raw : Option Int := none
  /-- timestamp of the last reading, or of the sensor's becoming available -/
  time : Time := 0
  failed : Bool := false
  /-- consecutive checks at which it deviated -/
  deviations : Nat := 0
  /-- THM_SENSOR_CLEAR given: healthy from the next reading -/
  clearing : Bool := false
  deriving DecidableEq, Repr

/-- THM, temperature and throttling (14). -/
structure Thm where
  sensors : Tab Nat Sensor := []
  /-- TEMP_OFFSET corrections (R269), in 0.01 °C -/
  offsets : Tab Nat Int := []
  dieBand : Nat := 0
  /-- band reported for each module -/
  headBand : Tab Nat Nat := []
  headDemand : Tab Nat Nat := []
  level : Nat := 0
  floor : Option Nat := none
  /-- the floor was set since the last evaluation -/
  floorNew : Bool := false
  levelTime : Time := 0
  pauseCounter : Nat := 0
  pauses : BitVec 32 := 0
  deriving DecidableEq, Repr
/-- One switch input (R303). -/
structure Switch where
  level : Bool := false
  /-- raw edge of the present candidate, with the feedback position at it -/
  candidate : Option (Time × Int) := none
  confirmed : Bool := false
  /-- inactive since -/
  inactive : Time := 0
  deriving DecidableEq, Repr

/-- One axis (15). Generator values are in 2^-32 counts, counts/s and counts/s². -/
structure Axis where
  /-- 0 STOPPED, 1 IDLE, 2 MOVING, 3 HOMING, 4 STOPPING, 5 FAULT -/
  state : Nat := 0
  referenced : Bool := false
  limN : Switch := {}
  limP : Switch := {}
  home : Switch := {}
  /-- latched causes, 8 to 13 as in AXS_a_STATE, and those still present with when each was last seen -/
  causes : List Nat := []
  present : List (Nat × Time) := []
  pos : Int := 0
  vel : Int := 0
  acc : Int := 0
  fb : Int := 0
  target : Int := 0
  /-- 0 to a position, 1 to a velocity, 2 ramped stop -/
  goal : Nat := 0
  /-- velocity limit of the move, and the velocity a velocity move asks for, in counts/s -/
  vlim : Nat := 0
  vgoal : Int := 0
  /-- deceleration of a ramped stop in counts/s² -/
  decel : Nat := 0
  seq : Nat := 0
  /-- a host move whose EV_AXS_MOVE_DONE is owed, and the status its end will carry -/
  owed : Bool := false
  endStatus : Nat := 0
  toStopped : Bool := false
  /-- limit that is stopping the axis: 0 LIMN, 1 LIMP; its stop mode and raw-edge position -/
  limitStop : Option (Nat × Nat × Int) := none
  /-- homing: 0 none, 1 search, 2 to the index, 3 stop after the Benchmark, 4 back-off, 5 failing -/
  homing : Nat := 0
  homeFail : Nat := 0
  searchFrom : Int := 0
  bench : Int := 0
  chatter : Nat := 0
  /-- frames are sent: from the first AXS_START after reset -/
  frames : Bool := false
  frameTime : Time := 0
  frameCount : BitVec 2 := 0
  addr : Nat := 0
  phi : Int := 0
  /-- velocity has been zero since -/
  zeroSince : Time := 0
  holdNow : Bool := true
  stallSince : Option Time := none
  quadErr : Nat := 0
  quadTimes : List Time := []
  ssiErr : Nat := 0
  /-- failed reads in a row with their cause, and good reads in a row -/
  ssiFails : Nat := 0
  ssiCause : Nat := 0
  ssiGood : Nat := 0
  /-- last two good reads, newest first -/
  reads : List (Time × Int) := []
  /-- shift from raw SSI position to coordinate -/
  offset : Int := 0
  /-- homed by method 0 (R306) -/
  absolute : Bool := false
  /-- feedback position at the last frame -/
  frameFb : Int := 0
  /-- scale correction σ in 2^-32 -/
  sigma : Int := 0
  /-- a calibration run owns the axis: its ID -/
  owner : Option Nat := none
  deriving DecidableEq, Repr

/-- AXS, bar axes (15). -/
structure Axs where
  axes : Tab Nat Axis := []
  deriving DecidableEq, Repr

/-- VIEW, the operator view output (16). -/
structure View where
  /-- 0 STOPPED, 1 STARTING, 2 RUNNING, 3 STOPPING -/
  state : Nat := 0
  startedAt : Time := 0
  frame : Nat := 0
  line : Nat := 0
  latchTime : Time := 0
  /-- set in force: 20 bytes as in VIEW_FRAME_SET, y0 as used -/
  cur : Bytes := [2, 0, 0x60, 8] ++ [0, 0, 0, 0] ++ [0, 0x42, 0x27, 0] ++ [0x60, 8, 0xB0, 4] ++ [0, 0, 0, 0]
  shadow : Option (Bytes × Nat) := none
  late : Option (Bytes × Nat) := none
  buffered : Nat := 0
  underrun : Nat := 0
  /-- lines underrun in the frame in progress -/
  frameUnder : Nat := 0
  readErr0 : Nat := 0
  readErr1 : Nat := 0
  crc0 : Nat := 0
  crc1 : Nat := 0
  /-- running CRC of the active pixels of the frame in progress by link, before the final complement -/
  run0 : Nat := 0xFFFFFFFF
  run1 : Nat := 0xFFFFFFFF
  deriving DecidableEq, Repr


/-- State of the firmware update (R341), codes 0 to 3. -/
inductive UpdateState where
  | idle | writing | verified | pending
  deriving DecidableEq, Repr

/-- A pending activation (R342): live or at next reset, and where it takes place. -/
structure Activation where
  live : Bool
  /-- begin slot of the row, if in PRINT or DRAIN and already known -/
  slot : Option Int := none
  /-- first slot at which a row may begin -/
  notBefore : Option Int := none
  /-- instant, outside PRINT and DRAIN -/
  t : Option Time := none
  deriving DecidableEq, Repr

/-- One retained entry of the event log: the event's 32 bytes and its chain value (R340). -/
structure LogEntry where
  event : Bytes
  h : Bytes
  deriving DecidableEq, Repr

/-- A journal record that waits for its write (R338). -/
inductive JournalRec where
  | preferred (slotB : Bool)
  | delaySets (sets : BitVec 6)
  | correction (type target : Nat) (values : List Int)
  deriving DecidableEq, Repr

/-- What the non-volatile stores and the one-time-programmable store keep over every reset (R330, R337). -/
structure Nvm where
  bootCount : BitVec 32 := 1
  preferredB : Bool := false
  slotA : ImageSlot := { present := true, verifies := true, fwVersion := 1 }
  slotB : ImageSlot := {}
  /-- MEM_DRAM_DESCRIBE's record, in force from the next reset (R135) -/
  dram : Bytes := [0, 1, 0, 1, 0, 0, 0, 0]
  /-- measured DDR5 delay sets, one bit for each die band (R138) -/
  delaySets : BitVec 6 := 0
  /-- calibration corrections kept in the journal: type, target and values (R267) -/
  corrections : Tab (Nat × Nat) (List Int) := []
  /-- product options: bits of word 0 that are cleared (R32) -/
  options : BitVec 16 := 0
  sealed_ : Bool := false
  minSecurity : Nat := 0
  rootRevoke : BitVec 4 := 0
  failed0 : Bool := false
  failed1 : Bool := false
  /-- event log: entries since manufacture, the entries retained, and the anchor -/
  logCount : Nat := 0
  /-- entries retained, oldest first -/
  log : List LogEntry := []
  logHead : Bytes := List.replicate 32 0
  anchor : Bytes := List.replicate 32 0
  /-- last latched shutdown cause and its instant: the always-on register of R288 -/
  shutdownCause : BitVec 16 := 0
  shutdownTime : Time := 0
  /-- last committed ledger checkpoint, as the journal holds it (R231) -/
  checkpoint : Option Checkpoint := none
  deriving DecidableEq, Repr

/-- MSS, the management subsystem (17). -/
structure Mss where
  activeB : Bool := false
  update : UpdateState := .idle
  /-- data written into the inactive slot since its erase -/
  written : List (Nat × Bytes) := []
  erasing : Bool := false
  verifying : Bool := false
  activation : Option Activation := none
  /-- trial of a live image: the deadline, and whether it has run out -/
  trial : Option Time := none
  trialOver : Bool := false
  /-- begin slot at T_a, 0 if not printing -/
  beginSlot : Nat := 0
  trngFailed : Bool := false
  programming : Bool := false
  /-- events to be programmed into the log -/
  logQueue : List Bytes := []
  /-- journal records waiting for their write -/
  journal : List JournalRec := []
  supplyMv : Tab Nat Nat := []
  warn : BitVec 7 := 0
  fault : BitVec 7 := 0
  activateTime : Time := 0
  /-- the reset of R328 or the power-down of R288 in progress: its latched cause and t0 -/
  shutdown : Option (Nat × Time) := none
  /-- core power is removed (R288, R356) -/
  coreOff : Bool := false
  deriving DecidableEq, Repr

/-- The state of the block. -/
structure State where
  /-- device time (R8, R89) -/
  now : Time := 0
  hub : Hub := {}
  bar0 : Bar0 := {}
  link : Link := {}
  rng : Rng := {}
  mer : Mer := {}
  enc : Enc := {}
  mem : Mem := {}
  grt : Grt := {}
  esc : Esc := {}
  hlk : Hlk := {}
  ldg : Ldg := {}
  ins : Ins := {}
  cal : Cal := {}
  axs : Axs := {}
  view : View := {}
  thm : Thm := {}
  mss : Mss := {}
  nvm : Nvm := {}
  /-- settings in force; an unlisted slot holds its default (R7, R36) -/
  cfg : Tab CfgSlot Bytes := []
  /-- settings accepted and not yet in force, each waiting for its boundary (R28, R37) -/
  held : Tab CfgSlot Bytes := []
  /-- the model's own count of free values drawn (log entry 4) -/
  freeCtr : Nat := 0
  /-- what has left the device's ports, newest first: the model's own record -/
  out : List Output := []
  /-- commands that wait, first in first out -/
  pending : List Instr := []
  deriving DecidableEq, Repr

/-- The machine right after reset: the release of power-on reset, at which device time is 0 and BOOT begins (R30, R89). -/
def State.reset : State := { cfg := [(.dram, Nvm.dram {})] }

end Sys2Proof.Machine
end

