-- ==== Sys2Proof/Machine/Operands.lean ====
section
/-! DEFINITION. Byte order, field access, device-time values and tables: the operand forms every command uses. -/
namespace Sys2Proof.Machine

/-- The number that little-endian bytes hold (R2). -/
def leNat : Bytes → Nat
  | [] => 0
  | b :: bs => b.toNat + 256 * leNat bs

/-- The `n` little-endian bytes of a number (R2). -/
def leBytes : Nat → Nat → Bytes
  | 0, _ => []
  | n + 1, v => BitVec.ofNat 8 v :: leBytes n (v / 256)

/-- `n` zero bytes. -/
def zeros (n : Nat) : Bytes := List.replicate n 0

/-- The `len` bytes from offset `off`. -/
def slice (b : Bytes) (off len : Nat) : Bytes := (b.drop off).take len

/-- The unsigned field of `len` bytes at offset `off` (R3). -/
def fieldOf (b : Bytes) (off len : Nat) : Nat := leNat (slice b off len)

def u8 (b : Bytes) (off : Nat) : Nat := fieldOf b off 1
def u16 (b : Bytes) (off : Nat) : Nat := fieldOf b off 2
def u24 (b : Bytes) (off : Nat) : Nat := fieldOf b off 3
def u32 (b : Bytes) (off : Nat) : Nat := fieldOf b off 4
def u64 (b : Bytes) (off : Nat) : Nat := fieldOf b off 8

/-- Two's-complement reading of a `w`-bit number. -/
def toSigned (w v : Nat) : Int := if v < 2 ^ (w - 1) then v else (v : Int) - 2 ^ w

/-- Two's-complement bits of an integer in `w` bits. -/
def ofSigned (w : Nat) (i : Int) : Nat := (i % (2 ^ w : Int)).toNat

def s8 (b : Bytes) (off : Nat) : Int := toSigned 8 (u8 b off)
def s16 (b : Bytes) (off : Nat) : Int := toSigned 16 (u16 b off)
def s32 (b : Bytes) (off : Nat) : Int := toSigned 32 (u32 b off)
def s64 (b : Bytes) (off : Nat) : Int := toSigned 64 (u64 b off)

/-- The signed little-endian bytes of an integer. -/
def seBytes (n : Nat) (i : Int) : Bytes := leBytes n (ofSigned (8 * n) i)

/-- Bit `n` of a number. -/
def bit (v n : Nat) : Bool := v / 2 ^ n % 2 == 1

/-- Bits [msb:lsb] of a number (R3). -/
def bits (v msb lsb : Nat) : Nat := v / 2 ^ lsb % 2 ^ (msb + 1 - lsb)

def b2n (b : Bool) : Nat := if b then 1 else 0

/-- The bytes from `off` to `off + len - 1` are all 0, as a reserved field must be (R4). -/
def zeroAt (b : Bytes) (off len : Nat) : Bool := (slice b off len).all (· == 0)

/-- A range of a field table, both ends included (R6). -/
def within (v lo hi : Nat) : Bool := decide (lo ≤ v) && decide (v ≤ hi)

def withinI (v lo hi : Int) : Bool := decide (lo ≤ v) && decide (v ≤ hi)

/-- An integer held within a range. -/
def clampI (lo hi v : Int) : Int := max lo (min hi v)

/-- A counter that saturates at its width (for example RNG_CRC_ERR). -/
def satInc (w v : Nat) : Nat := if v + 1 < 2 ^ w then v + 1 else 2 ^ w - 1

/-- Pads or cuts a byte string to `n` bytes. -/
def padTo (n : Nat) (b : Bytes) : Bytes := (b ++ zeros n).take n

/-! Device time -/

/-- One nanosecond in ticks of 2^-16 ns (R8). -/
def tpNs : Nat := 65536
/-- One microsecond in ticks. -/
def tpUs : Nat := 65536000
/-- One millisecond in ticks. -/
def tpMs : Nat := 65536000000
/-- One second in ticks. -/
def tpS : Nat := 65536000000000

/-- The 12-byte time value of R8. -/
def timeBytes (t : Time) : Bytes :=
  leBytes 6 (t % tpNs + 2 ^ 16 * (t / tpNs % 1000000000)) ++ leBytes 6 (t / tpS)

/-- The nanosecond field and the two reserved bits of a time value are legal (R8, R9). -/
def timeOk (b : Bytes) (off : Nat) : Bool :=
  decide (bits (fieldOf b off 6) 45 16 < 1000000000) && bits (fieldOf b off 6) 47 46 == 0

/-- The device time a 12-byte time value states. -/
def timeAt (b : Bytes) (off : Nat) : Time :=
  let lo := fieldOf b off 6
  lo % 2 ^ 16 + tpNs * bits lo 45 16 + tpS * fieldOf b (off + 6) 6

/-- The first whole multiple of `unit` at or after `t`. -/
def ceilTo (unit t : Nat) : Nat := (t + unit - 1) / unit * unit

/-! Tables -/

/-- The value a table holds for a key: the listed one, or the default. -/
def tget {κ α : Type} [DecidableEq κ] (d : α) (m : Tab κ α) (k : κ) : α :=
  match m with
  | [] => d
  | (k', v) :: r => if k' = k then v else tget d r k

/-- The table with a key's value replaced in place, or appended. -/
def tset {κ α : Type} [DecidableEq κ] (m : Tab κ α) (k : κ) (v : α) : Tab κ α :=
  match m with
  | [] => [(k, v)]
  | (k', v') :: r => if k' = k then (k, v) :: r else (k', v') :: tset r k v

/-- The table with a key's value changed by a function. -/
def tmod {κ α : Type} [DecidableEq κ] (d : α) (m : Tab κ α) (k : κ) (f : α → α) : Tab κ α :=
  tset m k (f (tget d m k))

/-- The table without a key. -/
def terase {κ α : Type} [DecidableEq κ] (m : Tab κ α) (k : κ) : Tab κ α :=
  m.filter fun p => p.1 ≠ k

/-- The indices 0 to n - 1. -/
def upTo (n : Nat) : List Nat := List.range n

/-- Sum of a list. -/
def sumNat (l : List Nat) : Nat := l.foldl (· + ·) 0

/-- The number whose bits are those indices below `n` that satisfy `p`. -/
def maskOf (n : Nat) (p : Nat → Bool) : Nat := sumNat ((upTo n).map fun i => if p i then 2 ^ i else 0)

end Sys2Proof.Machine
end

