-- ==== Sys2Proof/Machine/Crypto.lean ====
section
/-! DEFINITION. The checks and digests whose values the spec fixes by reference: CRC-32C (R130), CRC-32 (04), and
SHA-256 (R36, R228, R340). -/
namespace Sys2Proof.Machine

/-- One bit of a reflected CRC. -/
def crcBit (poly c : Nat) : Nat := if c % 2 == 1 then Nat.xor (c / 2) poly else c / 2

/-- `n` bits of a reflected CRC. -/
def crcBits (poly : Nat) : Nat → Nat → Nat
  | 0, c => c
  | n + 1, c => crcBits poly n (crcBit poly c)

/-- A reflected 32-bit CRC with initial value and final complement of all ones. -/
def crc32With (poly : Nat) (b : Bytes) : Nat :=
  Nat.xor (b.foldl (fun c x => crcBits poly 8 (Nat.xor c x.toNat)) 0xFFFFFFFF) 0xFFFFFFFF

/-- CRC-32C (Castagnoli), as R130 names it. -/
def crc32c (b : Bytes) : Nat := crc32With 0x82F63B78 b

/-- CRC-32 with the IEEE 802.3 polynomial. -/
def crc32 (b : Bytes) : Nat := crc32With 0xEDB88320 b

/-- The 64 round constants of SHA-256 (FIPS 180-4). -/
def shaK : List (BitVec 32) :=
  [0x428a2f98, 0x71374491, 0xb5c0fbcf, 0xe9b5dba5, 0x3956c25b, 0x59f111f1, 0x923f82a4, 0xab1c5ed5,
   0xd807aa98, 0x12835b01, 0x243185be, 0x550c7dc3, 0x72be5d74, 0x80deb1fe, 0x9bdc06a7, 0xc19bf174,
   0xe49b69c1, 0xefbe4786, 0x0fc19dc6, 0x240ca1cc, 0x2de92c6f, 0x4a7484aa, 0x5cb0a9dc, 0x76f988da,
   0x983e5152, 0xa831c66d, 0xb00327c8, 0xbf597fc7, 0xc6e00bf3, 0xd5a79147, 0x06ca6351, 0x14292967] ++
  [0x27b70a85, 0x2e1b2138, 0x4d2c6dfc, 0x53380d13, 0x650a7354, 0x766a0abb, 0x81c2c92e, 0x92722c85,
   0xa2bfe8a1, 0xa81a664b, 0xc24b8b70, 0xc76c51a3, 0xd192e819, 0xd6990624, 0xf40e3585, 0x106aa070,
   0x19a4c116, 0x1e376c08, 0x2748774c, 0x34b0bcb5, 0x391c0cb3, 0x4ed8aa4a, 0x5b9cca4f, 0x682e6ff3,
   0x748f82ee, 0x78a5636f, 0x84c87814, 0x8cc70208, 0x90befffa, 0xa4506ceb, 0xbef9a3f7, 0xc67178f2]

/-- The eight working words of SHA-256. -/
structure ShaWords where
  a : BitVec 32
  b : BitVec 32
  c : BitVec 32
  d : BitVec 32
  e : BitVec 32
  f : BitVec 32
  g : BitVec 32
  h : BitVec 32

def shaInit : ShaWords :=
  ⟨0x6a09e667, 0xbb67ae85, 0x3c6ef372, 0xa54ff53a, 0x510e527f, 0x9b05688c, 0x1f83d9ab, 0x5be0cd19⟩

/-- One round of SHA-256. -/
def shaRound (v : ShaWords) (k w : BitVec 32) : ShaWords :=
  let t1 := v.h + (v.e.rotateRight 6 ^^^ v.e.rotateRight 11 ^^^ v.e.rotateRight 25)
    + ((v.e &&& v.f) ^^^ (~~~v.e &&& v.g)) + k + w
  let t2 := (v.a.rotateRight 2 ^^^ v.a.rotateRight 13 ^^^ v.a.rotateRight 22)
    + ((v.a &&& v.b) ^^^ (v.a &&& v.c) ^^^ (v.b &&& v.c))
  ⟨t1 + t2, v.a, v.b, v.c, v.d + t1, v.e, v.f, v.g⟩

/-- The rounds over the remaining constants. `w` is the window of the 16 schedule words from the present one on. -/
def shaRounds : List (BitVec 32) → List (BitVec 32) → ShaWords → ShaWords
  | [], _, v => v
  | k :: ks, w, v =>
    let w0 := w.headD 0
    let x := w.getD 1 0
    let y := w.getD 14 0
    let n := w0 + (x.rotateRight 7 ^^^ x.rotateRight 18 ^^^ (x >>> 3)) + w.getD 9 0
      + (y.rotateRight 17 ^^^ y.rotateRight 19 ^^^ (y >>> 10))
    shaRounds ks (w.tail ++ [n]) (shaRound v k w0)

/-- The big-endian 32-bit words of a byte string. -/
def beWords : Bytes → List (BitVec 32)
  | a :: b :: c :: d :: r => (a ++ b ++ c ++ d) :: beWords r
  | _ => []

/-- The blocks of 16 words, taken in turn; `n` bounds their number. -/
def shaBlocks : Nat → List (BitVec 32) → ShaWords → ShaWords
  | 0, _, v => v
  | n + 1, ws, v =>
    if ws.isEmpty then v else
      let u := shaRounds shaK (ws.take 16) v
      shaBlocks n (ws.drop 16)
        ⟨v.a + u.a, v.b + u.b, v.c + u.c, v.d + u.d, v.e + u.e, v.f + u.f, v.g + u.g, v.h + u.h⟩

/-- The four big-endian bytes of a word. -/
def beBytes32 (w : BitVec 32) : Bytes := (leBytes 4 w.toNat).reverse

/-- SHA-256 of a byte string (FIPS 180-4). -/
def sha256 (m : Bytes) : Bytes :=
  let n := m.length
  let p := m ++ [0x80] ++ zeros ((119 - n % 64) % 64) ++ (leBytes 8 (8 * n)).reverse
  let v := shaBlocks (n / 64 + 2) (beWords p) shaInit
  [v.a, v.b, v.c, v.d, v.e, v.f, v.g, v.h].flatMap beBytes32

end Sys2Proof.Machine
end

