-- ==== Sys2Proof/Machine/Settings.lean ====
section
/-! DEFINITION. The settings: the default of every setting command (R7), the value in force, the value held for its
boundary (R28, R37), and the configuration record of each block (R36). -/
namespace Sys2Proof.Machine

/-- The defaults of each setting, as its chapter's table states them (R7). -/
def cfgDefault : CfgSlot → Bytes
  | .hub => zeros 8
  | .timeSource => [0, 0, 3, 0] ++ leBytes 2 200 ++ leBytes 2 1000 ++ leBytes 4 1000000 ++ leBytes 2 10 ++ zeros 2
  | .ptp d => [BitVec.ofNat 8 d.val, if d.val = 0 then 0 else 2] ++ zeros 5 ++ [1] ++ zeros 2 ++ leBytes 2 100 ++ zeros 4
      ++ leBytes 4 1000 ++ zeros 4
  | .netPort p => [BitVec.ofNat 8 p.val, 2] ++ zeros 38
  | .snapPin => zeros 4 ++ leBytes 2 1000 ++ leBytes 2 50
  | .window g => [BitVec.ofNat 8 g.val, if g.val = 0 then 1 else 0] ++ zeros 2 ++ leBytes 4 1000000 ++ zeros 12
  | .ringConfig => leBytes 2 5000 ++ leBytes 2 20 ++ leBytes 2 1000 ++ leBytes 2 2000 ++ [1] ++ zeros 7
  | .ringPort _ => [0, 3] ++ zeros 6
  | .encInput x => [BitVec.ofNat 8 x.val, if x.val = 0 then 5 else 4, 5, 2] ++ leBytes 4 4096 ++ zeros 4 ++ leBytes 2 50
      ++ zeros 2 ++ leBytes 8 0x100000000 ++ zeros 8
  | .regulator => leBytes 2 500 ++ leBytes 2 1024 ++ leBytes 4 0x10000 ++ leBytes 2 4 ++ [1] ++ zeros 5
  | .pulse => [0, 0] ++ leBytes 2 1 ++ leBytes 2 1 ++ leBytes 2 100 ++ zeros 4
  | .thermal => [20, 10, 20, 80, 60, 10, 50, 0, 0, 0, 0, 1, 1, 2, 0, 0]
  | .mss => [1, 1] ++ zeros 6
  | .memPort p => zeros 3 ++ leBytes 2 ([530, 530, 500, 560, 40, 10, 10].getD p.val 0) ++ leBytes 2 256 ++ zeros 1
  | .memConfig => [2, 0] ++ leBytes 2 24 ++ zeros 4
  | .dram => zeros 8
  | .grtBar => [24, 2] ++ zeros 6
  | .grtModule m => [BitVec.ofNat 8 m.val, 0] ++ leBytes 2 (m.val * 2144) ++ zeros 12
  | .grtStitch j => [BitVec.ofNat 8 j.val, 0, 16] ++ zeros 773
  | .escConfig => leBytes 2 450 ++ [20] ++ zeros 5
  | .runAhead => [48] ++ zeros 3
  | .profile => leBytes 4 200000 ++ [1, 0x10] ++ leBytes 2 550 ++ [30, 20, 4] ++ zeros 21 ++ seBytes 2 (-400) ++ [2]
      ++ zeros 61
  | .rowOffset _ => zeros 8
  | .hlkConfig => [8, 1] ++ leBytes 2 100 ++ zeros 4
  | .lane _ => [1, 3, 8] ++ zeros 5
  | .ldgConfig => zeros 2 ++ leBytes 2 64 ++ zeros 4 ++ leBytes 2 64 ++ zeros 2 ++ leBytes 4 94488 ++ leBytes 2 1000
      ++ zeros 6
  | .camera c => [BitVec.ofNat 8 c.val, 0, 4, 0] ++ leBytes 2 1024 ++ leBytes 2 (c.val * 12811) ++ leBytes 4 70866
      ++ leBytes 2 2500 ++ [2, 1] ++ leBytes 2 50 ++ zeros 6
  | .compare => [1, 0, 1, 24] ++ leBytes 2 9950 ++ leBytes 2 10000 ++ [128, 192, 255, 128, 30, 70, 2] ++ zeros 17
  | .display => [4, 0] ++ leBytes 2 2144 ++ leBytes 2 1200 ++ zeros 10
  | .view => [3, 0, 16] ++ zeros 13
  | .calPolicy => [6, 3] ++ leBytes 2 600
      ++ [10, 5000, 100, 20, 5, 2000, 5000, 200, 2, 20].flatMap (leBytes 2) ++ [40, 0, 0, 20] ++ zeros 4
  | .axis a => [BitVec.ofNat 8 a.val, 0, 2, 32, 26, 0xFF, 0, 3] ++ zeros 2 ++ [20, 128, 64, 1, 6, 20]
      ++ [1000, 0x10000, 10000, 100000, 100000, 2000000, 200000].flatMap (leBytes 4) ++ seBytes 4 (-1000000)
      ++ [1000000, 1000, 1000, 2000000, 0].flatMap (leBytes 4) ++ leBytes 2 200 ++ [20, 0] ++ leBytes 2 100 ++ zeros 6

/-- The slots of a block's configuration record, in the order its chapter gives (R36). -/
def blockSlots : Nat → List CfgSlot
  | 0x01 => [.hub]
  | 0x02 => [.timeSource, .ptp 0, .ptp 1, .netPort 0, .netPort 1, .snapPin, .window 0, .window 1, .window 2, .window 3,
      .window 4, .window 5, .window 6, .window 7]
  | 0x03 => [.encInput 0, .encInput 1, .regulator, .pulse]
  | 0x04 => (List.finRange 7).map .memPort ++ [.memConfig, .dram]
  | 0x05 => [.grtBar] ++ (List.finRange 24).map .grtModule ++ (List.finRange 23).map .grtStitch
  | 0x06 => [.escConfig, .runAhead, .profile] ++ (List.finRange 24).map .rowOffset
  | 0x07 => [.hlkConfig] ++ (List.finRange 48).map .lane
  | 0x08 => [.ringConfig, .ringPort 0, .ringPort 1]
  | 0x09 => [.ldgConfig]
  | 0x0A => (List.finRange 4).map .camera ++ [.compare, .display]
  | 0x0B => [.view]
  | 0x0C => [.calPolicy]
  | 0x0D => [.thermal]
  | 0x0E => [.axis 0, .axis 1]
  | 0x0F => [.mss]
  | _ => []

/-- The setting in force. -/
def cfgGet (s : State) (k : CfgSlot) : Bytes :=
  match s.cfg.find? (fun p => p.1 = k) with
  | some p => p.2
  | none => cfgDefault k

/-- The setting as last accepted: the held value where one waits, else the value in force. -/
def cfgLast (s : State) (k : CfgSlot) : Bytes :=
  match s.held.find? (fun p => p.1 = k) with
  | some p => p.2
  | none => cfgGet s k

/-- The settings with one slot changed; equal values change nothing (R35). -/
def cfgPut (s : State) (k : CfgSlot) (v : Bytes) : Tab CfgSlot Bytes :=
  if cfgGet s k = v then s.cfg else tset s.cfg k v

/-- Puts a setting in force at once. -/
def cfgSet (k : CfgSlot) (v : Bytes) (s : State) : State :=
  { s with cfg := cfgPut s k v, held := terase s.held k }

/-- Accepts a setting that waits for its boundary (R28, R37). -/
def cfgHold (k : CfgSlot) (v : Bytes) (s : State) : State :=
  if cfgGet s k = v then { s with held := terase s.held k } else { s with held := tset s.held k v }

/-- Puts a held setting in force at its boundary. -/
def cfgRelease (k : CfgSlot) (s : State) : State :=
  { s with cfg := cfgPut s k (cfgLast s k), held := terase s.held k }

/-- The configuration epoch's count goes up by one if the settings in force have changed since `before` (R35, R37).
In BOOT the count stays 0. -/
def epochAfter (before s : State) : State :=
  if before.cfg = s.cfg ∨ s.hub.mode = .boot then s
  else { s with hub := { s.hub with cfgCount := s.hub.cfgCount + 1 } }

/-- A feature of word 0 is accepted (R32, R33). -/
def hasFeature (s : State) (n : Nat) : Bool := bit s.hub.features.toNat n

/-- VIEW's pixel clock in kHz: that of its mode (R314). -/
def viewClockKHz (s : State) : Nat := [65000, 108000, 85500, 148500, 154000].getD (u8 (cfgGet s .view) 0) 148500

/-- A slot as its record holds it: the run-ahead depth reads 16 while its feature is not accepted (R180). -/
def recordSlot (s : State) (k : CfgSlot) : Bytes :=
  if k = .runAhead ∧ !hasFeature s 3 then [16] ++ zeros 3 else cfgGet s k

/-- The block's configuration record, as CONFIG_READ returns it (R36). -/
def blockRecord (s : State) (block : Nat) : Bytes := (blockSlots block).flatMap (recordSlot s)

/-- The 64-bit configuration epoch (R35). -/
def cfgEpoch (s : State) : Nat := s.nvm.bootCount.toNat * 2 ^ 32 + s.hub.cfgCount.toNat

/-- The 16 bytes of the accepted feature words (R33, R36). -/
def featureBytes (s : State) : Bytes := leBytes 4 s.hub.features.toNat ++ zeros 12

/-- The configuration digest (R36). -/
def cfgDigest (s : State) : Bytes :=
  sha256 (featureBytes s ++ (upTo 15).flatMap fun i =>
    let r := blockRecord s (i + 1)
    leBytes 1 (i + 1) ++ [0] ++ leBytes 2 r.length ++ r)

end Sys2Proof.Machine
end

