-- ==== Sys2Proof/Machine/Ops.lean ====
section
/-! DEFINITION. The shared operations of every block: device time, what leaves the ports, ring sending, events,
interrupts, replies, SAFE causes and scheduled transitions. -/
namespace Sys2Proof.Machine

/-- Device time reaches the instant of a command; it never goes back by a command's own instant. -/
def advance (t : Time) (s : State) : State := { s with now := max s.now t }

/-- Something leaves a port. -/
def send (o : Output) (s : State) : State := { s with out := o :: s.out }

/-- A free number drawn for a purpose; the state's counter moves on (log entry 4). -/
def drawNat (tag : Nat) (s : State) : Nat × State :=
  (Config.freeNat tag s.freeCtr, { s with freeCtr := s.freeCtr + 1 })

def drawInt (tag : Nat) (s : State) : Int × State :=
  (Config.freeInt tag s.freeCtr, { s with freeCtr := s.freeCtr + 1 })

def drawBool (tag : Nat) (s : State) : Bool × State :=
  (Config.freeBool tag s.freeCtr, { s with freeCtr := s.freeCtr + 1 })

/-- Applies a state change for each element in turn. -/
def each {α : Type} (l : List α) (f : α → State → State) (s : State) : State :=
  l.foldl (fun s a => f a s) s

/-- Applies a change only where a condition holds. -/
def when_ (c : Bool) (f : State → State) (s : State) : State := if c then f s else s

def bootCode : BootState → Nat
  | .rom => 0 | .image => 1 | .selftest => 2 | .nvm => 3 | .dram => 4 | .recovery => 5 | .ready => 6 | .failed => 7

def modeCode : Mode → Nat
  | .boot => 0 | .standby => 1 | .service => 2 | .calibrate => 3 | .armed => 4 | .print => 5 | .drain => 6 | .safe => 7

def modeOf : Nat → Mode
  | 0 => .boot | 1 => .standby | 2 => .service | 3 => .calibrate | 4 => .armed | 5 => .print | 6 => .drain | _ => .safe

/-- ARMED, PRINT or DRAIN: the modes in which bar geometry is RUN (R29). -/
def printingMode : Mode → Bool
  | .armed => true | .print => true | .drain => true | _ => false

/-! The ring ports as a sender uses them -/

def ringPort (s : State) : RingPort → RingPortState
  | .east => s.rng.east
  | .west => s.rng.west

def setRingPort (p : RingPort) (v : RingPortState) (s : State) : State :=
  match p with
  | .east => { s with rng := { s.rng with east := v } }
  | .west => { s with rng := { s.rng with west := v } }

def otherPort : RingPort → RingPort
  | .east => .west
  | .west => .east

def portCode : RingPort → Nat
  | .east => 0
  | .west => 1

/-- The port is UP (R74). -/
def portUp (s : State) (p : RingPort) : Bool := (ringPort s p).state = .up

/-- HOP_ACK and TIME are not kept for retransmission (R72). -/
def bodyKept : RingBody → Bool
  | .hopAck _ => false
  | .time _ _ _ => false
  | _ => true

/-- Puts a packet on a port that is UP, keeping a copy until HOP_ACK (R72). A packet bound for a port that is not UP
goes out of the other port with the wrapped bit set (R76). -/
def sendOn (p : RingPort) (k : RingPacket) (s : State) : State :=
  let put (q : RingPort) (k : RingPacket) (s : State) : State :=
    let k := { k with hdr := { k.hdr with port := q } }
    let st := ringPort s q
    send (.ring q k) (if bodyKept k.body then setRingPort q { st with copies := st.copies ++ [k] } s else s)
  if portUp s p then put p k s
  else if portUp s (otherPort p) then put (otherPort p) { k with hdr := { k.hdr with wrapped := true, west := otherPort p = .west } } s
  else s

/-- The ports a packet of this unit leaves by: a broadcast goes east on a CLOSED ring and both ways otherwise; a
unicast takes the reachable port with fewer hops, east on a tie (R71, R76). -/
def routes (s : State) (dst : BitVec 5) : List RingPort :=
  if dst = 31 then
    if s.rng.state = .closed then [.east]
    else (if portUp s .east then [.east] else []) ++ (if portUp s .west then [.west] else [])
  else
    let e := tget {} s.rng.map dst
    if e.reachE && (!e.reachW || decide (e.hopsE ≤ e.hopsW)) then [.east]
    else if e.reachW then [.west]
    else []

/-- This unit's next packet (04, Ring packets). -/
def newPacket (s : State) (dst : BitVec 5) (body : RingBody) : RingPacket :=
  { hdr := { src := s.rng.address, dst := dst, hops := 30, seq := s.rng.txSeq, serial := Config.deviceSerial },
    body := body }

/-- Sends a packet of this unit by the given ports. -/
def sendVia (ports : List RingPort) (dst : BitVec 5) (body : RingBody) (s : State) : State :=
  let k := newPacket s dst body
  let s := { s with rng := { s.rng with txSeq := s.rng.txSeq + 1 } }
  each ports (fun p => sendOn p { k with hdr := { k.hdr with west := p = .west } }) s

/-- Sends a packet of this unit to an address, 31 for every unit. -/
def sendRing (dst : BitVec 5) (body : RingBody) (s : State) : State := sendVia (routes s dst) dst body s

/-- Sends a packet both ways, as COMMIT, ABORT and ENUM_ABORT are sent (R77, R84). -/
def sendBoth (dst : BitVec 5) (body : RingBody) (s : State) : State := sendVia [.east, .west] dst body s

/-! Interrupts (R62) -/

/-- DMA can reach the host: the link is up, Bus Master is enabled and the function is in D0 (R40). -/
def dmaOk (s : State) : Bool := s.link.up && s.link.busMaster && !s.link.d3hot

def intMapOf (s : State) (n : Nat) : Nat := (tget 0 s.bar0.intMap n).toNat

/-- A vector's mask bit: bit 0 of the fourth word of its table entry, set at reset (R41). -/
def vectorMasked (s : State) (v : Nat) : Bool := bit (tget 1 s.bar0.msix (4 * v + 3)).toNat 0

/-- Sends the message of a source, or sets its pending bit where it is disabled or masked or no message can leave. -/
def sendMessage (n : Nat) (s : State) : State :=
  let m := intMapOf s n
  let v := bits m 5 0
  if !bit m 8 then { s with bar0 := { s.bar0 with srcPending := n :: s.bar0.srcPending.filter (· ≠ n) } }
  else if vectorMasked s v || !dmaOk s then
    { s with bar0 := { s.bar0 with pba := v :: s.bar0.pba.filter (· ≠ v) } }
  else send (.msix v) s

/-- The coalescing register of a source: COAL_REPLY for source 0, COAL_EVENT for 1 and 2. -/
def coalOf (s : State) (n : Nat) : Nat := (if n = 0 then s.bar0.coalReply else s.bar0.coalEvent).toNat

/-- Count field, 0 taken as 1. -/
def coalCount (s : State) (n : Nat) : Nat := max 1 (bits (coalOf s n) 7 0)

/-- Time field in ticks, 0 taken as 1 and more than 1,000 as 1,000. -/
def coalTime (s : State) (n : Nat) : Time := tpUs * min 1000 (max 1 (bits (coalOf s n) 25 16))

/-- One entry has been written for a source. Sources 3 and 4 are never coalesced. -/
def countEntry (n : Nat) (s : State) : State :=
  if n ≥ 3 then sendMessage n s
  else
    let c := tget {} s.bar0.sources n
    let c' : IntSource := { count := c.count + 1, oldest := if c.count = 0 then s.now else c.oldest }
    if coalCount s n ≤ c'.count then
      sendMessage n { s with bar0 := { s.bar0 with sources := tset s.bar0.sources n {} } }
    else { s with bar0 := { s.bar0 with sources := tset s.bar0.sources n c' } }

/-! Events (R59 to R61) -/

/-- An enabled ring that is not in error (R44, R46). -/
def ringUsable (r : RingRegs) : Bool := r.enabled && !r.error

/-- Entries in use: the producer index less the consumer index, modulo the size (R43). -/
def inUse (size producer consumer : Nat) : Nat := (producer + size - consumer) % size

/-- Free entries of a ring the device produces; at most size - 1 are ever in use (R43). -/
def ringFree (r : RingRegs) : Nat := r.size.toNat - 1 - inUse r.size.toNat r.idx r.other

/-- Severity: the top four bits of the code (R60). -/
def severity (e : Event) : Nat := e.code.toNat / 2 ^ 12

/-- The 32 bytes of an event (R59). -/
def eventBytes (phase : Bool) (e : Event) : Bytes :=
  leBytes 2 e.code.toNat ++ [e.block] ++ [BitVec.ofNat 8 (b2n phase + 2 * b2n e.remote + 8 * e.unit.toNat)]
    ++ timeBytes e.time ++ padTo 16 e.detail

/-- The producer index after `n` entries, and whether it wrapped to 0 or past it (R45). -/
def ringPush (n : Nat) (r : RingRegs) : RingRegs :=
  let i := r.idx + n
  { r with idx := i % r.size.toNat, phase := if r.size.toNat ≤ i then !r.phase else r.phase }

def canWriteEvent (s : State) : Bool := ringUsable s.bar0.evt && dmaOk s && decide (0 < ringFree s.bar0.evt)

/-- Writes one event to the Event Ring (R45) and counts it for its interrupt source. -/
def writeEvent (e : Event) (s : State) : State :=
  let r := s.bar0.evt
  let s := send (.event r.idx r.phase e) { s with bar0 := { s.bar0 with evt := ringPush 1 r } }
  countEntry (severity e) s

/-- Adds an event to the on-chip buffer, or discards and counts it by the occupancy (R61). -/
def bufferEvent (e : Event) (s : State) : State :=
  let n := s.bar0.buffer.length
  if 512 ≤ n ∨ (448 ≤ n ∧ severity e ≤ 2) ∨ (384 ≤ n ∧ severity e ≤ 1) then
    if severity e = 1 then { s with bar0 := { s.bar0 with lostInfo := s.bar0.lostInfo + 1 } }
    else if severity e = 2 then { s with bar0 := { s.bar0 with lostWarn := s.bar0.lostWarn + 1 } }
    else { s with bar0 := { s.bar0 with lostFault := s.bar0.lostFault + 1 } }
  else { s with bar0 := { s.bar0 with buffer := s.bar0.buffer ++ [e] } }

/-- EV_EVENT_LOST with the counts since the previous one (R61). -/
def eventLost (s : State) : Event :=
  { code := 0x2002, block := 0x01, unit := s.rng.address, time := s.now,
    detail := leBytes 4 s.bar0.lostInfo ++ leBytes 4 s.bar0.lostWarn ++ leBytes 4 s.bar0.lostFault ++ zeros 4 }

/-- Once the occupancy is below 384 after a discard, EV_EVENT_LOST goes in ahead of every event not yet buffered. -/
def insertLost (s : State) : State :=
  let b := s.bar0
  if b.buffer.length < 384 ∧ 0 < b.lostInfo + b.lostWarn + b.lostFault then
    { s with bar0 := { b with buffer := b.buffer ++ [eventLost s], lostInfo := 0, lostWarn := 0, lostFault := 0 } }
  else s

/-- Writes up to `n` buffered events, oldest first. -/
def drainEvents : Nat → State → State
  | 0, s => s
  | n + 1, s =>
    match s.bar0.buffer with
    | [] => s
    | e :: r =>
      if canWriteEvent s then
        drainEvents n (writeEvent e (insertLost { s with bar0 := { s.bar0 with buffer := r } }))
      else s

/-- Writes what the buffer holds as far as the Event Ring takes it. -/
def flushEvents (s : State) : State := drainEvents (s.bar0.buffer.length + 1) s

/-- One event goes to the Event Ring, or to the buffer while that is full, disabled or unreachable (R61). -/
def deliverEvent (e : Event) (s : State) : State :=
  if s.bar0.buffer.isEmpty && canWriteEvent s then writeEvent e s else bufferEvent e (insertLost s)

/-- Events entered in the event log: every fault, and the severities MSS_CONFIG_SET selects (R340). -/
def logged (s : State) (e : Event) : Bool :=
  let f := u8 (cfgGet s .mss) 0
  decide (severity e = 3) || (decide (severity e = 2) && bit f 0) || (decide (severity e = 1) && bit f 1)

def logEvent (e : Event) (s : State) : State :=
  if logged s e then { s with mss := { s.mss with logQueue := s.mss.logQueue ++ [eventBytes false e] } } else s

/-- Severities that forward_level puts on the ring (R86). -/
def forwarded (s : State) (e : Event) : Bool :=
  let l := u8 (cfgGet s .ringConfig) 8
  decide (4 ≤ l + severity e) && decide (l ≠ 0)

/-- An event is the completion that is owed. -/
def completes (e : Event) (o : Owed) : Bool := o.codes.contains e.code && decide (slice e.detail o.off o.key.length = o.key)

/-- Sends an event onto the ring: to every unit by forward_level, else to the unit that relayed the command it
completes (R86). -/
def forwardEvent (e : Event) (s : State) : State :=
  let owed := s.rng.completions.filter (completes e)
  let s := { s with rng := { s.rng with completions := s.rng.completions.filter fun o => !completes e o } }
  if forwarded s e then (if (routes s 31).isEmpty then s else sendRing 31 (.evt [e]) s)
  else each owed (fun o => sendRing o.unit (.evt [e])) s

/-- Raises an event with its own timestamp: it is written or buffered, logged and forwarded. -/
def raiseAt (t : Time) (code block : Nat) (detail : Bytes) (s : State) : State :=
  let e : Event := { code := BitVec.ofNat 16 code, block := BitVec.ofNat 8 block, unit := s.rng.address, time := t,
                     detail := padTo 16 detail }
  forwardEvent e (logEvent e (deliverEvent e s))

/-- Raises an event stamped with the present device time. -/
def raise (code block : Nat) (detail : Bytes) (s : State) : State := raiseAt s.now code block detail s

/-! Replies (R45, R50, R51, R55) -/

/-- Continuation entries for `len` bytes (R48, R51). -/
def contsFor (len : Nat) : Nat := if len ≤ 48 then 0 else (len - 48 + 63) / 64

/-- Entries of a reply. -/
def replyEntries (r : Reply) : Nat := 1 + contsFor r.result.length

/-- The head entry of a reply (R51). -/
def replyHead (phase : Bool) (r : Reply) : Bytes :=
  leBytes 2 r.seq.toNat ++ leBytes 2 r.status.toNat ++ leBytes 2 r.opcode.toNat ++ leBytes 2 r.result.length
    ++ leBytes 1 (contsFor r.result.length) ++ [r.source] ++ zeros 2 ++ padTo 48 r.result ++ leBytes 4 (b2n phase)

def canWriteReply (s : State) (n : Nat) : Bool := ringUsable s.bar0.rpl && dmaOk s && decide (n ≤ ringFree s.bar0.rpl)

/-- Writes one reply to the Reply Ring and counts it for source 0. -/
def writeReply (r : Reply) (s : State) : State :=
  let g := s.bar0.rpl
  let s := send (.reply g.idx g.phase r) { s with bar0 := { s.bar0 with rpl := ringPush (replyEntries r) g } }
  countEntry 0 s

/-- Writes up to `n` of the replies held on chip, oldest first (R56). -/
def drainReplies : Nat → State → State
  | 0, s => s
  | n + 1, s =>
    match s.bar0.heldReplies with
    | [] => s
    | r :: rest =>
      if canWriteReply s (replyEntries r) then
        drainReplies n (writeReply r { s with bar0 := { s.bar0 with heldReplies := rest } })
      else s

def flushReplies (s : State) : State := drainReplies s.bar0.heldReplies.length s

/-- A reply goes to the Reply Ring, or waits on chip until the ring has room (R56). -/
def reply (r : Reply) (s : State) : State :=
  if s.bar0.heldReplies.isEmpty && canWriteReply s (replyEntries r) then writeReply r s
  else { s with bar0 := { s.bar0 with heldReplies := s.bar0.heldReplies ++ [r] } }

/-! SAFE causes and scheduled transitions (R23, R25, R27) -/

/-- HUB_SAFE_CAUSE. -/
def safeWord (s : State) : Nat := maskOf 7 fun i => s.hub.safe.any fun c => c.bit = i

/-- The block that EV_SAFE_ENTERED names: that of the standing cause with the lowest bit among those with the
timestamp of the entry, and among internal faults the lowest block (02, Events). -/
def safeSource (s : State) : Nat :=
  let key (c : CauseRec) : Nat := c.bit * 16 + c.block
  match s.hub.safe with
  | [] => 1
  | c :: r => (r.foldl (fun a c => if key c < key a then c else a) c).block

/-- When an automatic transition takes effect: at the next line boundary while ESC tracks the web, and at once
elsewhere, where no line boundary is ahead (R27; log entry 12). -/
def autoDue (s : State) : Due := if printingMode s.hub.mode then .line s.now else .instant s.now

/-- An automatic transition, without a command of its own (R27). -/
def autoTrans (target : Mode) (due : Due) (cause : Nat) (since : Time) : Transition :=
  { target := target, due := due, cause := cause, origin := 0, seq := 0xFFFF, since := since }

/-- The automatic transition that waits, if any, leads into SAFE. -/
def autoIsSafe (s : State) : Bool :=
  match s.hub.auto with
  | some a => a.target = .safe
  | none => false

/-- Schedules the transition into SAFE, over a drain that waits. -/
def scheduleSafe (s : State) : State :=
  if s.hub.mode = .boot ∨ s.hub.mode = .safe ∨ autoIsSafe s then s
  else { s with hub := { s.hub with auto := some (autoTrans .safe (autoDue s) 9 s.now) } }

/-- A SAFE cause arises: its bit is set with its timestamp and the entry to SAFE is scheduled. -/
def raiseSafeAt (t : Time) (bit block : Nat) (s : State) : State :=
  let s := if s.hub.safe.any (fun c => c.bit = bit ∧ c.block = block) then s
    else { s with hub := { s.hub with safe := s.hub.safe ++ [{ bit := bit, block := block, t := t }] } }
  scheduleSafe s

def raiseSafe (bit block : Nat) (s : State) : State := raiseSafeAt s.now bit block s

/-- A SAFE cause ends (02: a bit stays set for as long as its cause persists). -/
def clearSafe (bit block : Nat) (s : State) : State :=
  { s with hub := { s.hub with safe := s.hub.safe.filter fun c => !(c.bit = bit ∧ c.block = block) } }

/-- Nothing automatic waits that comes first: the drain at the end of the print queue waits for its slot (R132). -/
def autoFree (s : State) : Bool :=
  match s.hub.auto with
  | none => true
  | some a => match a.due with
    | .slot _ => true
    | _ => false

/-- An automatic DRAIN: from PRINT, unless a transition into SAFE or DRAIN already waits (R23, R27). -/
def scheduleDrain (cause : Nat) (due : Due) (s : State) : State :=
  if s.hub.mode = .print ∧ autoFree s = true then
    { s with hub := { s.hub with auto := some (autoTrans .drain due cause s.now) } }
  else s

/-- An internal fault of a block (HUB_SAFE_CAUSE [5]). -/
def internalFault (block : Nat) (s : State) : State := raiseSafe 5 block s

/-- The instant of a host-commanded transition: the first whole microsecond at least 1 µs after validation (R27). -/
def hostInstant (now : Time) : Time := ceilTo tpUs (now + tpUs)

/-- An automatic transition is scheduled. The drain at the end of the print queue counts as scheduled from the begin
slot of the row it waits for (R132; log entry 84). -/
def autoScheduled (s : State) : Bool :=
  match s.hub.auto with
  | none => false
  | some a => match a.due with
    | .slot n => decide (n ≤ s.esc.hwm + 1)
    | _ => true

/-- A transition waits (HUB_MODE [6]). -/
def transPending (s : State) : Bool := s.hub.trans.isSome || autoScheduled s

end Sys2Proof.Machine
end

