-- ==== Sys2Proof/Machine/Validate.lean ====
section
/-! DEFINITION. Validation and application of a command (R47 to R57): the status codes, what a command's own chapter
states about it (`CmdSpec`), and the checks of R53 in their order. -/
namespace Sys2Proof.Machine

/-! Status codes (R57) -/
def eOk : Nat := 0x0000
def ePending : Nat := 0x0001
def eBadOpcode : Nat := 0x0101
def eBadLength : Nat := 0x0102
def eBadValue : Nat := 0x0103
def eBadMode : Nat := 0x0104
def eBusy : Nat := 0x0105
def eNotNegotiated : Nat := 0x0106
def eNoResource : Nat := 0x0107
def eUnreachable : Nat := 0x0108
def eVoteNo : Nat := 0x0109
def eAuth : Nat := 0x010A
def eTimeout : Nat := 0x010B
def ePartial : Nat := 0x010C
def eTimePast : Nat := 0x010D
def eSealed : Nat := 0x010E
def eInternal : Nat := 0x0201

/-- Who asks for a command: its origin code in EV_MODE_CHANGED and the unit whose host issued it. -/
structure Asker where
  origin : Nat := 1
  unit : BitVec 5 := 0
  deriving DecidableEq, Repr

/-- A status with its result data. -/
abbrev Verdict := Nat × Bytes

/-- What a command's chapter states of it. The fields are checked in the order of R53. -/
structure CmdSpec where
  opcode : Nat
  /-- modes other than BOOT that permit it (R22) -/
  modes : Mode → Bool
  /-- boot states of BOOT that permit it -/
  boot : BootState → Bool := fun _ => false
  /-- result data of an E_BAD_MODE at step 2 -/
  modeResult : Bytes := []
  /-- a read in the sense of R79 -/
  isRead : Bool := false
  /-- param_length is right -/
  len : Nat → Bool
  /-- the length agrees with a count or type the parameters carry -/
  lenMatch : Bytes → Bool := fun _ => true
  /-- the command and the values it carries need only accepted features (step 5) -/
  feature : Bytes → State → Bool := fun _ _ => true
  /-- ranges, reserved fields and time values (step 6) -/
  value : Bytes → State → Bool := fun _ _ => true
  /-- rules against the device's state (step 7), the first that fails -/
  check : Bytes → State → Option Verdict := fun _ _ => none
  /-- the command's effect, with its status and result data -/
  apply : Cmd → Asker → State → Verdict × State
  /-- what completes the command at once, after its E_PENDING reply (R63) -/
  after : State → State := id

/-- Sets of modes other than BOOT. -/
def anyMode (_ : Mode) : Bool := true
def setupModes : Mode → Bool
  | .standby | .service | .calibrate => true
  | _ => false
def exceptSafe : Mode → Bool
  | .safe => false
  | _ => true
def oneOf (l : List Mode) (m : Mode) : Bool := l.contains m

/-- Opcode permitted in the mode and boot state (R53 step 2). -/
def modePermits (d : CmdSpec) (s : State) : Bool :=
  if s.hub.mode = .boot then d.boot s.hub.bootState else d.modes s.hub.mode

/-- Target 0 or this unit's own address (R49). -/
def isLocal (c : Cmd) (s : State) : Bool :=
  c.target.toNat == 0 || (decide (s.rng.address ≠ 0) && c.target.toNat == s.rng.address.toNat)

def relayFlag (c : Cmd) : Bool := bit c.flags.toNat 1
def twoPhase (c : Cmd) : Bool := bit c.flags.toNat 2
def replyWanted (c : Cmd) : Bool := bit c.flags.toNat 0

/-- Header fields: reserved bytes and bits, target and relay (R49), two-phase flag (R81) (R53 step 3). -/
def headerOk (isRead : Bool) (c : Cmd) (s : State) : Bool :=
  c.reserved == 0 && bits c.flags.toNat 7 3 == 0 && decide (c.target.toNat ≤ 31)
    && (isLocal c s || relayFlag c)
    && !(isRead && twoPhase c)
    && (isLocal c s || isRead || twoPhase c)

/-- param_length and cont_count (R48, R53 step 4). -/
def lengthOk (d : CmdSpec) (c : Cmd) : Bool :=
  decide (c.cont.toNat ≤ 15) && decide (c.paramLen.toNat ≤ 1008) && c.cont.toNat == contsFor c.paramLen.toNat
    && d.len c.paramLen.toNat && c.params.length == c.paramLen.toNat && d.lenMatch c.params

/-- The block whose chapter defines an opcode, by its range (R58); HUB for the ranges no built-in test can refuse. -/
def rangeBlock (opcode : Nat) : Nat :=
  match opcode / 256 with
  | 0x01 => 0x08 | 0x02 => 0x04 | 0x03 => 0x05 | 0x04 => 0x06 | 0x05 => 0x07 | 0x06 => 0x03 | 0x07 => 0x09
  | 0x08 => 0x0A | 0x09 => 0x0B | 0x0A => 0x0C | 0x0B => 0x0E | 0x0C => 0x02 | 0x0D => 0x0D | 0x0E => 0x0F
  | _ => 0x01

/-- The opcode's block failed built-in test, so its commands are refused (02, SAFE_CLEAR). -/
def blockFailed (opcode : Nat) (s : State) : Bool := bit s.hub.bistFailed.toNat (rangeBlock opcode)

/-- Steps 2 and 4 to 7 of R53 against this unit's state: the first failing check, or none. -/
def refusal (d : CmdSpec) (c : Cmd) (s : State) : Option Verdict :=
  if !modePermits d s then some (eBadMode, d.modeResult)
  else if !lengthOk d c then some (eBadLength, [])
  else if blockFailed d.opcode s then some (eInternal, [])
  else if !d.feature c.params s then some (eNotNegotiated, [])
  else if !d.value c.params s then some (eBadValue, [])
  else d.check c.params s

/-- The settings a command would change are at the end of the epoch count (R35). -/
def epochFull (before after : State) : Bool :=
  decide (before.hub.cfgCount = 0xFFFFFFFF)
    && !(decide (before.cfg = after.cfg) && decide (before.held = after.held))

/-- Validates a command against this unit's state and applies it whole or not at all (R52, R53). -/
def runCommand (d : CmdSpec) (c : Cmd) (a : Asker) (s : State) : Verdict × State :=
  match refusal d c s with
  | some v => (v, s)
  | none =>
    let r := d.apply c a s
    if epochFull s r.2 then ((eNoResource, []), s) else (r.1, epochAfter s r.2)

/-- The reply of a local command, written when it is wanted or the status is neither E_OK nor E_PENDING (R50). -/
def answer (opcode : Nat) (c : Cmd) (v : Verdict) (s : State) : State :=
  if replyWanted c || !(v.1 == eOk || v.1 == ePending) then
    reply { seq := c.seq, status := BitVec.ofNat 16 v.1, opcode := BitVec.ofNat 16 opcode, result := v.2,
            source := BitVec.ofNat 8 s.rng.address.toNat } s
  else s

/-- What follows the reply of a command that the reply left pending (R63). -/
def complete (d : CmdSpec) (v : Verdict) (s : State) : State :=
  if v.1 = ePending then epochAfter s (d.after s) else s

/-- A verdict without result data. -/
def done (s : State) : Verdict × State := ((eOk, []), s)
def pendingDone (s : State) : Verdict × State := ((ePending, []), s)
def withResult (b : Bytes) (s : State) : Verdict × State := ((eOk, b), s)

/-- Refuses with a status when a condition holds. -/
def refuseIf (c : Bool) (status : Nat) : Option Verdict := if c then some (status, []) else none

/-- The first refusal of a list (R53: the order listed). -/
def firstOf : List (Option Verdict) → Option Verdict
  | [] => none
  | some v :: _ => some v
  | none :: r => firstOf r

end Sys2Proof.Machine
end

