-- ==== Sys2Proof/Machine/Power.lean ====
section
/-! DEFINITION. When a step acts at all (power and reset), and the shutdown sequence that die temperature, a supply
collapse, a lockstep mismatch and the MSS watchdog share (R288, R328, R329, R344). -/
namespace Sys2Proof.Machine

/-- The core is powered and out of reset. -/
def alive (s : State) : Bool := !s.hub.inReset && !s.mss.coreOff

/-- What a step leaves, with the queue of waiting commands as it was. -/
def keepQueue (before after : State) : State := { after with pending := before.pending }

/-- A step of the device at an instant: device time reaches the instant, and the step acts if the core runs. -/
def atTime (t : Time) (f : State → State) (s : State) : Host.Outcome State Fault Refusal :=
  let s := advance t s
  .next (keepQueue s (if alive s then f s else s))

/-- A step that reset and power act on, which needs no running core. -/
def always (t : Time) (f : State → State) (s : State) : Host.Outcome State Fault Refusal :=
  .next (keepQueue s (f (advance t s)))

/-- Starts the sequence of R288 or R328 at t0: the cause is latched in the always-on register. A sequence already
running keeps its own cause (R347, R373). -/
def startShutdown (cause : Nat) (t0 : Time) (s : State) : State :=
  match s.mss.shutdown with
  | some _ => s
  | none =>
    { s with
      mss := { s.mss with shutdown := some (cause, t0) }
      nvm := { s.nvm with shutdownCause := BitVec.ofNat 16 cause, shutdownTime := t0 } }

/-- Die shutdown over a lockstep sequence at the same instant takes the sequence of R288 with cause 1 (R347). -/
def dieOverLockstep (t0 : Time) (s : State) : State :=
  match s.mss.shutdown with
  | some (c, t) =>
    if (c = 3 ∨ c = 4) ∧ t = t0 then
      { s with
        mss := { s.mss with shutdown := some (1, t0) }
        nvm := { s.nvm with shutdownCause := 1, shutdownTime := t0 } }
    else s
  | none => s

/-! The two NVM devices (R339) -/

/-- An NVM device fails: it is marked, and EV_MSS_NVM_DEVICE says why (R339). -/
def nvmDeviceFails (second : Bool) (cause : Nat) (s : State) : State :=
  let was := if second then s.nvm.failed1 else s.nvm.failed0
  if was then s
  else raise 0x2F02 0x0F (leBytes 1 (b2n second) ++ leBytes 1 cause)
    (if second then { s with nvm := { s.nvm with failed1 := true } } else { s with nvm := { s.nvm with failed0 := true } })

/-- The outcome of an operation on both devices: failures are marked with their cause, and the result says whether one
device holds the data. -/
def onBothDevices (ok0 ok1 : Bool) (cause : Nat) (s : State) : Bool × State :=
  let good := (ok0 && !s.nvm.failed0) || (ok1 && !s.nvm.failed1)
  (good, when_ (!ok1) (nvmDeviceFails true cause) (when_ (!ok0) (nvmDeviceFails false cause) s))

end Sys2Proof.Machine
end

