-- ==== Sys2Proof/Machine/CalRuns.lean ====
section
/-! DEFINITION. The calibration run table as other blocks end a run (R266): ABORTED and REJECTED runs, and the runs
whose channel fails. -/
namespace Sys2Proof.Machine

/-- A run lets go of its axis and of its lane's scan. A move in progress goes on. -/
def freeTarget (r : CalRun) (s : State) : State :=
  if r.type = 4 then
    { s with axs := { s.axs with axes := s.axs.axes.map fun e =>
        if e.1 = r.target ∧ e.2.owner = some r.id then (e.1, { e.2 with owner := none }) else e } }
  else if r.type = 9 then
    { s with hlk := { s.hlk with lanes := s.hlk.lanes.map fun e =>
        if e.1 = r.target ∧ e.2.scan.map (·.2) = some r.id then (e.1, { e.2 with scan := none }) else e } }
  else s

/-- A run enters a final state; an earlier final run of its type and target leaves the table (R266). -/
def finalRun (r : CalRun) (s : State) : State :=
  let keep := s.cal.runs.filter fun x => !(decide (6 ≤ x.state) && x.type == r.type && x.target == r.target && x.id != r.id)
  let swap : CalRun → CalRun := fun x => if x.id = r.id then { r with final := s.cal.finals + 1 } else x
  freeTarget r { s with cal := { s.cal with runs := keep.map swap, finals := s.cal.finals + 1 } }

/-- Bytes 0 to 15 of EV_CAL_RUN_DONE and EV_CAL_REJECTED. -/
def runDetail (r : CalRun) (reason : Nat) : Bytes :=
  leBytes 2 r.id ++ leBytes 1 r.type ++ leBytes 1 r.target ++ leBytes 1 r.state
    ++ leBytes 1 (b2n r.hold + 2 * b2n r.spare + 4 * reason) ++ zeros 2 ++ leBytes 4 r.q1 ++ leBytes 4 r.q2

/-- A run ends REJECTED (7) or ABORTED (8) with a reason. -/
def failRun (state reason : Nat) (r : CalRun) (s : State) : State :=
  let r := { r with state := state, reason := reason }
  let s := finalRun r s
  raise 0x2C02 0x0C (runDetail r reason) { s with cal := { s.cal with failed := satInc 16 s.cal.failed } }

/-- Runs that are QUEUED, HELD or active and satisfy a condition are ABORTED. -/
def abortRuns (reason : Nat) (sel : CalRun → Bool) (s : State) : State :=
  each (s.cal.runs.filter fun r => decide (r.state ≤ 4) && sel r) (failRun 8 reason) s

/-- The encoder's channel fails: its own runs, and a SPARE run it stands in for (R266, R274). -/
def encoderSource (x : Nat) (s : State) : State :=
  let s := abortRuns 8 (fun r => (r.type == 1 || r.type == 10) && (r.target == x || r.spare)) s
  { s with cal := { s.cal with spareHome := none } }

/-- A lane's channel fails. -/
def laneSource (n : Nat) (s : State) : State := abortRuns 8 (fun r => r.type == 9 && r.target == n) s

/-- A module's channel fails: its own runs and those of its joins. -/
def moduleSource (m : Nat) (s : State) : State :=
  abortRuns 8 (fun r => ((r.type == 6 || r.type == 8) && r.target == m)
    || (r.type == 7 && (r.target == m || r.target + 1 == m))) s

/-- A camera's channel fails. -/
def cameraSource (c : Nat) (s : State) : State := abortRuns 8 (fun r => (r.type == 2 || r.type == 3) && r.target == c) s

/-- An axis stalls or stops on a limit. -/
def axisSource (a : Nat) (s : State) : State := abortRuns 8 (fun r => r.type == 4 && r.target == a) s

end Sys2Proof.Machine
end

