-- ==== Sys2Proof/Machine/Meridian.lean ====
section
/-! DEFINITION. MER, device time (05): time sources, PTP domains, steps, window generators and snapshot instants. -/
namespace Sys2Proof.Machine

def ptpOf (s : State) (d : Nat) : PtpDomain := if d = 0 then s.mer.ptpA else s.mer.ptpB

def setPtp (d : Nat) (v : PtpDomain) (s : State) : State :=
  if d = 0 then { s with mer := { s.mer with ptpA := v } } else { s with mer := { s.mer with ptpB := v } }

def idx2 (n : Nat) : Fin 2 := if n = 0 then 0 else 1

def ptpCfg (s : State) (d : Nat) : Bytes := cfgGet s (.ptp (idx2 d))
def netCfg (s : State) (p : Nat) : Bytes := cfgGet s (.netPort (idx2 p))
def timeCfg (s : State) : Bytes := cfgGet s .timeSource

def policyFree (s : State) : Bool := u8 (timeCfg s) 0 == 1
def preferred (s : State) : Nat := u8 (timeCfg s) 1
def revertSet (s : State) : Bool := bit (u8 (timeCfg s) 2) 0
def stepEnable (s : State) : Bool := bit (u8 (timeCfg s) 2) 1
def stepThreshold (s : State) : Nat := u32 (timeCfg s) 8 * tpNs
def holdoff (s : State) : Time := u16 (timeCfg s) 12 * tpS

/-- A period of 2^n seconds in ticks. -/
def logPeriod (n : Int) : Time := if 0 ≤ n then tpS * 2 ^ n.toNat else tpS / 2 ^ (-n).toNat

/-- The network port a domain uses. -/
def ptpPort (s : State) (d : Nat) : Nat := b2n (bit (u8 (ptpCfg s d) 1) 1)
def ptpEnabled (s : State) (d : Nat) : Bool := bit (u8 (ptpCfg s d) 1) 0
def ptpPeer (s : State) (d : Nat) : Bool := bit (u8 (ptpCfg s d) 1) 4
def ptpOneStep (s : State) (d : Nat) : Bool := bit (u8 (ptpCfg s d) 1) 5
def lockThreshold (s : State) (d : Nat) : Nat := u32 (ptpCfg s d) 16 * tpNs

def portLink (s : State) (p : Nat) : Bool := if p = 0 then s.mer.linkUp0 else s.mer.linkUp1
def portEnabled (s : State) (p : Nat) : Bool := bit (u8 (netCfg s p) 1) 1

/-! Rate (R90) -/

/-- The servo's next rate: free within ±slew_max and within slew_accel for each millisecond since the last change
(R90; the coefficients are not given, log entry 21). -/
def adjustRate (s : State) : State :=
  let r := drawInt 1 s
  let lim : Int := u16 (timeCfg s) 4 * 1000
  let ms : Int := (s.now - s.mer.rateTime) / tpMs
  let step : Int := u16 (timeCfg s) 6 * ms
  let v := clampI (-lim) lim (clampI (s.mer.rate - step) (s.mer.rate + step) r.1)
  { r.2 with mer := { r.2.mer with rate := v, rateTime := s.now - (s.now - s.mer.rateTime) % tpMs } }

/-! Sources (R93, R98) -/

/-- The ring carries time: CLOSED, BROKEN or SPLIT. -/
def ringTimed (s : State) : Bool :=
  match s.rng.state with
  | .closed | .broken | .split => true
  | _ => false

/-- This unit or a reachable enumerated unit, with its policy and SLAVE status. -/
def ringUnits (s : State) : List (BitVec 5 × TimePeer) :=
  let slaves := [0, 1].filterMap fun d => if (ptpOf s d).state = 9 then some (ptpOf s d).slaveSince else none
  let own : TimePeer := { auto := !policyFree s, slave := !slaves.isEmpty, slaveSince := slaves.headD 0 }
  (s.rng.map.filterMap fun e =>
    if e.1 = s.rng.address then none
    else if e.2.reachE || e.2.reachW then some (e.1, tget {} s.mer.peers e.1) else none)
  ++ (if s.rng.address = 0 then [] else [(s.rng.address, own)])

/-- The lowest address of a list, 0 of an empty one. -/
def lowestAddr (l : List (BitVec 5)) : BitVec 5 :=
  match l with
  | [] => 0
  | a :: r => r.foldl (fun x y => if y.toNat < x.toNat then y else x) a

/-- The ring time master (R93): the lowest AUTO address with a domain in SLAVE, else the lowest AUTO address. A move
only to a lower address waits for the candidate's revert_holdoff. -/
def chooseMaster (s : State) : BitVec 5 :=
  let autos := (ringUnits s).filter fun u => u.2.auto
  let slaves := autos.filter fun u => u.2.slave
  let settled := slaves.filter fun u => u.1 = s.mer.master ∨ u.2.slaveSince + holdoff s ≤ s.now
  let present := slaves.any fun u => u.1 = s.mer.master
  if slaves.isEmpty then lowestAddr (autos.map (·.1))
  else if present then lowestAddr (settled.map (·.1))
  else lowestAddr (slaves.map (·.1))

def isSlave (s : State) (d : Nat) : Bool := (ptpOf s d).state = 9

/-- The active source by the table of R93: 0 none, 1 A, 2 B, 3 RING. -/
def chooseSource (s : State) : Nat :=
  if policyFree s then 0
  else if ringTimed s && !(s.mer.master = s.rng.address) then 3
  else
    let p := preferred s
    let o := 1 - p
    let active := s.mer.source
    let pReady := isSlave s p && (decide (active ≠ o + 1) || !isSlave s o
      || (revertSet s && decide ((ptpOf s p).slaveSince + holdoff s ≤ s.now)))
    if pReady then p + 1 else if isSlave s o then o + 1 else if isSlave s p then p + 1 else 0

/-- Offset of a source from device time in 2^-16 ns. -/
def sourceOffset (s : State) (src : Nat) : Int :=
  match src with
  | 1 => s.mer.ptpA.offset
  | 2 => s.mer.ptpB.offset
  | 3 => s.mer.ringOffset * 65536 / 1000
  | _ => 0

/-- The three conditions of R91. -/
def stepPermitted (s : State) : Bool :=
  (decide (s.hub.mode = .standby) || decide (s.hub.mode = .service) || decide (s.hub.mode = .safe))
    && !transPending s && s.rng.prepared.isNone

/-- A new active source is taken: the event, holdover, and a step or a slew (R91, R98). -/
def takeSource (new : Nat) (s : State) : State :=
  let old := s.mer.source
  if new = old then s
  else
    let off := sourceOffset s new
    let hold := new = 0 ∧ !policyFree s
    let big := decide (stepThreshold s < off.natAbs)
    let s := { s with mer := { s.mer with
      source := new, holdover := hold, slewing := new ≠ 0 ∧ off ≠ 0,
      rate := if policyFree s then 0 else s.mer.rate,
      step := if big && stepEnable s && stepPermitted s then some (off, s.now) else s.mer.step } }
    let s := raise 0x1203 0x02 (leBytes 1 old ++ leBytes 1 new ++ zeros 2 ++ seBytes 8 off) s
    let s := if hold then raise 0x2202 0x02 (seBytes 4 s.mer.rate) s else s
    if big && !stepPermitted s then raise 0x2203 0x02 (leBytes 1 new ++ zeros 3 ++ seBytes 8 off) s else s

/-- The ring time master and the active source are chosen again (R93). -/
def reselect (s : State) : State :=
  let s := { s with mer := { s.mer with master := if ringTimed s then chooseMaster s else 0 } }
  let s := if policyFree s then { s with mer := { s.mer with rate := 0, holdover := false } }
    else { s with mer := { s.mer with holdover := decide (s.mer.source = 0) } }
  takeSource (chooseSource s) s

/-! PTP port states (R97) -/

/-- A domain enters a state: EV_PTP_LOCKED into SLAVE, EV_PTP_MASTER_LOST out of it, and the source is chosen again. -/
def ptpEnter (d new : Nat) (s : State) : State :=
  let p := ptpOf s d
  if p.state = new then s
  else
    let live := new = 8 ∨ new = 9
    let s := setPtp d { p with
      state := new, inLock := 0, outLock := 0, offset := if live then p.offset else 0,
      slaveSince := if new = 9 then s.now else p.slaveSince,
      lastSync := if new = 8 then s.now else p.lastSync,
      lastAnnounce := if new = 8 then s.now else p.lastAnnounce } s
    let s := if new = 9 then
        raise 0x1202 0x02 (leBytes 1 d ++ [p.clockClass] ++ leBytes 2 p.stepsRemoved.toNat ++ zeros 4
          ++ leBytes 8 p.grandmaster.toNat) s
      else if p.state = 9 then
        raise 0x2201 0x02 (leBytes 1 d ++ leBytes 1 new ++ zeros 6 ++ leBytes 8 p.grandmaster.toNat) s
      else s
    if new = 9 ∨ p.state = 9 then reselect s else s

/-- Where a domain rests with its present settings: DISABLED, FAULTY without a link, or LISTENING. -/
def ptpRest (s : State) (d : Nat) : Nat :=
  if !ptpEnabled s d then 3
  else if !portLink s (ptpPort s d) || !portEnabled s (ptpPort s d) then 2 else 4

/-- A settings change passes a domain through DISABLED (R97). -/
def ptpRestart (d : Nat) (s : State) : State :=
  let s := ptpEnter d 3 s
  ptpEnter d (ptpRest s d) (setPtp d { ptpOf s d with grandmaster := 0, clockClass := 0, stepsRemoved := 0 } s)

/-! Commands -/

/-- The domain is the active source of this unit. -/
def domainActive (s : State) (d : Nat) : Bool := s.mer.source == d + 1

/-- TIME_SOURCE_SET (0x0C01) (R93). -/
def timeSourceSetSpec : CmdSpec where
  opcode := 0x0C01
  modes := anyMode
  len := (· == 16)
  feature := fun p s => u8 p 1 ≠ 1 || hasFeature s 6
  value := fun p _ =>
    within (u8 p 0) 0 1 && within (u8 p 1) 0 1 && within (u8 p 2) 0 3 && u8 p 3 == 0 && within (u16 p 4) 10 500
      && within (u16 p 6) 100 10000 && within (u32 p 8) 1000 1000000000 && within (u16 p 12) 1 3600 && zeroAt p 14 2
  apply := fun c _ s => done (reselect (cfgSet .timeSource (slice c.params 0 16) s))

/-- PTP_DOMAIN_SET (0x0C02) (R97). -/
def ptpDomainSetSpec : CmdSpec where
  opcode := 0x0C02
  modes := anyMode
  len := (· == 24)
  feature := fun p s => u8 p 0 ≠ 1 || hasFeature s 6
  value := fun p _ =>
    let f := u8 p 1
    let vid := bits (u16 p 4) 11 0
    within (u8 p 0) 0 1 && !bit f 7 && decide (bits f 3 2 ≠ 3) && within (u8 p 2) 0 127 && within (u8 p 3) 0 15
      && !bit (u16 p 4) 12 && (!bit f 6 || within vid 1 4094) && withinI (s8 p 6) (-7) 1 && withinI (s8 p 7) (-3) 3
      && withinI (s8 p 8) (-7) 5 && u8 p 9 == 0 && within (u16 p 10) 10 1000
      && withinI (s32 p 12) (-1000000) 1000000 && within (u32 p 16) 10 1000000 && zeroAt p 20 4
  check := fun p s => refuseIf (printingMode s.hub.mode && domainActive s (u8 p 0)) eBadMode
  apply := fun c _ s =>
    let d := u8 c.params 0
    done (ptpRestart d (cfgSet (.ptp (idx2 d)) (slice c.params 0 24) s))

/-- NET_PORT_SET (0x0C03): the port's link restarts (R96). -/
def netPortSetSpec : CmdSpec where
  opcode := 0x0C03
  modes := anyMode
  len := (· == 40)
  value := fun p _ =>
    within (u8 p 0) 0 1 && within (u8 p 1) 0 3 && zeroAt p 2 2 && !bit (u8 p 4) 0
      && !(bit (u8 p 1) 1 && zeroAt p 4 6) && zeroAt p 10 2 && zeroAt p 36 4
  check := fun p s => refuseIf (printingMode s.hub.mode
    && [0, 1].any fun d => domainActive s d && ptpPort s d == u8 p 0) eBadMode
  apply := fun c _ s =>
    let p := u8 c.params 0
    let s := cfgSet (.netPort (idx2 p)) (slice c.params 0 40) s
    let s := if p = 0 then { s with mer := { s.mer with linkUp0 := false } }
      else { s with mer := { s.mer with linkUp1 := false } }
    done (each [0, 1] (fun d s => if ptpPort s d = p ∧ (ptpOf s d).state ≠ 3 then ptpEnter d 2 s else s) s)

/-- The change of device time TIME_STEP asks for, in ticks. -/
def stepDelta (p : Bytes) : Int := s64 p 0 * tpS + s32 p 8 * tpNs

/-- TIME_STEP (0x0C04) (R91). -/
def timeStepSpec : CmdSpec where
  opcode := 0x0C04
  modes := oneOf [.standby, .service, .safe]
  len := (· == 16)
  value := fun p s => withinI (s32 p 8) (-999999999) 999999999 && zeroAt p 12 4
    && decide (0 ≤ (s.now : Int) + stepDelta p) && decide ((s.now : Int) + stepDelta p < tpS * 2 ^ 48)
  check := fun _ s => refuseIf (!policyFree s) eBadMode
  apply := fun c _ s => pendingDone { s with mer := { s.mer with step := some (stepDelta c.params, s.now) } }

def windowOf (s : State) (g : Nat) : WindowGen := tget {} s.mer.windows g
def setWindow (g : Nat) (v : WindowGen) (s : State) : State :=
  { s with mer := { s.mer with windows := tset s.mer.windows g v } }
def winSlot (g : Nat) : CfgSlot := .window (Fin.ofNat 8 g)

/-- The index of the window of a grid that contains an instant (R99). -/
def gridIndex (period : Nat) (origin t : Time) : Int := ((t : Int) - origin) / period
def gridStart (period : Nat) (origin : Time) (k : Int) : Time := ((origin : Int) + k * period).toNat

/-- The generator runs on the grid of given parameters from an instant on. -/
def windowStart (p : Bytes) (t : Time) (w : WindowGen) : WindowGen :=
  let period := u32 p 4 * tpNs
  let origin := timeAt p 8
  let k := gridIndex period origin t
  { w with enabled := bit (u8 p 1) 0, period := period, origin := origin, index := k, start := t,
           shortened := gridStart period origin k ≠ t }

/-- WINDOW_SET (0x0C05) (R100). -/
def windowSetSpec : CmdSpec where
  opcode := 0x0C05
  modes := anyMode
  len := (· == 20)
  value := fun p s =>
    let pin := cfgGet s .snapPin
    within (u8 p 0) 0 7 && within (u8 p 1) 0 1 && zeroAt p 2 2 && within (u32 p 4) 1000 1000000000 && timeOk p 8
      && !(u8 pin 1 == 2 && u8 pin 2 == u8 p 0 && decide (u32 p 4 ≤ u16 pin 4))
  apply := fun c _ s =>
    let p := slice c.params 0 20
    let g := u8 p 0
    let w := windowOf s g
    if w.enabled then
      let period := u32 p 4 * tpNs
      let o := timeAt p 8
      let k := gridIndex period o (s.now + 2 * tpUs - 1) + 1
      let b := gridStart period o k
      done (cfgHold (winSlot g) p (setWindow g { w with waiting := w.waiting.filter (fun x => x.1 < b) ++ [(b, p)] } s))
    else done (cfgSet (winSlot g) p (setWindow g (windowStart p s.now w) s))

/-- A pending instant within 2 µs of another and not equal to it (R101). -/
def snapTooClose (s : State) (t : Time) : Bool :=
  s.mer.snaps.any fun p => p.t ≠ t ∧ p.t < t + 2 * tpUs ∧ t < p.t + 2 * tpUs

/-- The instant is one of the pending ones. -/
def snapPendingAt (s : State) (t : Time) : Bool := s.mer.snaps.any fun p => p.t = t

/-- Inserts an instant in time order; of two equal ones the lower source code stands (R101). -/
def insertSnap (v : SnapPending) : List SnapPending → List SnapPending
  | [] => [v]
  | a :: r =>
    if v.t = a.t then { a with source := min a.source v.source } :: r
    else if v.t < a.t then v :: a :: r else a :: insertSnap v r

def addSnap (t : Time) (source : Nat) (s : State) : State :=
  { s with mer := { s.mer with snaps := insertSnap { t := t, source := source } s.mer.snaps } }

/-- SNAPSHOT_ARM (0x0C06): a read in the sense of R79 (R101). -/
def snapshotArmSpec : CmdSpec where
  opcode := 0x0C06
  modes := anyMode
  isRead := true
  len := (· == 16)
  value := fun p s =>
    let t := timeAt p 4
    within (u8 p 0) 0 1 && within (u8 p 1) 0 1 && zeroAt p 2 2 && timeOk p 4
      && !(u8 p 0 == 0 && snapTooClose s t)
      && !(u8 p 0 == 1 && (u8 p 1 == 1 || !snapPendingAt s t))
  check := fun p s =>
    let t := timeAt p 4
    if u8 p 0 = 0 then firstOf [
      refuseIf (decide (t < s.now + (if u8 p 1 = 1 then 500 else 2) * tpUs)) eTimePast,
      refuseIf (decide (4 ≤ s.mer.snaps.length) && !snapPendingAt s t) eNoResource]
    else none
  apply := fun c _ s =>
    let t := timeAt c.params 4
    if u8 c.params 0 = 0 then
      let s := addSnap t 0 s
      done (if u8 c.params 1 = 1 then sendRing 31 (.snap t) s else s)
    else
      let gone := s.mer.snaps.filter fun p => p.t = t
      let s := { s with mer := { s.mer with snaps := s.mer.snaps.filter fun p => p.t ≠ t } }
      done (each gone (fun p s => raise 0x1201 0x02 (leBytes 1 1 ++ leBytes 1 p.source ++ zeros 2 ++ timeBytes p.t) s) s)

/-- SNAP_PIN_SET (0x0C07) (R103, R104). -/
def snapPinSetSpec : CmdSpec where
  opcode := 0x0C07
  modes := anyMode
  len := (· == 8)
  value := fun p s =>
    let w := windowOf s (u8 p 2)
    within (u8 p 0) 0 7 && within (u8 p 1) 0 2 && within (u8 p 2) 0 7 && u8 p 3 == 0 && within (u16 p 4) 20 60000
      && within (u16 p 6) 0 1000 && !(u8 p 1 == 2 && (!w.enabled || decide (w.period ≤ u16 p 4 * tpNs)))
  apply := fun c _ s =>
    let s := cfgSet .snapPin (slice c.params 0 8) s
    done (if bit (u8 c.params 0) 0 then s else { s with mer := { s.mer with snapEdge := none } })

/-! Steps of the time unit -/

/-- The clock of each island in kHz (R16); VIEW's is its pixel clock. -/
def islandKHz (s : State) : Nat → Nat
  | 0x01 => 800000 | 0x02 => 1000000 | 0x03 => 1000000 | 0x04 => 800000 | 0x05 => 1000000 | 0x06 => 1000000
  | 0x07 => 156250 | 0x08 => 390625 | 0x09 => 600000 | 0x0A => 700000 | 0x0B => viewClockKHz s | 0x0D => 50000
  | 0x0E => 200000 | 0x0F => 400000 | _ => 800000

/-- ISLAND_TIME_BEACON: the worst residual, and the fault of a residual beyond one period of the island's clock (R18). -/
def islandTimeBeacon (block lane residual : Nat) (s : State) : State :=
  let s := if s.mer.islandWorst.toNat < residual then
      { s with mer := { s.mer with islandWorst := BitVec.ofNat 16 (min residual 0xFFFF),
                                   islandBlock := BitVec.ofNat 8 block } }
    else s
  let bad := decide (1000000000 < residual * islandKHz s block)
  let was := s.mer.badIslands.contains (block, lane)
  if bad && !was then
    internalFault 0x02 (raise 0x3201 0x02 (leBytes 1 block ++ leBytes 1 lane ++ zeros 2 ++ leBytes 4 residual)
      { s with mer := { s.mer with badIslands := (block, lane) :: s.mer.badIslands } })
  else if !bad && was then
    let s := { s with mer := { s.mer with badIslands := s.mer.badIslands.filter (· ≠ (block, lane)) } }
    if s.mer.badIslands.isEmpty && !s.mer.refFault then clearSafe 5 0x02 s else s
  else s

def execIslandTimeBeacon (t : Time) (block : Fin 16) (lane residual : Nat) (s : State) :
    Host.Outcome State Fault Refusal :=
  atTime t (islandTimeBeacon block.val lane residual) s

/-- REFERENCE_CLOCK_FAULT: REFCLK_SYS missing or more than ±1,000 ppm off (R18, 05). -/
def referenceClockFault (missing : Bool) (ppm : Int) (s : State) : State :=
  if missing || decide (1000 < ppm.natAbs) then
    internalFault 0x02 (raise 0x3202 0x02 (leBytes 1 (b2n (!missing)) ++ zeros 3 ++ seBytes 4 ppm)
      { s with mer := { s.mer with refFault := true } })
  else s

def execReferenceClockFault (t : Time) (missing : Bool) (ppm : Int) (s : State) : Host.Outcome State Fault Refusal :=
  atTime t (referenceClockFault missing ppm) s

/-- A device time moved by a step. -/
def moved (t : Time) (delta : Int) : Time := ((t : Int) + delta).toNat

/-- A running generator's window is cut at the step and goes on with the index of its grid; `publish` reports the cut
window (R91). -/
def stepWindow (publish : Nat → Int → Time → Bool → Bool → State → State) (before after : Time) (g : Nat) (s : State) :
    State :=
  let w := windowOf s g
  if !w.enabled then s
  else
    let s := publish g w.index before true w.shortened s
    let k := gridIndex w.period w.origin after
    setWindow g { w with index := k, start := after, shortened := gridStart w.period w.origin k ≠ after } s

/-- PTP_SYNC_RECEIVED: the servo, the offset and the lock of a domain (R97, R98). -/
def ptpSync (d : Nat) (offset : Int) (s : State) : State :=
  let p := ptpOf s d
  if p.state ≠ 8 ∧ p.state ≠ 9 then s
  else
    let good := decide (offset.natAbs < lockThreshold s d)
    let p := { p with syncs := p.syncs + 1, offset := offset, lastSync := s.now,
                      inLock := if good then p.inLock + 1 else 0, outLock := if good then 0 else p.outLock + 1 }
    let s := setPtp d p s
    let s := if domainActive s d then
        adjustRate { s with mer := { s.mer with slewing := s.mer.slewing && !good } }
      else s
    if p.state = 8 ∧ 16 ≤ p.inLock then ptpEnter d 9 s
    else if p.state = 9 ∧ 16 ≤ p.outLock then ptpEnter d 8 s
    else s

def execPtpSyncReceived (t : Time) (d : Fin 2) (offset : Int) (s : State) : Host.Outcome State Fault Refusal :=
  atTime t (ptpSync d.val offset) s

/-- PTP_ANNOUNCE_RECEIVED: the selected master's data set, and the states that follow its selection (R97). -/
def ptpAnnounce (d : Nat) (a : Announce) (s : State) : State :=
  let p := ptpOf s d
  if !a.selected || !(p.state = 4 || p.state = 8 || p.state = 9) then s
  else
    let other := p.grandmaster ≠ a.grandmaster
    let fresh := setPtp d { p with grandmaster := a.grandmaster, clockClass := a.clockClass, accuracy := a.accuracy,
                                   stepsRemoved := a.stepsRemoved, utcOffset := a.utcOffset, lastAnnounce := s.now }
    if p.state = 4 then ptpEnter d 8 (fresh s)
    else if p.state = 9 ∧ other then
      let s := ptpEnter d 8 s
      setPtp d { ptpOf s d with grandmaster := a.grandmaster, clockClass := a.clockClass, accuracy := a.accuracy,
                                stepsRemoved := a.stepsRemoved, utcOffset := a.utcOffset, lastAnnounce := s.now } s
    else fresh s

def execPtpAnnounceReceived (t : Time) (d : Fin 2) (a : Announce) (s : State) : Host.Outcome State Fault Refusal :=
  atTime t (ptpAnnounce d.val a) s

/-- PTP_DELAY_RESP_RECEIVED: a path-delay measurement completes (R95). -/
def ptpDelayResp (d : Nat) (delay : Int) (s : State) : State :=
  let p := ptpOf s d
  if p.state = 3 ∨ p.state = 2 then s else setPtp d { p with pathDelay := delay } s

def execPtpDelayRespReceived (t : Time) (d : Fin 2) (delay : Int) (s : State) : Host.Outcome State Fault Refusal :=
  atTime t (ptpDelayResp d.val delay) s

/-- PTP_PDELAY_REQ_RECEIVED: Pdelay_Resp, and in two-step a follow-up (R95, R96). -/
def ptpPdelayReq (d : Nat) (s : State) : State :=
  let st := (ptpOf s d).state
  if st = 3 ∨ st = 2 ∨ !ptpPeer s d then s
  else
    let p := ptpPort s d
    let s := send (.net p d .pdelayResp) s
    if ptpOneStep s d then s else send (.net p d .pdelayRespFollowUp) s

def execPtpPdelayReqReceived (t : Time) (d : Fin 2) (s : State) : Host.Outcome State Fault Refusal :=
  atTime t (ptpPdelayReq d.val) s

/-- PTP_DELAY_REQ_SEND: Delay_Req toward the selected master, or Pdelay_Req to the peer (R95, R96). -/
def ptpDelayReqSend (d : Nat) (s : State) : State :=
  let st := (ptpOf s d).state
  if ptpPeer s d then (if st = 3 ∨ st = 2 then s else send (.net (ptpPort s d) d .pdelayReq) s)
  else if st = 8 ∨ st = 9 then send (.net (ptpPort s d) d .delayReq) s
  else s

def execPtpDelayReqSend (t : Time) (d : Fin 2) (s : State) : Host.Outcome State Fault Refusal :=
  atTime t (ptpDelayReqSend d.val) s

/-- PTP_SYNC_TIMEOUT: no Sync for 8 sync intervals takes a SLAVE domain to UNCALIBRATED (R97). -/
def ptpSyncTimeout (d : Nat) (s : State) : State :=
  let p := ptpOf s d
  if p.state = 9 ∧ p.lastSync + 8 * logPeriod (s8 (ptpCfg s d) 6) ≤ s.now then ptpEnter d 8 s else s

def execPtpSyncTimeout (t : Time) (d : Fin 2) (s : State) : Host.Outcome State Fault Refusal :=
  atTime t (ptpSyncTimeout d.val) s

/-- PTP_ANNOUNCE_TIMEOUT: no Announce for 3 announce intervals takes a domain to LISTENING (R97). -/
def ptpAnnounceTimeout (d : Nat) (s : State) : State :=
  let p := ptpOf s d
  if (p.state = 8 ∨ p.state = 9) ∧ p.lastAnnounce + 3 * logPeriod (s8 (ptpCfg s d) 7) ≤ s.now then
    ptpEnter d 4 (setPtp d { p with announceTimeouts := satInc 16 p.announceTimeouts } s)
  else s

def execPtpAnnounceTimeout (t : Time) (d : Fin 2) (s : State) : Host.Outcome State Fault Refusal :=
  atTime t (ptpAnnounceTimeout d.val) s

/-- REVERT_HOLDOFF_EXPIRY: the choice of R93 is made again with the hold-off run out. -/
def execRevertHoldoffExpiry (t : Time) (s : State) : Host.Outcome State Fault Refusal := atTime t reselect s

/-- NET_LINK_CHANGE: a port's domains go to FAULTY or LISTENING (R97). -/
def netLinkChange (p : Nat) (up : Bool) (s : State) : State :=
  let up := up && portEnabled s p
  let s := if p = 0 then { s with mer := { s.mer with linkUp0 := up } } else { s with mer := { s.mer with linkUp1 := up } }
  each [0, 1] (fun d s =>
    let st := (ptpOf s d).state
    if ptpPort s d ≠ p ∨ st = 3 then s
    else if !up then ptpEnter d 2 s
    else if st = 2 then ptpEnter d 4 s else s) s

def execNetLinkChange (t : Time) (p : Fin 2) (up : Bool) (s : State) : Host.Outcome State Fault Refusal :=
  atTime t (netLinkChange p.val up) s

/-- NON_PTP_FRAME: dropped and counted in MER_NET_DROP (R96). -/
def nonPtpFrame (p : Nat) (s : State) : State :=
  if p = 0 then { s with mer := { s.mer with drop0 := satInc 16 s.mer.drop0 } }
  else { s with mer := { s.mer with drop1 := satInc 16 s.mer.drop1 } }

def execNonPtpFrame (t : Time) (p : Fin 2) (s : State) : Host.Outcome State Fault Refusal :=
  atTime t (nonPtpFrame p.val) s

/-! Snapshot pins (R101, R103, R104) -/

/-- A SNAP_OUT pulse begins with the width and level now set. -/
def snapOutPulse (s : State) : State :=
  let c := cfgGet s .snapPin
  { s with mer := { s.mer with snapOut := some (s.now + u16 c 4 * tpNs, bit (u8 c 0) 2) } }

/-- An accepted edge arms the instant 2 µs after it, or is ignored and counted. -/
def acceptEdge (e : Time) (s : State) : State :=
  let t := e + 2 * tpUs
  let s := { s with mer := { s.mer with snapEdge := none } }
  if snapTooClose s t || (decide (4 ≤ s.mer.snaps.length) && !snapPendingAt s t) then
    { s with mer := { s.mer with snapInIgnored := satInc 16 s.mer.snapInIgnored } }
  else addSnap t 1 { s with mer := { s.mer with snapIn := satInc 16 s.mer.snapIn } }

def snapFilter (s : State) : Time := u16 (cfgGet s .snapPin) 6 * tpNs

/-- A waiting edge that has held for snap_in_filter is accepted. -/
def settleEdge (s : State) : State :=
  match s.mer.snapEdge with
  | some e => if e + snapFilter s ≤ s.now then acceptEdge e s else s
  | none => s

/-- SNAP_IN_EDGE: an edge of the selected polarity waits for the filter; the opposite edge ends that wait. -/
def snapInEdge (rising : Bool) (s : State) : State :=
  let f := u8 (cfgGet s .snapPin) 0
  if !bit f 0 then s
  else
    let s := settleEdge s
    if rising = !bit f 1 then { s with mer := { s.mer with snapEdge := some s.now } }
    else { s with mer := { s.mer with snapEdge := none } }

def execSnapInEdge (t : Time) (rising : Bool) (s : State) : Host.Outcome State Fault Refusal :=
  atTime t (snapInEdge rising) s

/-- SNAP_IN_ACCEPTED: the edge has held for snap_in_filter. -/
def execSnapInAccepted (t : Time) (s : State) : Host.Outcome State Fault Refusal := atTime t settleEdge s

/-- SNAP_OUT_PULSE_END: the pin returns to the inactive level. -/
def snapOutPulseEnd (s : State) : State :=
  match s.mer.snapOut with
  | some (e, _) => if e ≤ s.now then { s with mer := { s.mer with snapOut := none } } else s
  | none => s

def execSnapOutPulseEnd (t : Time) (s : State) : Host.Outcome State Fault Refusal := atTime t snapOutPulseEnd s

/-- SNAPSHOT_PUBLISHED: the copy ends, SNAP_SEQ is even again, EV_MER_SNAPSHOT is raised; the next latched set, if one
waits, is copied then (R66, R102). -/
def snapshotPublished (s : State) : State :=
  match s.hub.snapQueue with
  | [] => s
  | c :: rest =>
    let s := { s with hub := { s.hub with
      snapSeq := s.hub.snapSeq + 1 + (if rest.isEmpty then 0 else 1),
      snapQueue := rest, snapPages := c.words, snapTime := c.t, snapSource := BitVec.ofNat 2 c.source } }
    raise 0x1201 0x02 ([0] ++ leBytes 1 c.source ++ zeros 2 ++ timeBytes c.t) s

def execSnapshotPublished (t : Time) (s : State) : Host.Outcome State Fault Refusal := atTime t snapshotPublished s

end Sys2Proof.Machine
end

