-- ==== Sys2Proof/Machine/Encoder.lean ====
section
/-! DEFINITION. ENC (06): counting, causes, window speed, index checking, the Regulator, agreement and switchover, and
the pulse output. -/
namespace Sys2Proof.Machine

def encOf (s : State) (x : Nat) : Encoder := if x = 0 then s.enc.e0 else s.enc.e1

def setEnc (x : Nat) (v : Encoder) (s : State) : State :=
  if x = 0 then { s with enc := { s.enc with e0 := v } } else { s with enc := { s.enc with e1 := v } }

def encCfg (s : State) (x : Nat) : Bytes := cfgGet s (.encInput (idx2 x))

/-- An encoder is live: enabled, and for the secondary its feature accepted (R32 bit 10). -/
def encEnabled (s : State) (x : Nat) : Bool := bit (u8 (encCfg s x) 1) 0 && (x == 0 || hasFeature s 10)

def encRatio (s : State) (x : Nat) : Nat := u64 (encCfg s x) 16
def countsPerRev (s : State) (x : Nat) : Int := u32 (encCfg s x) 4
def indexPosition (s : State) (x : Nat) : Int := u32 (encCfg s x) 8
def standstillTimeout (s : State) (x : Nat) : Time := u16 (encCfg s x) 12 * tpMs
def regCfg (s : State) : Bytes := cfgGet s .regulator

/-- HEALTHY: enabled with no cause (R109). -/
def encHealthy (s : State) (x : Nat) : Bool := encEnabled s x && (encOf s x).causes.isEmpty

/-- A cause that makes an encoder unusable as the active one (R109). -/
def unusableCause (c : Nat) : Bool := decide (c < 4)

def hasUnusable (s : State) (x : Nat) : Bool := (encOf s x).causes.any fun c => unusableCause c.1

/-- The active encoder's number. -/
def activeEnc (s : State) : Nat := b2n s.enc.active1

/-- A Regulator is LOCKED or HOLD. -/
def regReady (s : State) (x : Nat) : Bool := (encOf s x).reg == 2 || (encOf s x).reg == 3

/-- "Regulator locked" in R23 and R26 (R118). -/
def regLocked (s : State) : Bool := regReady s (activeEnc s)

/-- "Web forward" (R110). -/
def webForward (s : State) : Bool :=
  let e := encOf s (activeEnc s)
  !e.reverse && !e.standstill

/-- "Web reversed" (R110). -/
def webReversed (s : State) : Bool := (encOf s (activeEnc s)).reverse

/-! Positions: lines in 32.32 fixed point -/

/-- The Regulator's prediction of its encoder's line position at an instant (R117). -/
def predict (e : Encoder) (t : Time) : Int :=
  let dt : Int := (t : Int) - e.time
  e.pos + e.vel * dt / tpS + e.acc * 2 ^ 32 * dt * dt / (2 * tpS * tpS)

/-- Velocity at an instant, in lines/s as 32.32. -/
def velocityAt (e : Encoder) (t : Time) : Int := e.vel + e.acc * 2 ^ 32 * ((t : Int) - e.time) / tpS

/-- The active line position at an instant, the latched offset included (R120). -/
def webPos (s : State) (t : Time) : Int :=
  if s.enc.active1 then predict s.enc.e1 t - s.enc.offset else predict s.enc.e0 t

/-- The active velocity at an instant. -/
def webVel (s : State) (t : Time) : Int := velocityAt (encOf s (activeEnc s)) t

/-- The ratio with the web-scale correction in units of 2^-32 (R117, R269). -/
def ratioNow (s : State) (x : Nat) : Int :=
  let r : Int := encRatio s x
  r + r * (encOf s x).scale / 2 ^ 32

/-- The measured line position of an encoder's count, interpolation corrected (R117). -/
def measured (s : State) (x : Nat) : Int :=
  let e := encOf s x
  e.posBase + (e.count - e.countBase) * ratioNow s x + tget 0 e.interp (e.count % 4).toNat * ratioNow s x / 2 ^ 16

/-- The movement of encoder `x` by which the other one is judged silent begins here (R109). -/
def silentFrom (x : Nat) (s : State) : State :=
  setEnc (1 - x) { encOf s (1 - x) with silentRef := measured s x } s

/-- Rounding toward zero, as R111 rounds a rate. -/
def truncDiv (a b : Int) : Int := Int.tdiv a b

/-! Regulator states -/

/-- The SAFE cause of R121 clears once an encoder is HEALTHY with its Regulator LOCKED or HOLD. -/
def sourceRecheck (s : State) : State :=
  if s.enc.noSource && ((encHealthy s 0 && regReady s 0) || (encHealthy s 1 && regReady s 1)) then
    clearSafe 5 0x03 { s with enc := { s.enc with noSource := false } }
  else s

/-- A Regulator enters a state: EV_ENC_REG_STATE (R118). -/
def regEnter (x new : Nat) (s : State) : State :=
  let e := encOf s x
  if e.reg = new then s
  else
    let s := setEnc x { e with reg := new, inLock := 0, outLock := 0, frozen := false } s
    sourceRecheck (raise 0x1302 0x03 (leBytes 1 x ++ leBytes 1 e.reg ++ leBytes 1 new) s)

/-- ACQUIRING, or HOLD at standstill, after a setting was applied to an enabled encoder (R118). -/
def regRestart (x : Nat) (s : State) : State :=
  if !encEnabled s x then regEnter x 0 s
  else if hasUnusable s x then regEnter x 0 s
  else
    let e := encOf s x
    let s := setEnc x { e with pos := measured s x, time := s.now, vel := if e.standstill then 0 else e.vel,
                               acc := if e.standstill then 0 else e.acc, inLock := 0, outLock := 0, stepLeft := 0 } s
    regEnter x (if e.standstill then 3 else 1) s

/-- One count of the tracking loop (R115, R117, R118). With no residual the estimate is the prediction. The correction
from a residual is free: the manual gives no coefficients (log entry 22). -/
def regCount (x : Nat) (s : State) : State :=
  let e := encOf s x
  if e.reg = 0 ∨ e.frozen then s
  else
    let s := if e.reg = 3 then regEnter x 1 s else s
    let e := encOf s x
    let p := predict e s.now
    let m := measured s x
    let r := m - p
    let v := velocityAt e s.now
    let tested := r - e.stepLeft
    let a := drawInt 2 s
    let b := drawInt 3 a.2
    let c := drawInt 4 b.2
    let d := drawInt 5 c.2
    let left := if e.stepLeft < 0 then clampI e.stepLeft 0 d.1 else clampI 0 e.stepLeft d.1
    let e' := if r = 0 then { e with pos := p, vel := v, time := s.now, residual := 0, stepLeft := 0 }
      else { e with pos := p + a.1, vel := v + b.1, acc := e.acc + c.1, time := s.now, residual := r, stepLeft := left }
    let th : Nat := u16 (regCfg s) 2 * 65536
    let inside := decide (tested.natAbs ≤ th)
    let outside := decide (4 * th < tested.natAbs)
    let e' := { e' with inLock := if inside then e.inLock + 1 else 0, outLock := if outside then e.outLock + 1 else 0 }
    let s := setEnc x e' (if r = 0 then s else d.2)
    if e'.reg = 1 ∧ 64 ≤ e'.inLock then regEnter x 2 s
    else if e'.reg = 2 ∧ 16 ≤ e'.outLock then regEnter x 1 s
    else s

/-! Standstill (R112) -/

def standstillAt (s : State) (x : Nat) : Time := (encOf s x).lastRef + standstillTimeout s x

/-- Standstill is declared at D: the Regulator holds its position (R112, R118). -/
def declareStandstill (x : Nat) (s : State) : State :=
  let e := encOf s x
  let d := standstillAt s x
  let hold := e.reg = 1 ∨ e.reg = 2
  let s := setEnc x { e with standstill := true, declaredHere := true, starting := none,
                             pos := if hold then predict e d else e.pos, time := if hold then d else e.time,
                             vel := if hold then 0 else e.vel, acc := if hold then 0 else e.acc } s
  if hold then regEnter x 3 s else s

/-- Standstill that fell due before an instant, or at it where `atToo`, is declared. -/
def settleStandstill (x : Nat) (atToo : Bool) (s : State) : State :=
  let d := standstillAt s x
  if encEnabled s x && !(encOf s x).standstill && (decide (d < s.now) || (atToo && decide (d = s.now))) then
    declareStandstill x s
  else s

/-! Switchover (R119 to R121) -/

/-- ENC makes the other encoder active; line position runs on by the latched offset (R120). -/
def switchTo (x cause : Nat) (line : Int) (s : State) : State :=
  let s := { s with enc := { s.enc with active1 := x = 1, switch := none, switchCount := s.enc.switchCount + 1 } }
  raise 0x2304 0x03 (leBytes 1 x ++ leBytes 1 cause ++ zeros 2 ++ seBytes 8 line) s

/-- The first whole line position at or after the present one. -/
def nextLine (s : State) : Int := (webPos s s.now + 2 ^ 32 - 1) / 2 ^ 32

/-- The waiting switch takes effect at line boundary `n` (R120): the failing encoder's Regulator enters OFF, and starts
again where no unusable cause holds it. -/
def encoderSwitchover (n : Int) (s : State) : State :=
  match s.enc.switch with
  | none => s
  | some (c, _) =>
    let old := activeEnc s
    let s := switchTo (1 - old) (8 + c) n s
    let s := regEnter old 0 s
    if hasUnusable s old then s else regEnter old 1 s

/-- The other encoder was fit to take over at the last check (R120). -/
def otherFit (s : State) : Bool := if s.enc.active1 then s.enc.ok0 else s.enc.ok1

/-- An encoder gains a fault cause at an instant (R109, R118, R120, R121). -/
def gainCause (x c : Nat) (s : State) : State :=
  let e := encOf s x
  if e.causes.any (fun k => k.1 = c) then
    setEnc x { e with causes := e.causes.map fun k => if k.1 = c then (c, s.now) else k } s
  else
    let s := setEnc x { e with causes := e.causes ++ [(c, s.now)] } s
    let s := if unusableCause c then raise 0x3301 0x03 (leBytes 1 x ++ leBytes 1 (8 + c) ++ zeros 2 ++ timeBytes s.now) s
      else s
    let s := if unusableCause c then encoderSource x s else s
    if x ≠ activeEnc s then (if unusableCause c then regEnter x 0 s else s)
    else if s.enc.switch.isSome then s
    else if bit (u8 (regCfg s) 10) 0 && otherFit s then
      let s := setEnc x { encOf s x with frozen := true } { s with enc := { s.enc with switch := some (c, s.now) } }
      if printingMode s.hub.mode then s else encoderSwitchover (nextLine s) s
    else if unusableCause c then
      let s := regEnter x 0 s
      let s := raise 0x3302 0x03 (leBytes 1 x ++ leBytes 1 (8 + c) ++ leBytes 1 (modeCode s.hub.mode)) s
      let s := { s with enc := { s.enc with noSource := true } }
      if printingMode s.hub.mode then internalFault 0x03 s else s
    else s

/-- A cause clears; with no unusable cause left the Regulator starts again (R109, R118). -/
def loseCause (x c : Nat) (s : State) : State :=
  let e := encOf s x
  let s := setEnc x { e with causes := e.causes.filter fun k => k.1 ≠ c } s
  let s := if !e.causes.isEmpty && (encOf s x).causes.isEmpty then silentFrom x s else s
  let s := if (encOf s x).reg = 0 && encEnabled s x && !hasUnusable s x then
      regEnter x 1 (setEnc x { encOf s x with pos := measured s x, time := s.now, vel := 0, acc := 0 } s)
    else s
  sourceRecheck s

/-- RECEIVER_FAULT: a line held in the fail-safe region for 200 ns (R109). -/
def receiverFault (x : Nat) (s : State) : State := if encEnabled s x then gainCause x 0 s else s

/-- The hold time that a cause's clearing condition needs (R109). -/
def clearHold (c : Nat) : Time := if c = 0 then 10 * tpMs else if c = 1 ∨ c = 2 then 100 * tpMs else 0

/-- ENCODER_CAUSE_CLEAR: the cause's clearing condition has held for its time (R109). SILENT needs a count since. -/
def encoderCauseClear (x c : Nat) (s : State) : State :=
  let e := encOf s x
  match e.causes.find? (fun k => k.1 = c) with
  | some k =>
    if c < 4 ∧ k.2 + clearHold c ≤ s.now ∧ (c ≠ 3 ∨ k.2 < e.lastEdge) then loseCause x c s else s
  | none => s

/-- One agreement check (R119). -/
def agreementCheck (s : State) : State :=
  let both := encHealthy s 0 && encHealthy s 1 && regReady s 0 && regReady s 1
  let diff := predict s.enc.e1 s.now - predict s.enc.e0 s.now
  let s :=
    if both && !s.enc.latched then
      { s with enc := { s.enc with offset := diff, latched := true, agree := true, passing := 0 } }
    else if s.enc.latched && both then
      let tol : Nat := u32 (regCfg s) 4 * 65536
      if (diff - s.enc.offset).natAbs ≤ tol then
        let n := s.enc.passing + 1
        { s with enc := { s.enc with passing := n, agree := s.enc.agree || decide (1024 ≤ n) } }
      else
        let s' := { s with enc := { s.enc with agree := false, passing := 0 } }
        if s.enc.agree then
          raise 0x2303 0x03 (leBytes 1 (activeEnc s) ++ zeros 3 ++ seBytes 8 (diff - s.enc.offset)) s'
        else s'
    else s
  { s with enc := { s.enc with
    ok0 := encHealthy s 0 && regReady s 0 && s.enc.agree, ok1 := encHealthy s 1 && regReady s 1 && s.enc.agree } }

/-- AGREEMENT_MS_CHECK: each whole millisecond while the web is at standstill (R119). -/
def agreementMsCheck (s : State) : State := if (encOf s (activeEnc s)).standstill then agreementCheck s else s

/-! Pulse output (R122, R123) -/

def pulseCfg (s : State) : Bytes := cfgGet s .pulse

/-- The encoder the pulse output divides. -/
def pulseSource (s : State) : Nat :=
  match u8 (pulseCfg s) 1 with
  | 0 => activeEnc s
  | 1 => 0
  | _ => 1

/-- An output pulse or transition leaves at an instant; its device time and active line position are recorded. -/
def pulseStart (t : Time) (s : State) : State :=
  let n := s.enc.pulseCount
  { s with enc := { s.enc with
    pulseCount := n + 1, pulses := { index := n, t := t, pos := webPos s t - s.esc.origin } :: s.enc.pulses } }

/-- A pulse falls due (R123): it starts, waits, or is dropped. -/
def pulseEmit (s : State) : State :=
  let t := s.now + 30 * tpNs
  let width := u16 (pulseCfg s) 6 * tpNs
  match s.enc.pulseEnd with
  | some e =>
    if t < e ∨ 0 < s.enc.pulseWaiting then
      if s.enc.pulseWaiting < 4 then { s with enc := { s.enc with pulseWaiting := s.enc.pulseWaiting + 1 } }
      else raise 0x2305 0x03 (leBytes 1 (pulseSource s) ++ zeros 3 ++ leBytes 4 1)
        { s with enc := { s.enc with pulseOverrun := satInc 32 s.enc.pulseOverrun } }
    else pulseStart t { s with enc := { s.enc with pulseEnd := some (t + width) } }
  | none => pulseStart t { s with enc := { s.enc with pulseEnd := some (t + width) } }

/-- PULSE_WIDTH_END: the pulse ends and a waiting one starts (R123). -/
def pulseWidthEnd (s : State) : State :=
  match s.enc.pulseEnd with
  | some e =>
    if e ≤ s.now then
      if 0 < s.enc.pulseWaiting then
        pulseStart s.now { s with enc := { s.enc with
          pulseWaiting := s.enc.pulseWaiting - 1, pulseEnd := some (s.now + u16 (pulseCfg s) 6 * tpNs) } }
      else { s with enc := { s.enc with pulseEnd := none } }
    else s
  | none => s

def execPulseWidthEnd (t : Time) (s : State) : Host.Outcome State Fault Refusal := atTime t pulseWidthEnd s

/-- One count of the divided stream (R122). -/
def pulseCountIn (reverse : Bool) (s : State) : State :=
  let c := pulseCfg s
  let n : Int := u16 c 2
  let m : Int := u16 c 4
  let quad := bit (u8 c 0) 1
  if !reverse then
    let a := s.enc.pulseAcc + n
    if m ≤ a then
      let s := { s with enc := { s.enc with pulseAcc := a - m } }
      if quad then pulseStart (s.now + 30 * tpNs) { s with enc := { s.enc with quadPhase := s.enc.quadPhase + 1 } }
      else if 0 < s.enc.pulseDebt then { s with enc := { s.enc with pulseDebt := s.enc.pulseDebt - 1 } }
      else pulseEmit s
    else { s with enc := { s.enc with pulseAcc := a } }
  else
    let a := s.enc.pulseAcc - n
    if a < 0 then
      let s := { s with enc := { s.enc with pulseAcc := a + m } }
      if quad then pulseStart (s.now + 30 * tpNs) { s with enc := { s.enc with quadPhase := s.enc.quadPhase - 1 } }
      else { s with enc := { s.enc with pulseDebt := s.enc.pulseDebt + 1 } }
    else { s with enc := { s.enc with pulseAcc := a } }

/-- The pulse output takes a count of encoder `x`, after the reset of R123 where one is due. -/
def pulseTake (x : Nat) (reverse : Bool) (before : Int) (s : State) : State :=
  if bit (u8 (pulseCfg s) 0) 0 && pulseSource s == x then
    let s := if s.enc.resetPending then
        { s with enc := { s.enc with pulseAcc := 0, pulseDebt := 0, pulseReset := before, resetPending := false } }
      else s
    pulseCountIn reverse s
  else s

/-! Counting (R107, R108, R110, R116) -/

/-- The sub-revolution and revolution counts after one count. -/
def wrapSub (c sub rev : Int) : Int × Int :=
  if c ≤ sub then (sub - c, rev + 1) else if sub < 0 then (sub + c, rev - 1) else (sub, rev)

/-- The count rate over the last 1 µs exceeds 50 Mcount/s (R108). -/
def overRate (recent : List Time) : Bool := decide (50 < recent.length)

/-- An invalid transition: counted in ENC_x_QUAD_ERR, and cause QUAD at the fourth within 1 ms (R108, R109). -/
def quadError (x : Nat) (s : State) : State :=
  let e := encOf s x
  let ts := (s.now :: e.quadTimes).filter fun u => s.now < u + tpMs
  let s := setEnc x { e with quadErr := satInc 16 e.quadErr, quadTimes := ts } s
  if 4 ≤ ts.length || (e.causes.any fun k => k.1 = 1) then gainCause x 1 s else s

/-- The other encoder has moved silent_lines lines with no count at `y` (R109). -/
def silentCheck (x y : Nat) (s : State) : State :=
  let lines : Nat := u16 (regCfg s) 8 * 2 ^ 32
  if encHealthy s x && encEnabled s y && decide (lines ≤ (measured s x - (encOf s y).silentRef).natAbs)
      && !((encOf s y).causes.any fun k => k.1 = 3) then gainCause y 3 s
  else s

/-- A valid count of an encoder: position, direction, window, index distance, the Regulator and the pulse output. -/
def countEncoder (x : Nat) (reversePin : Bool) (s : State) : State :=
  let s := settleStandstill x true s
  let e := encOf s x
  let rev := reversePin != bit (u8 (encCfg s x) 1) 1
  let d : Int := if rev then -1 else 1
  let w := wrapSub (countsPerRev s x) (e.subrev + d) e.rev
  let recent := (s.now :: e.recent).filter fun u => s.now < u + tpUs
  let turned := rev != e.reverse
  let e' := { e with
    count := e.count + d, subrev := w.1, rev := w.2, lastEdge := s.now, lastRef := s.now, reverse := rev,
    standstill := false, starting := if e.standstill then some s.now else e.starting,
    reversalHere := e.reversalHere || turned, windowNet := e.windowNet + d,
    sinceIndex := e.sinceIndex + d, recent := recent.take 64, silentRef := measured s (1 - x) }
  let s := setEnc x e' s
  let s := if overRate recent then gainCause x 2 s else s
  let missing := e'.referenced && bit (u8 (encCfg s x) 1) 2 && decide (3 * countsPerRev s x ≤ 2 * e'.sinceIndex.natAbs)
    && !(e'.causes.any fun k => k.1 = 5)
  let s := if missing then gainCause x 5 (raise 0x2302 0x03 (leBytes 1 x ++ zeros 3 ++ seBytes 8 e'.count) s) else s
  let s := regCount x s
  let s := silentCheck x (1 - x) s
  pulseTake x rev e.count s

/-! Index (R114 to R116) -/

/-- An index pulse: reference, correction or mismatch. -/
def encoderIndex (x : Nat) (s : State) : State :=
  let e := encOf s x
  if !encEnabled s x || !bit (u8 (encCfg s x) 1) 2 then s
  else
    let c := countsPerRev s x
    let ip := indexPosition s x
    if !e.referenced then
      setEnc x { e with referenced := true, subrev := ip, rev := 0, sinceIndex := 0 } s
    else
      let d := (e.subrev - ip + c / 2) % c - c / 2
      let tol : Nat := u8 (encCfg s x) 3
      let sat := clampI (-32768) 32767 d
      if d.natAbs ≤ tol then
        let absRev := e.rev * c + e.subrev - d
        let e' := { e with count := e.count - d, subrev := ip, rev := (absRev - ip) / c, sinceIndex := 0, indexDev := sat,
                           corrections := if d = 0 then e.corrections else e.corrections + 1,
                           stepLeft := e.stepLeft - d * ratioNow s x }
        let s := setEnc x e' s
        let o := encOf s (1 - x)
        let s := setEnc (1 - x) { o with silentRef := o.silentRef - d * ratioNow s x } s
        let s := if d = 0 then s else
          raise 0x1301 0x03 (leBytes 1 x ++ [0] ++ seBytes 2 d ++ seBytes 4 e'.rev ++ seBytes 8 e'.count) s
        loseCause x 5 (loseCause x 4 s)
      else
        let s := setEnc x { e with sinceIndex := 0, indexDev := sat } s
        let s := raise 0x2301 0x03 (leBytes 1 x ++ [0] ++ seBytes 2 sat ++ seBytes 4 e.subrev ++ seBytes 8 e.count) s
        gainCause x 4 s

/-- INDEX_UNVERIFIED is in force for an encoder: unreferenced, or an index cause held (R114, R116). -/
def indexUnverified (s : State) (x : Nat) : Bool :=
  !(encOf s x).referenced || (encOf s x).causes.any fun k => k.1 = 4 ∨ k.1 = 5

/-! Window speed (R111 to R113) -/

/-- One encoder's window ends (R111). -/
def publishEncoder (x : Nat) (k : Int) (start stop : Time) (stepped short : Bool) (s : State) : State :=
  let e := encOf s x
  let whole := !stepped && !short
  let startingHere := match e.starting with
    | some c => !(decide (c < start) && whole)
    | none => false
  let status := if e.standstill || e.declaredHere then 1 else if startingHere then 2 else if e.reversalHere then 3 else 0
  let n := if status = 1 ∨ status = 2 then 0 else e.windowNet
  let len : Int := max 1 (stop - start)
  setEnc x { e with
    winStatus := status, winShort := short, winStepped := stepped, winCount := n, winIndex := k,
    winRate := truncDiv (n * encRatio s x * tpS) (2 ^ 32 * len),
    starting := if startingHere then e.starting else none,
    windowNet := 0, reversalHere := false, declaredHere := false } s

/-- WINDOW_SPEED_PUBLISH: a generator's window ends for the encoders that name it. -/
def publishWindow (g : Nat) (k : Int) (stop : Time) (stepped short : Bool) (s : State) : State :=
  let start := (windowOf s g).start
  each ((upTo 2).filter fun x => encEnabled s x && u8 (encCfg s x) 14 == g)
    (fun x s => publishEncoder x k start stop stepped short (settleStandstill x false s)) s

/-- WINDOW_BOUNDARY: the window in progress ends; a waiting change takes effect at its boundary (R99, R100). -/
def windowBoundary (g : Nat) (s : State) : State :=
  let w := windowOf s g
  if !w.enabled then s
  else
    let pin := cfgGet s .snapPin
    let pulse := when_ (u8 pin 1 == 2 && u8 pin 2 == g) snapOutPulse
    let next := gridStart w.period w.origin (w.index + 1)
    match w.waiting with
    | (b, p) :: rest =>
      if b ≤ s.now then
        let s := publishWindow g w.index s.now false (w.shortened || decide (b ≠ next)) s
        let s' := setWindow g { windowStart p s.now w with waiting := rest } s
        let s' := { s' with cfg := cfgPut s' (winSlot g) p, held := if rest.isEmpty then terase s'.held (winSlot g) else s'.held }
        pulse (epochAfter s s')
      else if next ≤ s.now then
        let s := publishWindow g w.index s.now false w.shortened s
        pulse (setWindow g { w with index := w.index + 1, start := s.now, shortened := false } s)
      else s
    | [] =>
      if next ≤ s.now then
        let s := publishWindow g w.index s.now false w.shortened s
        pulse (setWindow g { w with index := w.index + 1, start := s.now, shortened := false } s)
      else s

def execWindowBoundary (t : Time) (g : Fin 8) (s : State) : Host.Outcome State Fault Refusal :=
  atTime t (windowBoundary g.val) s

/-- STEP_APPLY: device time moves by the decided step once R91 permits it. Pending snapshots are cancelled, and each
running generator's window is cut (R91). -/
def stepApply (s : State) : State :=
  match s.mer.step with
  | none => s
  | some (delta, decided) =>
    if !stepPermitted s || decide (s.now < ceilTo tpUs (decided + tpUs)) then s
    else
      let before := s.now
      let after := moved before delta
      let cancelled := s.mer.snaps
      let s := { s with mer := { s.mer with step := none, snaps := [], rateTime := moved s.mer.rateTime delta } }
      let s := each cancelled (fun p => raise 0x1201 0x02 ([1] ++ leBytes 1 p.source ++ zeros 2 ++ timeBytes p.t)) s
      let s := each (upTo 8) (stepWindow publishWindow before after) s
      let s := { s with now := after }
      raise 0x1204 0x02 (timeBytes before) s

def execStepApply (t : Time) (s : State) : Host.Outcome State Fault Refusal := atTime t stepApply s

/-! Commands -/

/-- The named encoder's feature (R32 bit 10). -/
def encFeature (p : Bytes) (s : State) : Bool := u8 p 0 ≠ 1 || hasFeature s 10

/-- Disabling the active encoder needs the other HEALTHY with its Regulator LOCKED or HOLD. -/
def disableOk (p : Bytes) (s : State) : Bool :=
  let x := u8 p 0
  bit (u8 p 1) 0 || x != activeEnc s || !encEnabled s x || (encHealthy s (1 - x) && regReady s (1 - x))

/-- ENC_INPUT_SET (0x0601) (R114, R118). -/
def encInputSetSpec : CmdSpec where
  opcode := 0x0601
  modes := setupModes
  len := (· == 32)
  feature := encFeature
  value := fun p s =>
    within (u8 p 0) 0 1 && within (u8 p 1) 0 15 && within (u8 p 2) 2 15 && within (u32 p 4) 16 0x7FFFFFFF
      && decide (u32 p 8 < u32 p 4) && within (u16 p 12) 1 10000 && within (u8 p 14) 0 7 && u8 p 15 == 0
      && within (u64 p 16) 0x1000 0x1000000000 && zeroAt p 24 8 && disableOk p s
  apply := fun c _ s =>
    let p := slice c.params 0 32
    let x := u8 p 0
    let was := encEnabled s x
    let s := cfgSet (.encInput (idx2 x)) p s
    let on := encEnabled s x
    let e := encOf s x
    let s := setEnc x { e with
      referenced := false, posBase := 0, countBase := 0, causes := if on then e.causes else [],
      lastRef := if on && !was then s.now else e.lastRef, standstill := if on && !was then false else e.standstill,
      starting := if on && !was then none else e.starting } s
    let s := if on && !was then { s with enc := { s.enc with latched := false, agree := false, passing := 0 } } else s
    let s := if was && !on && decide (x = activeEnc s) then switchTo (1 - x) 0xFF (nextLine s) s else s
    done (regRestart x (silentFrom x (silentFrom (1 - x) s)))

/-- REGULATOR_SET (0x0602) (R118). -/
def regulatorSetSpec : CmdSpec where
  opcode := 0x0602
  modes := setupModes
  len := (· == 16)
  value := fun p _ =>
    within (u16 p 0) 50 5000 && within (u16 p 2) 16 0xFFFF && within (u32 p 4) 0x100 0x100000 && within (u16 p 8) 1 1024
      && within (u8 p 10) 0 1 && zeroAt p 11 5
  apply := fun c _ s =>
    let s := cfgSet .regulator (slice c.params 0 16) s
    done (each ((upTo 2).filter fun x => encEnabled s x) regRestart s)

/-- ENC_ACTIVE_SET (0x0603) (R119). -/
def encActiveSetSpec : CmdSpec where
  opcode := 0x0603
  modes := setupModes
  len := (· == 4)
  feature := encFeature
  value := fun p _ => within (u8 p 0) 0 1 && zeroAt p 1 3
  check := fun p s =>
    if encHealthy s (u8 p 0) && regReady s (u8 p 0) then none else some (eBadMode, leBytes 4 1)
  apply := fun c _ s => done { s with enc := { s.enc with
    active1 := u8 c.params 0 = 1, latched := false, agree := false, passing := 0, switch := none } }

/-- PULSE_SET (0x0604) (R122, R123). -/
def pulseSetSpec : CmdSpec where
  opcode := 0x0604
  modes := setupModes
  len := (· == 12)
  feature := fun p s => u8 p 1 ≠ 2 || hasFeature s 10
  value := fun p _ =>
    within (u8 p 0) 0 7 && within (u8 p 1) 0 2 && within (u16 p 2) 1 65535 && within (u16 p 4) 1 65535
      && decide (u16 p 2 ≤ u16 p 4) && within (u16 p 6) 20 10000 && zeroAt p 8 4
  apply := fun c _ s =>
    let was := bit (u8 (pulseCfg s) 0) 0
    let on := bit (u8 c.params 0) 0
    let s := cfgSet .pulse (slice c.params 0 12) s
    done { s with enc := { s.enc with
      resetPending := true, pulseCount := if on && !was then 0 else s.enc.pulseCount } }

end Sys2Proof.Machine
end

