-- ==== Sys2Proof/Machine/Memory.lean ====
section
/-! DEFINITION. Page bytes as a list of cells in one canonical form: offsets strictly rising, and no cell that holds 0,
which is what an unlisted byte reads as (R126; log entry 31). -/
namespace Sys2Proof.Machine

/-- The canonical form of a byte store. -/
abbrev Memory.wf (m : List Host.Cell) : Prop := m.Pairwise (fun a b => a.1 < b.1) ∧ ∀ c ∈ m, c.2 ≠ 0

/-- The byte at an offset. -/
def memRead : List Host.Cell → Nat → Byte
  | [], _ => 0
  | (b, v) :: r, a => if b = a then v else memRead r a

/-- The store with one byte written. -/
def memWrite (a : Nat) (v : Byte) : List Host.Cell → List Host.Cell
  | [] => if v = 0 then [] else [(a, v)]
  | (b, w) :: r =>
    if a < b then (if v = 0 then (b, w) :: r else (a, v) :: (b, w) :: r)
    else if a = b then (if v = 0 then r else (a, v) :: r)
    else (b, w) :: memWrite a v r

/-- The store that a list of written bytes leaves, the last write of an offset standing. -/
def memOf (cells : List (Nat × Byte)) : List Host.Cell := cells.foldl (fun m c => memWrite c.1 c.2 m) []

/-- The bytes from an offset. -/
def memSlice (m : List Host.Cell) (off len : Nat) : Bytes := (upTo len).map fun i => memRead m (off + i)

end Sys2Proof.Machine
end

