-- ==== Sys2Proof/Machine/PageStore.lean ====
section
/-! DEFINITION. MEM (07): page objects, the print queue's commands, DRAM regions, scrub, refresh, delay sets and
ports. What a print does with the queue stands in PrintFlow.lean. -/
namespace Sys2Proof.Machine

/-! Page objects -/

def pageRows (p : Page) : Nat := u16 p.params 4
def pagePitch (p : Page) : Nat := u16 p.params 6
def pageLanes (p : Page) : Nat := u8 p.params 21
def pageFirstColumn (p : Page) : Nat := u16 p.params 24
def pageLanePitch (p : Page) : Nat := u16 p.params 26
def pageWidth (p : Page) : Nat := u16 p.params 28
def pageAutoRelease (p : Page) : Bool := bit (u8 p.params 20) 0
def pageCrcCheck (p : Page) : Bool := bit (u8 p.params 20) 1

/-- Bytes of a page line (R126). -/
def lineBytes : Nat := 13056

/-- Bytes of a page of so many rows and lines each. -/
def sizeOf (rows pitch : Nat) : Nat := rows * pitch * lineBytes

/-- 1 MiB units a page takes. -/
def unitsOf (rows pitch : Nat) : Nat := (sizeOf rows pitch + 2 ^ 20 - 1) / 2 ^ 20

def pageUnits (p : Page) : Nat := unitsOf (pageRows p) (pagePitch p)

/-- The ticket ID of row `r`, lane `j` (R127, R215). -/
def ticketId (p : Page) (r j : Nat) : BitVec 64 :=
  BitVec.ofNat 64 (u24 p.params 32 * 2 ^ 40 + (u64 p.params 36 + r * pageLanes p + j))

/-- Page columns of ticket lane `j` (R127). -/
def ticketColumns (p : Page) (j : Nat) : Nat × Nat :=
  let a := pageFirstColumn p + j * pageLanePitch p
  (a, a + pageWidth p - 1)

def findPage (s : State) (id : Nat) : Option Page := s.mem.pages.find? fun p => p.id = id

/-- State of an ID; EMPTY where the device does not hold it. -/
def pageState (s : State) (id : Nat) : PageState :=
  match findPage s id with
  | some p => p.state
  | none => .empty

def stateCode : PageState → Nat
  | .empty => 0 | .loading => 1 | .resident => 2 | .printing => 3 | .consumed => 4 | .invalid => 5

/-- Changes one page object. -/
def modPage (id : Nat) (f : Page → Page) (s : State) : State :=
  { s with mem := { s.mem with pages := s.mem.pages.map fun p => if p.id = id then f p else p } }

/-- A page's stripes and calibration patches are removed (INS_STRIPE_ADD, CAL_PATCH_ADD). -/
def dropMarks (id : Nat) (s : State) : State :=
  { s with ins := { s.ins with stripes := s.ins.stripes.filter fun k => k.page ≠ id },
           cal := { s.cal with patches := s.cal.patches.filter fun k => k.page ≠ id } }

/-- The object goes to EMPTY. -/
def erasePage (id : Nat) (s : State) : State :=
  { s with mem := { s.mem with pages := s.mem.pages.filter fun p => p.id ≠ id } }

/-- The object is discarded. -/
def freePage (id : Nat) (s : State) : State :=
  dropMarks id (erasePage id s)

/-- The object becomes INVALID; it holds no storage any more (R128, R129). -/
def invalidate (id reason : Nat) (s : State) : State :=
  dropMarks id (modPage id (fun p => { p with state := .invalid, reason := reason, data := [] }) s)

/-- Pages of a plan. -/
def planPages (l : List PlanItem) : List Nat := l.filterMap fun
  | .page id => some id
  | .gap _ _ => none

/-- Pages committed to start whose first row has not begun; they exist only in PRINT and DRAIN (R131). -/
def plannedPages (s : State) : List Nat :=
  if s.hub.mode = .print ∨ s.hub.mode = .drain then
    let placed := (s.mem.pitches.reverse.filter fun q => !q.begun).filterMap fun q => match q.kind with
      | .row id _ => some id
      | _ => none
    ((placed ++ s.mem.placing.toList ++ planPages s.mem.plan).filter fun id => s.mem.current ≠ some id).eraseDups
  else []

/-- Queued, a page committed to start included (R131). -/
def pageQueued (s : State) (id : Nat) : Bool := s.mem.queue.contains id || (plannedPages s).contains id

def pageCurrent (s : State) (id : Nat) : Bool := decide (s.mem.current = some id)

/-! DRAM (R135) -/

/-- Capacity in GiB that a DRAM description names. -/
def descGib (d : Bytes) : Nat :=
  let density := [8, 16, 24, 32].getD (u8 d 2) 0
  (if u8 d 1 = 0 then 8 else 4) * density * u8 d 3 / 2

/-- A description whose fields are in range and whose capacity is 16 to 128 GiB. -/
def descOk (d : Bytes) : Bool :=
  within (u8 d 0) 0 2 && within (u8 d 1) 0 1 && within (u8 d 2) 0 3 && within (u8 d 3) 1 2 && within (u8 d 4) 0 1
    && zeroAt d 5 3

def capacityOk (d : Bytes) : Bool := within (descGib d) 16 128

/-- The description in force since the last boot; all zero when there is none (R141). -/
def dramGib (s : State) : Nat := descGib (cfgGet s .dram)

def insRegionGib (s : State) : Nat := u8 (cfgGet s .memConfig) 0

/-- Units of the page store: what the MSS, LDG and INS regions leave; none where DRAM failed initialisation (02,
SAFE_CLEAR). -/
def storeUnits (s : State) : Nat :=
  if bit s.hub.bootFaults.toNat 1 then 0 else dramGib s * 1024 - 256 - 512 - insRegionGib s * 1024

/-- The device holds the storage of a LOADING, RESIDENT or PRINTING object (R128). -/
def holdsUnits (p : Page) : Bool := p.state = .loading || p.state = .resident || p.state = .printing

def usedUnits (s : State) : Nat := sumNat ((s.mem.pages.filter holdsUnits).map pageUnits)

def freeUnits (s : State) : Nat := storeUnits s - usedUnits s

/-- Peak bandwidth limit on the sum of port rates, in 10 MB/s (R140). -/
def rateLimit (s : State) : Nat := [2304, 2688, 3072].getD (u8 (cfgGet s .dram) 0) 0

def portRate (s : State) (p : Nat) : Nat := u16 (cfgGet s (.memPort (Fin.ofNat 7 p))) 3

def loadingCount (s : State) : Nat := (s.mem.pages.filter fun p => p.state = .loading).length

/-! Page commands -/

def queueModes : Mode → Bool := exceptSafe

/-- PAGE_LOAD (0x0201) (R127, R128, R130). -/
def pageLoadSpec : CmdSpec where
  opcode := 0x0201
  modes := queueModes
  len := (· == 48)
  value := fun p s =>
    let rows := u16 p 4
    let lanes := u8 p 21
    within (u32 p 0) 1 0xFFFFFFFE && within rows 1 4096 && within (u16 p 6) 256 65535 && u64 p 8 % 64 == 0
      && within (u32 p 16) 1 65536 && within (u8 p 20) 0 3 && within lanes 1 64 && zeroAt p 22 2
      && within (u16 p 24) 0 52223 && within (u16 p 26) 1 52224 && within (u16 p 28) 1 (u16 p 26) && zeroAt p 30 2
      && u8 p 35 == 0 && zeroAt p 41 3 && (bit (u8 p 20) 1 || u32 p 44 == 0)
      && decide (pageState s (u32 p 0) = .empty)
      && decide (u16 p 24 + (lanes - 1) * u16 p 26 + u16 p 28 ≤ 52224)
      && decide (u64 p 36 + rows * lanes - 1 ≤ 2 ^ 40 - 1)
  check := fun p s => refuseIf (decide (1024 ≤ s.mem.pages.length) || decide (8 ≤ loadingCount s)
    || decide (freeUnits s < unitsOf (u16 p 4) (u16 p 6)) || decide (s.hub.cfgCount = 0xFFFFFFFF)) eNoResource
  apply := fun c _ s =>
    let p := slice c.params 0 48
    pendingDone { s with mem := { s.mem with pages := s.mem.pages ++ [
      { id := u32 p 0, params := p, seq := c.seq, applied := s.now }] } }

/-- The first object still LOADING: MEM loads in the order of the commands (R130). -/
def firstLoading (s : State) : Option Page := s.mem.pages.find? fun p => p.state = .loading

/-- The object whose load is in progress: the others that are LOADING wait for their turn. -/
def inLoad (s : State) (p : Page) : Bool := (firstLoading s).map (·.id) == some p.id

/-- Bytes of an object that have arrived: while its own load is in progress a free value up to its size, since the
spec gives a load no rate. -/
def arrived (p : Page) (s : State) : Nat × State :=
  if inLoad s p then
    let d := drawNat 11 s
    (d.1 % (sizeOf (pageRows p) (pagePitch p) + 1), d.2)
  else (p.loaded, s)

/-- EV_PAGE_LOADED with the state reached and the reason (0 where RESIDENT). `f` ends the object's load. The load began
when the object was the first LOADING one; the status is E_INTERNAL where a fault of the device ended it. -/
def pageLoaded (p : Page) (reached reason : Nat) (f : State → State) (s : State) : State :=
  let turn := inLoad s p
  let time := if turn then (s.now - max p.applied s.mem.loadEnded) / tpUs else 0
  let s := f s
  raise 0x1401 0x04 (leBytes 4 p.id ++ leBytes 2 (if reason = 4 then eInternal else eOk) ++ leBytes 1 reached
    ++ leBytes 1 reason ++ leBytes 4 (min 0xFFFFFFFF time) ++ leBytes 2 p.seq.toNat)
    { s with mem := { s.mem with loadEnded := if turn then s.now else s.mem.loadEnded } }

/-- A load ends INVALID, with what had arrived. -/
def loadFails (p : Page) (reason : Nat) (s : State) : State :=
  let a := if reason = 2 then (0, s) else arrived p s
  pageLoaded p 5 reason (fun s => modPage p.id (fun g => { g with loaded := a.1 }) (invalidate p.id reason s)) a.2

/-- PAGE_DISCARD (0x0202) (R128). -/
def pageDiscardSpec : CmdSpec where
  opcode := 0x0202
  modes := queueModes
  len := (· == 4)
  value := fun p s =>
    let id := u32 p 0
    !pageQueued s id && !pageCurrent s id && decide (pageState s id ≠ .printing) && decide (pageState s id ≠ .empty)
  apply := fun c _ s =>
    let id := u32 c.params 0
    match findPage s id with
    | some p =>
      done (if p.state = .loading then pageLoaded p 0 6 (freePage id) s else freePage id s)
    | none => done s

/-- PAGE_QUERY's reply: the bytes loaded are those that have arrived. -/
def pageQueryReply (s : State) (id loaded : Nat) : Bytes :=
  match findPage s id with
  | none => leBytes 4 id ++ zeros 32
  | some p =>
    leBytes 4 id ++ leBytes 1 (stateCode p.state) ++ leBytes 1 p.reason
      ++ leBytes 1 (b2n (pageAutoRelease p) + 2 * b2n (pageQueued s id) + 4 * b2n (pageCurrent s id)) ++ [0]
      ++ leBytes 2 (pageRows p) ++ leBytes 2 (pagePitch p) ++ leBytes 2 p.nextRow ++ leBytes 2 (min p.blanks 0xFFFF)
      ++ leBytes 8 loaded ++ timeBytes p.residentAt

/-- PAGE_QUERY (0x0203). -/
def pageQuerySpec : CmdSpec where
  opcode := 0x0203
  modes := anyMode
  isRead := true
  len := (· == 4)
  apply := fun c _ s =>
    let id := u32 c.params 0
    let a := match findPage s id with
      | some p => arrived p s
      | none => (0, s)
    withResult (pageQueryReply s id a.1) a.2

/-- The page IDs of a QUEUE_APPEND. -/
def appendIds (p : Bytes) : List Nat := (upTo (u16 p 0)).map fun i => u32 p (4 + 4 * i)

/-- No element occurs twice. -/
def distinct : List Nat → Bool
  | [] => true
  | a :: r => !r.contains a && distinct r

/-- A checkpoint falls due (R231). -/
def wantCheckpoint (s : State) : State := { s with ldg := { s.ldg with wanted := true } }

/-- QUEUE_APPEND (0x0204) (R131): all IDs or none. -/
def queueAppendSpec : CmdSpec where
  opcode := 0x0204
  modes := queueModes
  len := fun n => decide (4 ≤ n)
  lenMatch := fun p => p.length == 4 + 4 * u16 p 0
  value := fun p s =>
    within (u16 p 0) 1 64 && zeroAt p 2 2 && distinct (appendIds p) && (appendIds p).all fun id =>
      (decide (pageState s id = .loading) || decide (pageState s id = .resident)) && !pageQueued s id && !pageCurrent s id
  check := fun p s => refuseIf (decide (256 < s.mem.queue.length + u16 p 0)) eNoResource
  apply := fun c _ s =>
    done (wantCheckpoint { s with mem := { s.mem with queue := s.mem.queue ++ appendIds c.params } })

/-- QUEUE_COMMIT (0x0205) (R131, R132). -/
def queueCommitSpec : CmdSpec where
  opcode := 0x0205
  modes := oneOf [.standby]
  len := (· == 4)
  value := fun p s => within (u8 p 0) 0 1 && zeroAt p 1 3 && !s.mem.queue.isEmpty
  apply := fun c _ s =>
    done (wantCheckpoint { s with mem := { s.mem with committed := true, endAction := u8 c.params 0 } })

/-- QUEUE_CLEAR (0x0206) (R131). -/
def queueClearSpec : CmdSpec where
  opcode := 0x0206
  modes := setupModes
  len := (· == 0)
  apply := fun _ _ s => done { s with mem := { s.mem with committed := false, queue := [] } }

/-! DRAM commands -/

/-- MEM_PORT_SET (0x0207) (R139, R140). -/
def memPortSetSpec : CmdSpec where
  opcode := 0x0207
  modes := setupModes
  len := (· == 8)
  value := fun p s =>
    let others := (upTo 7).filter (· ≠ u8 p 0)
    within (u8 p 0) 1 6 && within (u8 p 1) 0 2 && zeroAt p 2 2 && within (u16 p 4) 10 1000
      && within (u16 p 6) 4 4096 && decide (sumNat (others.map (portRate s)) + u16 p 4 ≤ rateLimit s)
  apply := fun c _ s => done (cfgSet (.memPort (Fin.ofNat 7 (u8 c.params 0))) (slice c.params 1 7 ++ [0]) s)

/-- The units in use cannot be kept inside the page store that a new INS region leaves. -/
def regionBlocked (gib : Nat) (s : State) : Bool :=
  decide (dramGib s * 1024 < 256 + 512 + gib * 1024 + usedUnits s)

/-- A camera pipeline or the view output is in RUN. -/
def imagingRun (s : State) : Bool :=
  ((upTo 4).any fun c => decide ((tget {} s.ins.cameras c).state ≠ 0)) || decide (s.view.state ≠ 0)

/-- MEM_CONFIG_SET (0x0208) (R135). Which units lie in the range that would move is the device's own allocation: the
command is refused where the objects held no longer fit, and otherwise the choice is free (log entry 32). -/
def memConfigSetSpec : CmdSpec where
  opcode := 0x0208
  modes := setupModes
  len := (· == 8)
  value := fun p s =>
    within (u8 p 0) 1 16 && u8 p 1 == 0 && within (u16 p 2) 1 168 && zeroAt p 4 4
      && decide (100 * u8 p 0 + 475 ≤ 100 * dramGib s)
  check := fun p s =>
    let moves := u8 p 0 ≠ insRegionGib s
    firstOf [refuseIf (moves && imagingRun s) eBusy, refuseIf (moves && regionBlocked (u8 p 0) s) eNoResource]
  apply := fun c _ s =>
    let grows := decide (insRegionGib s < u8 c.params 0)
    let r := if grows && decide (0 < usedUnits s) then drawBool 6 s else (false, s)
    if r.1 then ((eNoResource, []), r.2) else done (cfgSet .memConfig (slice c.params 0 8) r.2)

/-- MEM_DRAM_DESCRIBE (0x0209) (R135). -/
def memDramDescribeSpec : CmdSpec where
  opcode := 0x0209
  modes := oneOf [.service]
  len := (· == 8)
  value := fun p _ => descOk p && capacityOk p
  apply := fun c _ s => pendingDone { s with mem := { s.mem with describing := some (slice c.params 0 8) } }

/-- An axis is moving. -/
def axisMoving (s : State) : Bool := (upTo 2).any fun a => decide ((tget {} s.axs.axes a).state = 2)
  || (upTo 2).any fun a => decide ((tget {} s.axs.axes a).state = 3)

/-- A calibration run is active: PASS1, PASS2 or EVALUATING (R266). -/
def calActive (s : State) : Bool := s.cal.runs.any fun r => 2 ≤ r.state ∧ r.state ≤ 4

/-- MEM_DELAY_MEASURE (0x020A) (R138). -/
def memDelayMeasureSpec : CmdSpec where
  opcode := 0x020A
  modes := oneOf [.service, .calibrate]
  len := (· == 0)
  check := fun _ s => refuseIf (calActive s || axisMoving s) eBadMode
  apply := fun _ _ s => pendingDone { s with mem := { s.mem with measuring := some s.thm.dieBand } }

/-! Loads -/

/-- An uncorrectable error is counted and reported (R136). -/
def uncorrectable (port : Nat) (p : Position) (addr page : Nat) (s : State) : State :=
  raise 0x3401 0x04 (leBytes 1 port ++ leBytes 1 p.channel ++ leBytes 1 p.sub ++ leBytes 1 p.rank ++ leBytes 8 addr
    ++ leBytes 4 page) { s with mem := { s.mem with uncorrectable := satInc 32 s.mem.uncorrectable } }

/-- Bytes served on a port. -/
def countPort (port n : Nat) (s : State) : State :=
  { s with mem := { s.mem with portBytes := tmod 0 s.mem.portBytes port (· + n) } }

/-- PAGE_LOAD_END: RESIDENT where every check holds, else INVALID (R128, R130). -/
def pageLoadEnd (id : Nat) (o : LoadEnd) (s : State) : State :=
  match firstLoading s with
  | none => s
  | some p =>
    if p.id ≠ id then s
    else
      match o with
      | .dmaError => loadFails p 1 s
      | .listError => loadFails p 2 s
      | .uncorrectable => loadFails p 4 s
      | .loaded total cells =>
        let size := sizeOf (pageRows p) (pagePitch p)
        let data := memOf (cells.filter fun c => c.1 < size)
        if total ≠ size then loadFails p 2 s
        else
          let bad := pageCrcCheck p && crc32c (memSlice data 0 size) != u32 p.params 44
          let s := countPort 1 size s
          if bad then pageLoaded p 5 3 (fun s => modPage id (fun g => { g with loaded := size }) (invalidate id 3 s)) s
          else
            pageLoaded p 2 0 (modPage id (fun p => { p with
              state := .resident, loaded := total, residentAt := s.now, data := data })) s

def execPageLoadEnd (t : Time) (id : BitVec 32) (o : LoadEnd) (s : State) : Host.Outcome State Fault Refusal :=
  atTime t (pageLoadEnd id.toNat o) s

/-- Link down, Bus Master cleared, D3hot or FLR: every load in progress fails with reason 5 (R40, R128). -/
def failLoads (s : State) : State :=
  each (s.mem.pages.filter fun p => p.state = .loading) (fun p s => loadFails p 5 s) s

/-! Scrub, refresh, delay sets (R136 to R138) -/

def memBytes (s : State) : Nat := dramGib s * 2 ^ 30

/-- The patrol scrub moves to the next burst. -/
def scrubNext (addr : Nat) (s : State) : State :=
  let n := addr + 64
  if memBytes s ≤ n then { s with mem := { s.mem with scrubAddr := 0, scrubPasses := s.mem.scrubPasses + 1 } }
  else { s with mem := { s.mem with scrubAddr := n } }

/-- A day in ticks. -/
def tpDay : Nat := 86400 * tpS

/-- One corrected error at a device position (R137). -/
def correctedAt (p : Position) (s : State) : State :=
  let l := (s.now :: tget [] s.mem.corrections p).filter fun t => s.now < t + tpDay
  let s := { s with mem := { s.mem with corrected := satInc 32 s.mem.corrected, corrections := tset s.mem.corrections p l } }
  if 64 ≤ l.length ∧ !s.mem.failing.contains p then
    raise 0x2403 0x04 (leBytes 1 p.channel ++ leBytes 1 p.sub ++ leBytes 1 p.rank ++ leBytes 1 p.device
      ++ leBytes 4 l.length) { s with mem := { s.mem with failing := p :: s.mem.failing } }
  else s

/-- PATROL_SCRUB_READ: corrected data is written back; an uncorrectable error acts on the object that holds it. -/
def patrolScrubRead (addr : Nat) (f : ScrubFind) (s : State) : State :=
  let s := scrubNext addr s
  match f with
  | .clean => s
  | .corrected p => correctedAt p s
  | .uncorrectable p id burst =>
    let st := pageState s id
    let s := uncorrectable 7 p addr id s
    match findPage s id with
    | none => s
    | some g =>
      if st = .loading then loadFails g 4 s
      else if st = .resident then invalidate id 4 s
      else if st = .printing then modPage id (fun g => { g with bad := burst :: g.bad }) s
      else s

def execPatrolScrubRead (t : Time) (addr : Nat) (f : ScrubFind) (s : State) : Host.Outcome State Fault Refusal :=
  atTime t (patrolScrubRead addr f) s

/-- EV_MEM_REFRESH. -/
def refreshTo (two : Bool) (rank : Nat) (s : State) : State :=
  raise 0x1405 0x04 (leBytes 1 (b2n two) ++ leBytes 1 rank)
    { s with mem := { s.mem with refresh2 := two, refreshRank := rank } }

/-- DRAM_TEMP_READ: mode register 4 of every rank (R138). -/
def dramTempRead (temps : List DramTemp) (s : State) : State :=
  let warm := temps.find? fun d => d.above85
  let s := match warm with
    | some d =>
      let s := { s with mem := { s.mem with coolSince := none } }
      if s.mem.refresh2 then s else refreshTo true d.rank s
    | none => { s with mem := { s.mem with coolSince := some (s.mem.coolSince.getD s.now) } }
  let s := each (temps.filter fun d => d.aboveMax) (fun d =>
    raise 0x3402 0x04 (leBytes 1 d.channel ++ leBytes 1 d.rank ++ leBytes 1 d.reading)) s
  { s with mem := { s.mem with hot := temps.any fun d => d.aboveMax } }

def execDramTempRead (t : Time) (temps : List DramTemp) (s : State) : Host.Outcome State Fault Refusal :=
  atTime t (dramTempRead temps) s

/-- REFRESH_RELAX: 1× once every rank has reported 85 °C or below for 1 s. -/
def refreshRelax (s : State) : State :=
  match s.mem.coolSince with
  | some c => if s.mem.refresh2 ∧ c + tpS ≤ s.now then refreshTo false s.mem.refreshRank s else s
  | none => s

def execRefreshRelax (t : Time) (s : State) : Host.Outcome State Fault Refusal := atTime t refreshRelax s

def bandMeasured (s : State) (b : Nat) : Bool := bit s.nvm.delaySets.toNat b

/-- The measured band nearest to a band, the lower one on a tie. -/
def nearestBand (s : State) (b : Nat) : Option Nat :=
  ((upTo 6).flatMap fun d => [b - d, b + d]).find? fun x => x < 6 && bandMeasured s x

/-- ALL_BANK_REFRESH: a sub-channel switches to the present die band's set, or to the nearest measured one. -/
def allBankRefresh (channel sub : Nat) (s : State) : State :=
  let b := s.thm.dieBand
  match nearestBand s b with
  | none => s
  | some u =>
    if tget b s.mem.bandUsed (channel, sub) = u ∧ (s.mem.bandUsed.any fun x => x.1 = (channel, sub)) then
      { s with mem := { s.mem with stale := decide (u ≠ b) } }
    else
      let was := s.mem.stale
      let s := { s with mem := { s.mem with bandUsed := tset s.mem.bandUsed (channel, sub) u, stale := decide (u ≠ b) } }
      if u ≠ b ∧ !was then raise 0x2404 0x04 (leBytes 1 b ++ leBytes 1 u) s else s

def execAllBankRefresh (t : Time) (channel sub : Fin 2) (s : State) : Host.Outcome State Fault Refusal :=
  atTime t (allBankRefresh channel.val sub.val) s

/-- A measured band's delay set goes to the journal (R138, R337). -/
def recordDelaySet (b : Nat) (s : State) : State :=
  { s with mss := { s.mss with journal := s.mss.journal ++ [.delaySets (s.nvm.delaySets ||| BitVec.ofNat 6 (2 ^ b))] } }

/-- DELAY_MEASURE_DONE (R138). -/
def delayMeasureDone (ok : Bool) (eye : Nat) (s : State) : State :=
  match s.mem.measuring with
  | none => s
  | some b =>
    let s := { s with mem := { s.mem with measuring := none } }
    let s := if ok then recordDelaySet b { s with nvm := { s.nvm with delaySets := s.nvm.delaySets ||| BitVec.ofNat 6 (2 ^ b) } }
      else s
    raise 0x1403 0x04 (leBytes 1 b ++ leBytes 1 (b2n (!ok)) ++ zeros 2 ++ leBytes 4 eye) s

def execDelayMeasureDone (t : Time) (ok : Bool) (eye : Nat) (s : State) : Host.Outcome State Fault Refusal :=
  atTime t (delayMeasureDone ok eye) s

/-- DRAM_DESCRIBE_DONE: the description is held for the next reset; a changed one discards the delay sets (R135,
R138). -/
def dramDescribeDone (ok0 ok1 : Bool) (s : State) : State :=
  match s.mem.describing with
  | none => s
  | some d =>
    let g := onBothDevices ok0 ok1 2 { s with mem := { s.mem with describing := none } }
    let s := g.2
    let s := if g.1 then { s with nvm := { s.nvm with dram := d, delaySets := if s.nvm.dram = d then s.nvm.delaySets else 0 } }
      else s
    raise 0x1404 0x04 d s

def execDramDescribeDone (t : Time) (ok0 ok1 : Bool) (s : State) : Host.Outcome State Fault Refusal :=
  atTime t (dramDescribeDone ok0 ok1) s

end Sys2Proof.Machine
end

