-- ==== Sys2Proof/Machine/Schedule.lean ====
section
/-! DEFINITION. Line position, the fixed schedule and bar geometry as every print-path block reads them (08, 09), and
the changes that wait for a bar line (R153). -/
namespace Sys2Proof.Machine

/-! Line position (R161) -/

/-- The active line position q at an instant, in 32.32 lines. -/
def webLine (s : State) (t : Time) : Int := webPos s t - s.esc.origin

/-- The slot in progress: the highest whose boundary q has reached. -/
def presentSlot (s : State) : Int := webLine s s.now / 2 ^ 32

/-! The fixed schedule (R166, R170) -/

/-- The earliest of a module's instants. -/
def minTime : List Time → Time
  | [] => 0
  | a :: r => r.foldl min a

def maxTime (l : List Time) : Time := l.foldl max 0

/-- The earliest and the last row instant of a slot. -/
def earliest (f : FixedSlot) : Time := minTime (f.modules.map fun m => minTime m.rows)
def latest (f : FixedSlot) : Time := maxTime (f.modules.map fun m => maxTime m.rows)

def findSlot (s : State) (n : Int) : Option FixedSlot := s.esc.slots.find? fun f => f.n = n

def slotInstants (f : FixedSlot) (m : Nat) : Option ModuleInstants := f.modules.find? fun x => x.module_ = m

/-- The first fixed slot whose earliest row instant lies at or after an instant. -/
def firstFixedFrom (s : State) (t : Time) : Option Int :=
  match s.esc.slots.find? fun f => decide (t ≤ earliest f) with
  | some f => some f.n
  | none => none

/-- The first slot whose earliest row instant lies at or after an instant; a slot that is not fixed lies later than
every fixed one. -/
def firstSlotFrom (s : State) (t : Time) : Int := (firstFixedFrom s t).getD (s.esc.handled + 1)

/-- Every slot up to this one has fired, or counts as fired because it was missed or suppressed (R166, R174). -/
def firedTo (s : State) : Int :=
  match s.esc.slots.find? fun f => decide (s.esc.fired < f.n) with
  | some f => max s.esc.fired (f.n - 1)
  | none => max s.esc.fired s.esc.handled

/-! Geometry (R143 to R147) -/

def grtBar (s : State) : Bytes := cfgGet s .grtBar
def moduleCount (s : State) : Nat := u8 (grtBar s) 0
def lpi600 (s : State) : Bool := bit (u8 (grtBar s) 1) 0
def autoMap (s : State) : Bool := bit (u8 (grtBar s) 1) 1

/-- Lines per inch. -/
def lpi (s : State) : Nat := if lpi600 s then 600 else 1200

/-- Page shift h (R143). -/
def pageShift (s : State) : Int := s16 (grtBar s) 2

def modCfg (s : State) (m : Nat) : Bytes := cfgGet s (.grtModule (Fin.ofNat 24 m))
def interleaved (s : State) (m : Nat) : Bool := bit (u8 (modCfg s m) 1) 0
def spareSetCfg (s : State) (m : Nat) : Bool := bit (u8 (modCfg s m) 1) 1
def originCfg (s : State) (m : Nat) : Int := u16 (modCfg s m) 2
/-- Fetch skew f_m. -/
def skew (s : State) (m : Nat) : Nat := u16 (modCfg s m) 4
/-- Row delay d_{m,r}. -/
def rowDelay (s : State) (m r : Nat) : Nat := u16 (modCfg s m) (8 + 2 * r)
/-- Upstream distance u_{m,r} (R145). -/
def upstream (s : State) (m r : Nat) : Int := (skew s m : Int) - rowDelay s m r

def presentModules (s : State) : List Nat := upTo (moduleCount s)

/-- K, the largest fetch skew of the present modules (R146). -/
def maxSkew (s : State) : Nat := ((presentModules s).map (skew s)).foldl max 0

/-- Least upstream distance of a module's rows: the row that fires a line last. -/
def leastUpstream (s : State) (m : Nat) : Int :=
  let l := (upTo 4).map (upstream s m)
  l.foldl min (l.headD 0)

/-! The line-bound state and its pending changes (R153, R164, R165) -/

/-- What the print path looks up by bar line. -/
structure MapView where
  host : Tab Nat Nat
  detected : Tab Nat Nat
  trimClass : Tab Nat Nat
  trim : Tab (Nat × Nat) Nat
  column : Tab Nat Int
  exchanged : List Nat
  band : Tab Nat Nat
  timing : Tab (Nat × Nat) Int

/-- One change applied. -/
def applyChange (v : MapView) : LineChange → MapView
  | .host es clear => { v with
      host := es.foldl (fun h e => tset h e.1 e.2) v.host, detected := if clear then [] else v.detected }
  | .detect n st => { v with detected := tset v.detected n st }
  | .trim cs ts => { v with
      trimClass := cs.foldl (fun h e => tset h e.1 e.2) v.trimClass, trim := ts.foldl (fun h e => tset h e.1 e.2) v.trim }
  | .column m e => { v with column := tset v.column m e }
  | .timing m c => { v with
      timing := (upTo 4).foldl (fun h r => tset h (m, r) (c.getD r 0)) v.timing }
  | .spareSet m => { v with
      exchanged := if v.exchanged.contains m then v.exchanged.filter (· ≠ m) else m :: v.exchanged }
  | .band m b => { v with band := tset v.band m b }

/-- The state before any pending change. -/
def mapBase (s : State) : MapView :=
  { host := s.grt.host, detected := s.grt.detected, trimClass := s.grt.trimClass, trim := s.grt.trim,
    column := s.grt.column, exchanged := s.grt.exchanged, band := s.esc.band, timing := s.esc.timing }

/-- The state that a bar line uses: every change with B at or before it (R153). -/
def mapAt (s : State) (l : Int) : MapView :=
  (s.grt.changes.filter fun c => match c.line with | some b => decide (b ≤ l) | none => false).foldl
    (fun v c => applyChange v c.change) (mapBase s)

/-- The state in force: every change whose line has been assembled. -/
def mapNow (s : State) : MapView :=
  (s.grt.changes.filter fun c => c.inForce).foldl (fun v c => applyChange v c.change) (mapBase s)

/-- Puts a change into the base state for good. -/
def settleChange (c : LineChange) (s : State) : State :=
  let v := applyChange (mapBase s) c
  { s with
    grt := { s.grt with host := v.host, detected := v.detected, trimClass := v.trimClass, trim := v.trim,
                        column := v.column, exchanged := v.exchanged }
    esc := { s.esc with band := v.band, timing := v.timing } }

/-- Effective origin o_m (R143). -/
def originIn (s : State) (v : MapView) (m : Nat) : Int := originCfg s m + tget 0 v.column m

/-- Overlap w_j (R146). -/
def overlapIn (s : State) (v : MapView) (j : Nat) : Int := originIn s v j + 2176 - originIn s v (j + 1)

/-- GRT_INVALID for a state of the column corrections (R146). -/
def invalidIn (s : State) (v : MapView) : Nat :=
  let n := moduleCount s
  let badJoin := (upTo (n - 1)).find? fun j => !withinI (overlapIn s v j) 0 96
  let last := decide (52223 < originIn s v (n - 1) + 2175)
  let noRow := !(presentModules s).any fun m => (upTo 4).any fun r => decide (upstream s m r = 0)
  b2n badJoin.isSome + 2 * b2n last + 4 * b2n noRow + 256 * badJoin.getD 0

/-- The bar geometry is valid (R146). -/
def geometryValid (s : State) : Bool := invalidIn s (mapNow s) % 8 == 0

/-- Printable bar columns (R146). -/
def printable (s : State) (v : MapView) : Int × Int := (originIn s v 0, originIn s v (moduleCount s - 1) + 2175)

/-- The bar's line-rate limit for a nozzle rate (R147). -/
def barLimit (s : State) (rate : Nat) : Nat :=
  ((presentModules s).map fun m => if interleaved s m then 2 * rate else rate).foldl min 400000

/-! The head profile (ESC_HEAD_PROFILE_SET) -/

def profile (s : State) : Bytes := cfgGet s .profile
def profileRate (s : State) : Nat := u32 (profile s) 0
def bandCount (s : State) : Nat := u8 (profile s) 4
def idleWave (s : State) : Nat := u8 (profile s) 5 % 16
def safeWave (s : State) : Nat := u8 (profile s) 5 / 16
def profileSoft (s : State) : Int := u16 (profile s) 6
def profileHard (s : State) : Int := u8 (profile s) 8
def profileHyst (s : State) : Int := u8 (profile s) 9
def profilePauseEvery (s : State) : Nat := u8 (profile s) 10
def bandEdge (s : State) (b : Nat) : Int := s16 (profile s) (32 + 8 * b)
def bandWave (s : State) (b : Nat) : Nat := u8 (profile s) (34 + 8 * b)
/-- Lead ℓ_b in ps. -/
def bandLead (s : State) (b : Nat) : Nat := u32 (profile s) (36 + 8 * b)
def profileEdges (s : State) : List Int := (upTo (bandCount s)).map (bandEdge s)

/-! Where a change takes effect (R153) -/

/-- Bar lines of the rows of a page from row `first` on, the first of them at `at_`, and the line behind them. -/
def rowLines (at_ : Int) (p : Page) (first : Nat) : List Int × Int :=
  ((upTo (pageRows p - first)).map fun i => at_ + (i * pagePitch p : Nat), at_ + ((pageRows p - first) * pagePitch p : Nat))

/-- What the plan adds behind a bar line: first lines of rows, and the line behind them. -/
def planLines (s : State) (a : List Int × Int) : PlanItem → List Int × Int
  | .gap _ p => (a.1, a.2 + (p : Int))
  | .page id => match findPage s id with
    | some p => let r := rowLines a.2 p p.nextRow; (a.1 ++ r.1, r.2)
    | none => a

/-- The rows not yet placed, from the page that is being placed on. -/
def unplacedRows (s : State) : List Int × Int :=
  let cur := match s.mem.placing.bind (findPage s) with
    | some p => rowLines s.mem.next p s.mem.placeRow
    | none => ([], s.mem.next)
  s.mem.plan.foldl (planLines s) cur

/-- Ticket rows that are decided and not begun: first bar line of each, in order: those placed, those of the page that
is being placed, then those of pages committed to start. -/
def decidedRows (s : State) : List Int :=
  ((s.mem.pitches.reverse.filter fun q => !q.begun).filterMap fun q => match q.kind with
    | .row _ _ => some q.first
    | _ => none) ++ (unplacedRows s).1

/-- S: the bar line at which the next page would start (R134). -/
def nextStart (s : State) : Int := (unplacedRows s).2

/-- B for a change made while slot `since` was in progress: the first decided row that begins at least 128 slots
later. -/
def changeLine (s : State) (since : Int) : Option Int :=
  (decidedRows s).find? fun f => decide (since + 128 ≤ f - maxSkew s)

/-- Fixes B of every change that waits for a decided row. -/
def fixChangeLines (s : State) : State :=
  { s with grt := { s.grt with changes := s.grt.changes.map fun c =>
      match c.line with
      | some _ => c
      | none => { c with line := changeLine s c.since } } }

/-- A change of the nozzle map proper, which makes a generation (R152, R153). -/
def isMapChange : LineChange → Bool
  | .band _ _ => false
  | .timing _ _ => false
  | _ => true

/-- The band, waveform and lead of a module on a bar line (R163, R164). -/
def bandAtLine (s : State) (m : Nat) (l : Int) : Nat := tget 0 (mapAt s l).band m

/-- EV_ESC_BAND (R164). -/
def bandEvent (m old new : Nat) (line : Int) (s : State) : State :=
  raise 0x1602 0x06 (leBytes 1 m ++ leBytes 1 old ++ leBytes 1 new ++ leBytes 1 (bandWave s new)
    ++ leBytes 4 (bandLead s new / 1000) ++ seBytes 8 line) s

/-- The serial that IDENT last reported on a module; 0 before any. -/
def identSerial (s : State) (m : Nat) : BitVec 32 :=
  match (tget {} s.hlk.modules m).ident with
  | some i => i.serial
  | none => 0

/-- Modules whose serials a correction is stored with (R270). -/
def serialModules (type target : Nat) : List Nat :=
  if type = 7 then [target, target + 1] else if type = 6 ∨ type = 8 then [target] else []

/-- EV_CAL_APPLIED and the records of an application (R269, R270). -/
def calApplied (run : Nat) (line shown : Int) (s : State) : State :=
  match s.cal.runs.find? fun r => r.id = run with
  | none => s
  | some r =>
    let s := finalRun { r with state := 6 } s
    let ser (i : Nat) : Int := ((identSerial s (r.target + i)).toNat : Int)
    let rec_ : JournalRec := .correction r.type r.target (r.temp :: ser 0 :: ser 1 :: r.value)
    let serials := (serialModules r.type r.target).foldl (fun t m => tset t m (identSerial s m)) s.cal.serials
    let s := { s with mss := { s.mss with journal := s.mss.journal ++ [rec_] } }
    let s := { s with cal := { s.cal with
      serials := serials
      due := s.cal.due.filter fun d => d ≠ (r.type, r.target)
      temps := tset s.cal.temps (r.type, r.target) r.temp
      last := tset s.cal.last (r.type, r.target) (s.now, line)
      lastLine := line, lastTime := s.now, applied := satInc 16 s.cal.applied } }
    raise 0x1C02 0x0C (leBytes 2 run ++ leBytes 1 r.type ++ leBytes 1 r.target ++ zeros 4 ++ seBytes 8 shown) s

/-- Reports that come with a change taking effect at a bar line, or at once with the slot in progress. -/
def announceChange (c : PendingChange) (line : Int) (s : State) : State :=
  let s := match c.change with
    | .band m b => bandEvent m (tget 0 s.esc.band m) b line s
    | _ => s
  if c.run = 0 then s else calApplied c.run (c.line.getD 0) line s

/-- A map generation is in force: EV_GRT_MAP_APPLIED. -/
def newGeneration (source : Nat) (line : Int) (s : State) : State :=
  let s := { s with grt := { s.grt with gen := s.grt.gen + 1 } }
  raise 0x1501 0x05 (leBytes 4 s.grt.gen.toNat ++ leBytes 1 source ++ zeros 3 ++ seBytes 8 line) s

/-- A change takes effect at once, outside PRINT and DRAIN. -/
def changeNow (c : PendingChange) (s : State) : State :=
  let n := presentSlot s
  let s := settleChange c.change (announceChange c n s)
  if isMapChange c.change then newGeneration c.source n s else s

/-- A second band change for a module before B replaces the pending band and keeps B (R164). -/
def replaceBand (m b : Nat) (l : List PendingChange) : List PendingChange :=
  l.map fun c => match c.change with
    | .band m' _ => if m' = m ∧ !c.inForce then { c with change := .band m b } else c
    | _ => c

def bandPending (s : State) (m : Nat) : Option PendingChange :=
  s.grt.changes.find? fun c => match c.change with
    | .band m' _ => m' = m && !c.inForce
    | _ => false

/-- Makes a change: at once in ARMED, STANDBY, SERVICE, CALIBRATE and SAFE, from bar line B in PRINT and DRAIN
(R153). -/
def makeChange (change : LineChange) (source run : Nat) (s : State) : State :=
  let c : PendingChange := { change := change, since := presentSlot s, source := source, run := run }
  if s.hub.mode = .print ∨ s.hub.mode = .drain then
    fixChangeLines { s with grt := { s.grt with changes := s.grt.changes ++ [c] } }
  else changeNow c s

/-- Changes whose bar line has been assembled come into force, those of one line as one generation (R153, R160). -/
def enforceChanges (line : Int) (s : State) : State :=
  let due := s.grt.changes.filter fun c => !c.inForce && (match c.line with | some b => decide (b ≤ line) | none => false)
  let maps := due.filter fun c => isMapChange c.change
  let lines := (maps.map fun c => c.line.getD 0).eraseDups
  let mark (c : PendingChange) : PendingChange := if due.contains c then { c with inForce := true } else c
  let s := { s with grt := { s.grt with changes := s.grt.changes.map mark } }
  let s := each due (fun c => announceChange c (c.line.getD 0)) s
  each lines (fun b s => newGeneration ((maps.find? fun c => c.line = some b).map (·.source) |>.getD 0) b s) s

/-- Changes whose bar line has been passed by every row settle into the base state. -/
def settleChanges (s : State) : State :=
  let n := presentSlot s
  let past := s.grt.changes.filter fun c => c.inForce && (match c.line with | some b => decide (b < n) | none => false)
  let s := each past (fun c => settleChange c.change) s
  { s with grt := { s.grt with changes := s.grt.changes.filter fun c => !past.contains c } }

/-- Every change that still waits applies: when DRAIN completes, or on entry to SAFE (R153, R269). -/
def releaseChanges (s : State) : State :=
  let l := s.grt.changes
  let maps := l.filter fun c => !c.inForce && isMapChange c.change
  let n := presentSlot s
  let s := each l (fun c s => settleChange c.change (if c.inForce then s else announceChange { c with line := none } n s)) s
  let s := { s with grt := { s.grt with changes := [] } }
  match maps with
  | [] => s
  | c :: _ => newGeneration c.source n s

/-- Rows A to D of a module with their upstream distances. -/
def rowList : List Nat := [0, 1, 2, 3]

end Sys2Proof.Machine
end

