-- ==== Sys2Proof/Machine/Geometry.lean ====
section
/-! DEFINITION. GRT (08): stitching, firing modes, nozzle-out compensation, trimming, line assembly, the Graticule's
row delays, the module payload, and GRT's commands. -/
namespace Sys2Proof.Machine

/-! Page data on the bar lines (R126, R148) -/

/-- The pitch that a bar line lies in. -/
def pitchAt (s : State) (l : Int) : Option Pitch :=
  s.mem.pitches.find? fun p => decide (p.first ≤ l) && decide (l < p.first + p.len)

/-- The page and page line that a bar line shows; none on a line of no page or of a blank pitch. -/
def pageLineAt (s : State) (l : Int) : Option (Page × Nat) :=
  match pitchAt s l with
  | some p =>
    match p.kind with
    | .row id r => (findPage s id).map fun g => (g, r * p.len + (l - p.first).toNat)
    | _ => none
  | none => none

/-- The dot code of a page column in page data. -/
def dotCode (data : List Host.Cell) (line col : Nat) : Nat :=
  (memRead data (line * lineBytes + col / 4)).toNat / 4 ^ (col % 4) % 4

/-- What the columns of one bar line hold: a module fetches its own segment, and a blank segment holds no dot. -/
structure LineSource where
  page : Option (Page × Nat)
  shift : Int

/-- The code at bar column b (R143). -/
def sourceCode (q : LineSource) (b : Int) : Nat :=
  let p := b + q.shift
  match q.page with
  | some (g, l) => if 0 ≤ p ∧ p < 52224 then dotCode g.data l p.toNat else 0
  | none => 0

/-- First byte of a module's segment in its page line, and its length (R148). -/
def segmentBytes (s : State) (v : MapView) (m : Nat) : Nat × Nat :=
  let a := max 0 (originIn s v m + pageShift s)
  let b := min 52223 (originIn s v m + pageShift s + 2175)
  if b < a then (0, 0) else (a.toNat / 4, b.toNat / 4 - a.toNat / 4 + 1)

/-! Nozzles and modes (R144, R147, R152) -/

/-- Row of the nominal nozzle for a module column on a bar line (R147). -/
def nominalRow (s : State) (v : MapView) (m c : Nat) (l : Int) : Nat :=
  let second := if interleaved s m then decide (l % 2 ≠ 0) else spareSetCfg s m != v.exchanged.contains m
  c % 2 + 2 * b2n second

/-- The partner's row (R144). -/
def partnerRow (r : Nat) : Nat := (r + 2) % 4

/-- Bar nozzle number of the nozzle of row r at a module column (R144). -/
def nozzleOf (m r c : Nat) : Nat := m * 4352 + r * 1088 + c / 2

/-- The worse of two states: 0 OK, 1 OUT, 2 WEAK (R152). -/
def worse (a b : Nat) : Nat := if a = 1 ∨ b = 1 then 1 else if a = 2 ∨ b = 2 then 2 else 0

/-- Effective state of a nozzle. -/
def nozzleState (v : MapView) (n : Nat) : Nat := worse (tget 0 v.host n) (tget 0 v.detected n)

/-! Stitching (R151) -/

/-- Reverses the 6 low bits. -/
def d6 (k : Nat) : Nat :=
  let k := k % 64
  sumNat ((upTo 6).map fun i => if bit k i then 2 ^ (5 - i) else 0)

/-- keep_left of R151. -/
def keepLeft (i w : Nat) (l : Int) : Bool :=
  decide (2 * w * d6 ((l + 7 * i) % 64).toNat < 64 * (2 * (w - i) - 1))

def stitchCfg (s : State) (j : Nat) : Bytes := cfgGet s (.grtStitch (Fin.ofNat 23 j))

/-- The left module of join j prints overlap column i on bar line l. -/
def leftPrints (s : State) (v : MapView) (j i : Nat) (l : Int) : Bool :=
  let c := stitchCfg s j
  let w := (overlapIn s v j).toNat
  match u8 c 1 with
  | 0 => decide (i < min (u8 c 2) w)
  | 1 => keepLeft i w l
  | _ => let q := (l % 64).toNat; bit (u8 c (8 + 8 * i + q / 8)) (q % 8)

/-- The modules that cover a bar column, lowest first. -/
def covering (s : State) (v : MapView) (b : Int) : List Nat :=
  (presentModules s).filter fun m => decide (originIn s v m ≤ b) && decide (b ≤ originIn s v m + 2175)

/-- Module column of a bar column. -/
def moduleColumn (s : State) (v : MapView) (m : Nat) (b : Int) : Nat := (b - originIn s v m).toNat

/-! Patches (R272) -/

/-- Bar columns that a patch covers. -/
def patchColumns (s : State) (v : MapView) (p : LaidPatch) : Int × Int :=
  let o := originIn s v p.target
  let left := if p.target = 0 then 0 else max 0 (overlapIn s v (p.target - 1))
  let right := if p.target + 1 < moduleCount s then max 0 (overlapIn s v p.target) else 0
  match p.type with
  | 6 => (o + left, o + 2175 - right)
  | 7 => (originIn s v (p.target + 1) - 64, o + 2175 + 64)
  | 3 => (u16 (cfgGet s (.camera (Fin.ofNat 4 p.target))) 6, u16 (cfgGet s (.camera (Fin.ofNat 4 p.target))) 6 + 13055)
  | _ => (o, o + 2175)

/-- Lines of a patch by type (R272). -/
def patchLines (type : Nat) : Nat := if type = 8 then 864 else if type = 3 then 768 else 96

/-- The patch that a bar column lies in on a bar line. -/
def patchAt (s : State) (v : MapView) (b l : Int) : Option LaidPatch :=
  s.cal.laid.find? fun p =>
    let c := patchColumns s v p
    decide (p.from_ ≤ l) && decide (l < p.to_) && decide (c.1 ≤ b) && decide (b ≤ c.2)

/-! Compensation (R154, R155) -/

/-- How a dot comes to be printed. -/
inductive DotStep where
  | nominal | handOver | partner | patch
  deriving DecidableEq, Repr

/-- The module that R151 selects for a bar column, and in an overlap the other one. -/
def selected (s : State) (v : MapView) (b l : Int) : Option (Nat × Option Nat) :=
  match patchAt s v b l, covering s v b with
  | _, [] => none
  | _, [m] => some (m, none)
  | p, j :: k :: _ =>
    let i := (b - originIn s v k).toNat
    let left := match p with
      | some q => if q.type = 7 then decide (l - q.line < 48) else leftPrints s v j i l
      | none => leftPrints s v j i l
    if left then some (j, some k) else some (k, some j)

/-- The row of the nominal nozzle in a patch: a FIRE_TIMING segment names its row, and DENSITY under SPARE the set that
is not printing (R271, R272). -/
def patchRow (s : State) (v : MapView) (p : LaidPatch) (m c : Nat) (l : Int) : Option Nat :=
  let spare := s.cal.runs.any fun r => r.type = p.type && r.target = p.target && r.spare && decide (2 ≤ r.state)
    && decide (r.state ≤ 3)
  match p.type with
  | 6 => let r := (l - p.line).toNat / 24; if r % 2 = c % 2 then some r else none
  | 8 => some (if spare then partnerRow (nominalRow s v m c l) else nominalRow s v m c l)
  | _ => some (nominalRow s v m c l)

/-- The nozzle that prints a bar column after steps 1 and 2 of R154: module, row and step. -/
def printer (s : State) (v : MapView) (b l : Int) : Option (Nat × Nat × DotStep) :=
  match selected s v b l with
  | none => none
  | some (m, other) =>
    let c := moduleColumn s v m b
    match patchAt s v b l with
    | some p => (patchRow s v p m c l).bind fun r =>
        if nozzleState v (nozzleOf m r c) = 1 then none else some (m, r, .patch)
    | none =>
      let r := nominalRow s v m c l
      if nozzleState v (nozzleOf m r c) ≠ 1 then some (m, r, .nominal)
      else
        let hand := other.bind fun k =>
          let ck := moduleColumn s v k b
          let rk := nominalRow s v k ck l
          if nozzleState v (nozzleOf k rk ck) = 0 then some (k, rk, DotStep.handOver) else none
        match hand with
        | some x => some x
        | none =>
          if nozzleState v (nozzleOf m (partnerRow r) c) = 0 ∧ (!interleaved s m ∨ s.grt.partner) then
            some (m, partnerRow r, .partner)
          else none

/-- A column takes a spread dot of module m: m prints it, with an OK nozzle (R155). -/
def acceptsSpread (s : State) (v : MapView) (m : Nat) (b l : Int) : Bool :=
  match printer s v b l with
  | some (k, r, step) =>
    decide (k = m) && decide (step ≠ .patch) && decide (nozzleState v (nozzleOf m r (moduleColumn s v m b)) = 0)
  | none => false

/-- Where the dot of an unresolved column goes (R155). -/
def spreadTarget (s : State) (v : MapView) (m : Nat) (b l : Int) : Option Int :=
  let first := if l % 2 = 0 then b - 1 else b + 1
  let second := if l % 2 = 0 then b + 1 else b - 1
  if acceptsSpread s v m first l then some first
  else if acceptsSpread s v m second l then some second else none

/-- A column's dot must spread: its selected module is m and no nozzle resolves it. -/
def unresolved (s : State) (v : MapView) (m : Nat) (b l : Int) : Bool :=
  (printer s v b l).isNone && (patchAt s v b l).isNone && (match selected s v b l with
    | some (k, _) => k = m
    | none => false)

/-- The code a nozzle of module m, row r, at module column c fires on bar line l, before trimming (R154, R155). -/
def nozzleCode (s : State) (v : MapView) (q : LineSource) (m r c : Nat) (l : Int) : Nat :=
  let b := originIn s v m + c
  match printer s v b l with
  | some (k, r', _) =>
    if k = m ∧ r' = r then
      let own := sourceCode q b
      let spread := sumNat ([b - 1, b + 1].map fun x =>
        if unresolved s v m x l && decide (spreadTarget s v m x l = some b) then sourceCode q x else 0)
      min 3 (own + spread)
    else 0
  | none => 0

/-- Trimming (R156); patches print untrimmed (R272). -/
def trimmed (s : State) (v : MapView) (m r c : Nat) (l : Int) (code : Nat) : Nat :=
  if (patchAt s v (originIn s v m + c) l).isSome then code
  else
    let class_ := tget 0 v.trimClass (nozzleOf m r c)
    if code = 0 ∨ class_ = 0 then code else tget code v.trim (8 * m + class_, code)

/-- Four codes to a byte (R126, R157). -/
def packCodes : List Nat → Bytes
  | a :: b :: c :: d :: r => BitVec.ofNat 8 (a + 4 * b + 16 * c + 64 * d) :: packCodes r
  | _ => []

/-- Module column of nozzle k of row r (R144). -/
def columnOf (r k : Nat) : Nat := 2 * k + r % 2

/-- One row of a module as assembled for a bar line. -/
def assembleRow (s : State) (v : MapView) (q : LineSource) (m r : Nat) (l : Int) : Bytes :=
  packCodes ((upTo 1088).map fun k =>
    let c := columnOf r k
    trimmed s v m r c l (nozzleCode s v q m r c l))

/-- The steps that the dots of a module's selected columns took: partner, spread, dropped, handed over, and the first
nozzle dropped. -/
structure DotCounts where
  partner : Nat := 0
  spread : Nat := 0
  dropped : Nat := 0
  handover : Nat := 0
  firstDropped : Option Nat := none

def countDots (s : State) (v : MapView) (q : LineSource) (m : Nat) (l : Int) : DotCounts :=
  (upTo 2176).foldl (fun a (c : Nat) =>
    let b := originIn s v m + c
    let mine := match selected s v b l with | some (k, _) => k = m | none => false
    if sourceCode q b = 0 ∨ !mine then a
    else match printer s v b l with
      | some (_, _, .partner) => { a with partner := a.partner + 1 }
      | some (_, _, .handOver) => { a with handover := a.handover + 1 }
      | some _ => a
      | none =>
        if (patchAt s v b l).isSome then a
        else if (spreadTarget s v m b l).isSome then { a with spread := a.spread + 1 }
        else { a with dropped := a.dropped + 1,
                      firstDropped := some (a.firstDropped.getD (nozzleOf m (nominalRow s v m c l) c)) }) {}

/-! Row delays and payload (R150, R157) -/

/-- What row r of module m holds for fire slot n: the data assembled d slots earlier, blank where there is none. A line
past the end slot of a drain is blank (R148, R176). -/
def delayedRow (s : State) (m r : Nat) (n : Int) : Bytes :=
  match s.grt.asm.find? fun a => a.module_ = m && decide (a.slot = n - rowDelay s m r) with
  | some a =>
    match s.esc.endSlot with
    | some e => if e < a.line then zeros 272 else a.rows.getD r (zeros 272)
    | none => a.rows.getD r (zeros 272)
  | none => zeros 272

/-- The 1,088-byte payload of a module for a fire slot. -/
def payload (s : State) (m : Nat) (n : Int) : Bytes := (upTo 4).flatMap fun r => delayedRow s m r n

/-- Line CRC of a payload (R157). -/
def lineCrc (p : Bytes) : Nat := crc32c p

/-- GRT's geometry enters RUN: blank delay lines, the limit and partner substitution fixed (R150, R154, R173). -/
def geometryRun (s : State) : State :=
  let rate := profileRate s
  let lim := barLimit s rate
  let s := { s with
    grt := { s.grt with run := true, asm := [], partner := decide (lim ≤ rate) }
    esc := { s.esc with limit := lim, nozzleRate := rate } }
  raise 0x1502 0x05 ([1] ++ leBytes 1 (b2n s.grt.partner) ++ leBytes 2 (maxSkew s)
    ++ leBytes 4 (invalidIn s (mapNow s))) s

/-- GRT's geometry goes to STOPPED: the buffer is discarded (R150). -/
def geometryStop (s : State) : State :=
  let s := { s with grt := { s.grt with run := false, asm := [] } }
  raise 0x1502 0x05 ([0] ++ leBytes 1 (b2n s.grt.partner) ++ leBytes 2 (maxSkew s)
    ++ leBytes 4 (invalidIn s (mapNow s))) s

/-! Detections (R152, R259) -/

/-- INS passes a detection: applied with auto_map, otherwise only reported. -/
def detectNozzle (n st : Nat) (s : State) : State :=
  let detail (applied : Nat) (line : Int) : Bytes :=
    leBytes 4 n ++ leBytes 1 st ++ leBytes 1 applied ++ zeros 2 ++ seBytes 8 line
  if !autoMap s then raise 0x2501 0x05 (detail 0 0) s
  else
    let later := s.hub.mode = .print ∨ s.hub.mode = .drain
    let s := makeChange (.detect n st) 1 0 s
    let line := if later then ((s.grt.changes.getLast?).bind (·.line)).getD 0 else 0
    raise 0x2501 0x05 (detail 1 line) s

/-! Commands -/

/-- Modes in which a geometry setting command passes the mode check (R29). -/
def geometryModes : Mode → Bool := exceptSafe

/-- In ARMED, PRINT and DRAIN bar geometry is in RUN (R29). -/
def geometryBusy (s : State) : Option Verdict := refuseIf (printingMode s.hub.mode) eBusy

/-- GRT_MODULE_SET (0x0302) (R146, R150). -/
def grtModuleSetSpec : CmdSpec where
  opcode := 0x0302
  modes := geometryModes
  len := (· == 16)
  feature := fun p s => (!bit (u8 p 1) 0 || hasFeature s 1) && (decide (u16 p 4 ≤ 4095) || hasFeature s 13)
  value := fun p _ =>
    let d := [u16 p 8, u16 p 10, u16 p 12, u16 p 14]
    within (u8 p 0) 0 23 && within (u8 p 1) 0 3 && within (u16 p 2) 0 52223 && within (u16 p 4) 0 16383 && zeroAt p 6 2
      && d.all (fun x => decide (x ≤ 1535)) && decide (sumNat d ≤ 1920) && d.any (· == 0)
      && d.all fun x => decide (x ≤ u16 p 4)
  check := fun _ s => geometryBusy s
  apply := fun c _ s => done (cfgSet (.grtModule (Fin.ofNat 24 (u8 c.params 0))) (slice c.params 0 16) s)

/-- GRT_STITCH_SET (0x0303) (R151). -/
def grtStitchSetSpec : CmdSpec where
  opcode := 0x0303
  modes := geometryModes
  len := fun n => n == 8 || n == 776
  lenMatch := fun p => if u8 p 1 = 2 then p.length == 776 else if u8 p 1 ≤ 1 then p.length == 8 else true
  value := fun p _ =>
    within (u8 p 0) 0 22 && within (u8 p 1) 0 2 && within (u8 p 2) 0 96 && (u8 p 1 == 0 || u8 p 2 == 0) && zeroAt p 3 5
  check := fun _ s => geometryBusy s
  apply := fun c _ s => done (cfgSet (.grtStitch (Fin.ofNat 23 (u8 c.params 0))) (padTo 776 c.params) s)

/-- The entries of a GRT_NOZZLE_STAGE: nozzle and state. -/
def stageEntries (p : Bytes) : List (Nat × Nat) := (upTo (u16 p 0)).map fun i =>
  let w := u32 p (8 + 4 * i)
  (bits w 16 0, bits w 18 17)

/-- The staging table after an entry list. -/
def stagedAfter (p : Bytes) (s : State) : Tab Nat Nat :=
  (stageEntries p).foldl (fun t e => tset t e.1 e.2) (if bit (u8 p 2) 0 then [] else s.grt.staged)

/-- GRT_NOZZLE_STAGE (0x0304). -/
def grtNozzleStageSpec : CmdSpec where
  opcode := 0x0304
  modes := setupModes
  len := fun n => decide (8 ≤ n)
  lenMatch := fun p => p.length == 8 + 4 * u16 p 0
  value := fun p _ =>
    within (u16 p 0) 1 250 && within (u8 p 2) 0 1 && zeroAt p 3 5
      && (upTo (u16 p 0)).all (fun i => decide (u32 p (8 + 4 * i) < 2 ^ 19))
      && (stageEntries p).all fun e => decide (e.1 ≤ 104447) && decide (e.2 ≤ 2)
  check := fun p s => refuseIf (decide (4096 < (stagedAfter p s).length)) eNoResource
  apply := fun c _ s => done { s with grt := { s.grt with staged := stagedAfter c.params s } }

/-- GRT_NOZZLE_COMMIT (0x0305) (R153). -/
def grtNozzleCommitSpec : CmdSpec where
  opcode := 0x0305
  modes := setupModes
  len := (· == 4)
  value := fun p s => within (u8 p 0) 0 1 && zeroAt p 1 3 && !(s.grt.staged.isEmpty && u8 p 0 == 0)
  apply := fun c _ s =>
    let s := makeChange (.host s.grt.staged (u8 c.params 0 == 1)) 0 0 s
    done { s with grt := { s.grt with staged := [] } }

/-- GRT_NOZZLE_READ (0x0306). -/
def grtNozzleReadSpec : CmdSpec where
  opcode := 0x0306
  modes := anyMode
  isRead := true
  len := (· == 8)
  value := fun p _ => within (u16 p 4) 1 992 && zeroAt p 6 2 && decide (u32 p 0 + u16 p 4 ≤ 104448)
  apply := fun c _ s =>
    let p := c.params
    let v := mapNow s
    withResult (leBytes 4 (u32 p 0) ++ leBytes 2 (u16 p 4) ++ zeros 2 ++ leBytes 4 s.grt.gen.toNat ++ zeros 4
      ++ (upTo (u16 p 4)).flatMap fun i =>
        let n := u32 p 0 + i
        leBytes 1 (tget 0 v.host n + 4 * tget 0 v.detected n + 16 * tget 0 v.trimClass n)) s

/-- GRT_MAP_DIGEST (R152). -/
def mapDigest (s : State) : Bytes :=
  let v := mapNow s
  sha256 ((upTo 104448).map fun n => BitVec.ofNat 8 (nozzleState v n + 4 * tget 0 v.trimClass n))

end Sys2Proof.Machine
end

