-- ==== Sys2Proof/Machine/Ledger.lean ====
section
/-! DEFINITION. LDG (11): tickets, voids, the Cartouche records, the chained and signed blocks, their delivery,
checkpoints and recovery, the reject gate, and LDG's commands. -/
namespace Sys2Proof.Machine

/-! Events reported at most once per millisecond -/

/-- Counts `n` happenings; answers count, first and cause to report once a millisecond has passed since the last
report. -/
def rateHit (now : Time) (n : Nat) (first : Int) (cause : Nat) (r : RateLimit) : Option (Nat × Int × Nat) × RateLimit :=
  let c := r.count + n
  let f := if r.count = 0 then first else r.first
  let k := if r.count = 0 then cause else r.cause
  let free := match r.last with
    | some l => decide (l + tpMs ≤ now)
    | none => true
  if free && decide (0 < c) then (some (c, f, k), { last := some now })
  else (none, { r with count := c, first := f, cause := k })

/-! Free space and close times (R225, R229, R233) -/

/-- Bytes of the LDG region. -/
def regionBytes : Nat := 2 ^ 29

def blockBytes (b : Block) : Nat := 320 + 128 * b.records.length

/-- LDG_FREE. -/
def ledgerFree (s : State) : Nat :=
  regionBytes - (sumNat (s.ldg.blocks.map blockBytes) + (match s.ldg.current with | some b => blockBytes b | none => 0)
    + 128 * s.ldg.deferred.length)

/-- One cycle of LDG's 600 MHz clock, at most one record in each (R225). -/
def ldgCycle : Nat := 109227

/-! Records (R223, R224) -/

/-- Places record_seq and close_time into a record. -/
def stampRecord (seq : Nat) (close : Time) (r : Bytes) : Bytes :=
  r.take 16 ++ leBytes 8 seq ++ slice r 24 72 ++ timeBytes close ++ slice r 108 20

def recordClose (r : Bytes) : Time := timeAt r 96
def recordTicket (r : Bytes) : BitVec 64 := BitVec.ofNat 64 (u64 r 8)

/-- The TICKET record of a ticket. -/
def ticketRecord (k : Ticket) : Bytes :=
  [1] ++ leBytes 1 k.state ++ leBytes 1 (if k.state = 5 then k.reason else 0)
    ++ leBytes 1 (b2n k.cal + 16 * (if k.state = 5 then k.originReason else 0)) ++ leBytes 4 k.flags
    ++ leBytes 8 k.id.toNat ++ zeros 8 ++ leBytes 4 k.page ++ leBytes 2 k.row ++ leBytes 1 k.lane
    ++ leBytes 1 k.origin.toNat ++ seBytes 8 k.first ++ timeBytes k.firstFire ++ timeBytes k.lastFire
    ++ padTo 32 (if k.state = 3 ∨ k.state = 4 then k.intent else []) ++ zeros 12 ++ leBytes 4 k.genFirst.toNat
    ++ leBytes 4 k.genLast.toNat ++ leBytes 2 k.colLo ++ leBytes 2 k.colCount ++ leBytes 2 k.score
    ++ leBytes 1 k.verdict ++ leBytes 1 k.cameras ++ leBytes 2 (min 0xFFFF k.revokes) ++ zeros 2

/-- The AMEND record of a ticket; bytes 64 to 71 are filled in when it is appended. -/
def amendRecord (k : Ticket) (flags : Nat) : Bytes :=
  [2] ++ leBytes 1 k.state ++ leBytes 1 (if k.state = 5 then k.reason else 0)
    ++ leBytes 1 (16 * (if k.state = 5 then k.originReason else 0)) ++ leBytes 4 (flags % 16 / 2 * 2)
    ++ leBytes 8 k.id.toNat ++ zeros 8 ++ leBytes 4 k.page ++ leBytes 2 k.row ++ leBytes 1 k.lane
    ++ leBytes 1 k.origin.toNat ++ zeros 96

/-- A PAUSE, STARVE or PAGE record: kind, ticket ID, flags, page, row field, lane field, F and fire instants. -/
def plainRecord (kind flags page row lane : Nat) (id : BitVec 64) (first : Int) (t1 t2 : Time) : Bytes :=
  leBytes 1 kind ++ zeros 3 ++ leBytes 4 flags ++ leBytes 8 id.toNat ++ zeros 8 ++ leBytes 4 page ++ leBytes 2 row
    ++ leBytes 1 lane ++ [0] ++ seBytes 8 first ++ timeBytes t1 ++ timeBytes t2 ++ zeros 64

/-! Merkle tree (R227) -/

/-- One level up: nodes paired in order, an unpaired last node carried. -/
def merkleUp : List Bytes → List Bytes
  | a :: b :: r => sha256 ([1] ++ a ++ b) :: merkleUp r
  | l => l

/-- The root over nodes, in at most `n` levels. -/
def merkleTop : Nat → List Bytes → Bytes
  | _, [] => zeros 32
  | _, [a] => a
  | 0, a :: _ => a
  | n + 1, l => merkleTop n (merkleUp l)

def merkleRoot (records : List Bytes) : Bytes :=
  merkleTop records.length (records.map fun r => sha256 ([0] ++ r))

/-! Sealing (R226, R228) -/

/-- key_id of a header: the first 8 bytes of SHA-256 over the public key 0x04, X, Y (R226, R331). -/
def headerKeyId : Bytes := (sha256 ([0x04] ++ padTo 96 Config.devicePublicKey)).take 8

def activeSlot (s : State) : ImageSlot := if s.mss.activeB then s.nvm.slotB else s.nvm.slotA

/-- Header bytes 0 to 223. -/
def headerBody (signed : Bool) (b : Block) (s : State) : Bytes :=
  leBytes 2 1 ++ leBytes 2 320 ++ leBytes 1 s.rng.address.toNat ++ leBytes 1 b.cause
    ++ leBytes 2 (b2n (!signed) + 2 * b2n b.recovered + 4 * b2n b.extended + 8 * b2n b.calibrate)
    ++ leBytes 8 Config.deviceSerial.toNat ++ leBytes 8 b.number ++ leBytes 8 b.firstSeq
    ++ leBytes 4 b.records.length ++ leBytes 4 s.nvm.bootCount.toNat ++ timeBytes b.openTime ++ timeBytes b.closeTime
    ++ leBytes 8 (cfgEpoch s) ++ leBytes 4 (activeSlot s).fwVersion.toNat ++ leBytes 1 (b2n s.mss.activeB) ++ zeros 3
    ++ padTo 32 s.ldg.prevHash ++ cfgDigest s ++ padTo 32 (activeSlot s).measurement ++ merkleRoot b.records
    ++ headerKeyId ++ leBytes 4 b.mapOpen.toNat ++ leBytes 4 b.mapClose.toNat

/-- The 320-byte header. -/
def headerOf (signed : Bool) (b : Block) (s : State) : Bytes :=
  let h := headerBody signed b s
  h ++ (if signed then padTo 96 (Config.sign (sha256 h)) else zeros 96)

/-- EV_LDG_RECOVERED once the last recovery block is sealed (R235 step 2). -/
def recoveredReport (s : State) : State :=
  if s.ldg.recoveryUnsealed && !(s.ldg.blocks.any fun b => b.recovered && b.header.isNone) then
    let l := s.ldg.recoveredIds
    raise 0x1902 0x09 (leBytes 4 (sumNat (l.map (·.2))) ++ leBytes 1 l.length ++ zeros 3
      ++ leBytes 8 (match s.nvm.checkpoint with | some c => c.block.getD 0 | none => 0))
      { s with ldg := { s.ldg with recoveryUnsealed := false } }
  else s

/-- Seals the oldest closed block that is not sealed; it never changes after (R228). -/
def sealNext (signed : Bool) (s : State) : State :=
  match s.ldg.blocks.find? fun b => b.header.isNone with
  | none => s
  | some b =>
    let h := headerOf signed b s
    let s := { s with ldg := { s.ldg with
      blocks := s.ldg.blocks.map fun x => if x.number = b.number then { x with header := some h } else x
      prevHash := sha256 h, sealedTop := some b.number, lastSeal := b.closeTime } }
    let s := raise 0x1901 0x09 (leBytes 8 b.number ++ leBytes 2 b.records.length ++ leBytes 1 b.cause ++ slice h 6 1
      ++ leBytes 4 0xFFFFFFFF) s
    recoveredReport s

/-- Without the ledger signing feature a block is sealed as it closes. -/
def sealClosed : Nat → State → State
  | 0, s => s
  | n + 1, s =>
    if hasFeature s 5 then s
    else if s.ldg.blocks.any fun b => b.header.isNone then sealClosed n (sealNext false s) else s

def lastSealedBlock (s : State) : Nat := s.ldg.sealedTop.getD 0

/-- LDG_CHAIN_HEAD: SHA-256 of the last sealed header. -/
def chainHead (s : State) : Bytes := s.ldg.prevHash

/-! Appending records and closing blocks (R225) -/

/-- A ticket takes the record_seq of a record of its own. -/
def noteSeq (id : BitVec 64) (kind seq : Nat) (s : State) : State :=
  { s with ldg := { s.ldg with tickets := s.ldg.tickets.map fun k =>
      if k.id = id then { k with seq := some seq, own := if kind = 1 then some seq else k.own } else k } }

/-- Fills in the amended record of an AMEND. -/
def fillAmended (id : BitVec 64) (r : Bytes) (s : State) : Bytes :=
  if u8 r 0 = 2 then
    match s.ldg.tickets.find? fun k => k.id = id with
    | some k => r.take 64 ++ leBytes 8 (k.own.getD 0) ++ r.drop 72
    | none => r
  else r

/-- Puts a record into the open block. -/
def putRecord (b : Block) (r : Bytes) (id : BitVec 64) (s : State) : State :=
  let close := max s.now (s.ldg.lastClose + ldgCycle)
  let seq := s.ldg.nextSeq
  let r := stampRecord seq close (fillAmended id r s)
  let s := { s with ldg := { s.ldg with
    current := some { b with records := b.records ++ [r] }, nextSeq := seq + 1, lastClose := close } }
  if u8 r 0 ≤ 2 then noteSeq id (u8 r 0) seq s else s

/-- A record waits for the next block: up to 4,096, further ones are dropped and counted. -/
def deferRecord (r : Bytes) (id : BitVec 64) (s : State) : State :=
  if s.ldg.deferred.length < 4096 then
    { s with ldg := { s.ldg with deferred := s.ldg.deferred ++ [{ record := r, ticket := id }] } }
  else
    let s := { s with ldg := { s.ldg with deferredLost := s.ldg.deferredLost + 1 } }
    raise 0x2905 0x09 (leBytes 4 s.ldg.deferredLost ++ leBytes 8 id.toNat) s

/-- Opens the next block at an instant. -/
def openBlock (t : Time) (s : State) : State :=
  { s with ldg := { s.ldg with current := some {
      number := s.ldg.nextBlock, firstSeq := s.ldg.nextSeq, openTime := t, calibrate := decide (s.hub.mode = .calibrate),
      mapOpen := s.grt.gen } } }

/-- A record that loses its place in a block gives its record_seq back. -/
def unseq (from_ : Nat) (k : Ticket) : Ticket :=
  { k with
    seq := match k.seq with | some q => if from_ ≤ q then none else some q | none => none
    own := match k.own with | some q => if from_ ≤ q then none else some q | none => none }

/-- Closes the open block at an instant: it keeps the records whose close_time is earlier; the others go to the next
block, or are held where the ledger closes (R225, R237). -/
def closeAt (cause : Nat) (t : Time) (reopen : Bool) (s : State) : State :=
  match s.ldg.current with
  | none => s
  | some b =>
    let keep := b.records.filter fun r => decide (recordClose r < t)
    let carry := b.records.filter fun r => !decide (recordClose r < t)
    let seq := b.firstSeq + keep.length
    let closed := { b with records := keep, closeTime := t, cause := cause, mapClose := s.grt.gen }
    let s := { s with ldg := { s.ldg with
      blocks := s.ldg.blocks ++ [closed], current := none, nextBlock := b.number + 1 } }
    let s :=
      if reopen then
        let s := openBlock t { s with ldg := { s.ldg with nextSeq := seq } }
        { s with ldg := { s.ldg with
          current := s.ldg.current.map fun n => { n with records := carry }, nextSeq := seq + carry.length } }
      else
        let held : List Deferred := carry.map fun r => { record := r, ticket := recordTicket r }
        { s with ldg := { s.ldg with
          nextSeq := seq, deferred := held ++ s.ldg.deferred, tickets := s.ldg.tickets.map (unseq seq) } }
    sealClosed s.ldg.blocks.length s

/-- Order of causes that fall at one instant (R225). -/
def causeRank (c : Nat) : Nat := [3, 4, 1, 0, 2].getD c 5

/-- A block that a cause of the same instant has just closed takes the higher cause, unless it is sealed already. -/
def closeBlock (cause : Nat) (s : State) : State :=
  match s.ldg.current with
  | none => s
  | some b =>
    if b.openTime = s.now ∧ s.ldg.blocks.any (fun x => x.number + 1 = b.number ∧ x.closeTime = s.now) then
      { s with ldg := { s.ldg with blocks := s.ldg.blocks.map fun x =>
          if x.number + 1 = b.number ∧ x.header.isNone ∧ causeRank cause < causeRank x.cause then
            { x with cause := cause } else x } }
    else closeAt cause s.now true s

/-- A record cannot be appended for want of space (R233). -/
def spaceRefused (s : State) : Bool := decide (ledgerFree s < 2 ^ 20) && !s.ldg.reserve

/-- EV_LDG_STORAGE_FULL and the SAFE cause (R233). -/
def storageFull (s : State) : State :=
  if s.ldg.storageFull then s
  else internalFault 0x09 (raise 0x3901 0x09 (leBytes 4 (ledgerFree s))
    { s with ldg := { s.ldg with storageFull := true } })

/-- Appends a record: to the open block, to the held records while the ledger is closed or has no space (log entry 40).
The 4,096th record closes the block with COUNT. -/
def appendRecord (r : Bytes) (id : BitVec 64) (s : State) : State :=
  match s.ldg.current with
  | none => deferRecord r id s
  | some b =>
    if spaceRefused s then deferRecord r id (storageFull s)
    else
      let s := putRecord b r id s
      match s.ldg.current with
      | some b' => if 4096 ≤ b'.records.length then closeAt 0 (s.ldg.lastClose + 1) true s else s
      | none => s

/-- The ledger opens: a block opens and the held records go in first (R225). -/
def openLedger (s : State) : State :=
  let held := s.ldg.deferred
  let s := openBlock s.now { s with ldg := { s.ldg with open_ := true, deferred := [] } }
  each held (fun d => appendRecord d.record d.ticket) s

/-- LEDGER_BLOCK_TIME_CLOSE: 1 s after it opened a block closes, but for an extended one (R225, R233). -/
def blockTimeClose (s : State) : State :=
  match s.ldg.current with
  | none => s
  | some b =>
    if s.now < b.openTime + tpS then s
    else if s.hub.mode = .armed ∧ ledgerFree s < 2 ^ 20 then
      { s with ldg := { s.ldg with current := some { b with extended := true } } }
    else if b.extended then s
    else closeAt 1 (b.openTime + tpS) true s

def execLedgerBlockTimeClose (t : Time) (s : State) : Host.Outcome State Fault Refusal := atTime t blockTimeClose s

/-- BLOCK_SIGNED: the signature of the oldest waiting block is written and the block is sealed (R228, R332). -/
def blockSigned (s : State) : State := if hasFeature s 5 then sealNext true s else s

def execBlockSigned (t : Time) (s : State) : Host.Outcome State Fault Refusal := atTime t blockSigned s

/-! Tickets -/

def findTicket (s : State) (id : BitVec 64) : Option Ticket := s.ldg.tickets.find? fun k => k.id = id

def setTicket (k : Ticket) (s : State) : State :=
  { s with ldg := { s.ldg with tickets := s.ldg.tickets.map fun x => if x.id = k.id then k else x } }

/-- Tickets of the open table (R217). -/
def openTickets (s : State) : Nat := (s.ldg.tickets.filter fun k => k.state = 2).length

/-- The ticket of a page that an ID names, from a row on: row and lane. -/
def ticketOf (p : Page) (fromRow : Nat) (id : BitVec 64) : Option (Nat × Nat) :=
  let base := (ticketId p 0 0).toNat
  let n := id.toNat - base
  if base ≤ id.toNat ∧ fromRow * pageLanes p ≤ n ∧ n < pageRows p * pageLanes p then
    some (n / pageLanes p, n % pageLanes p)
  else none

/-- The pages whose tickets are SCHEDULED: the current page and the pages committed to start (R217). -/
def scheduledPages (s : State) : List Page := (s.mem.current.toList ++ plannedPages s).filterMap (findPage s)

/-- The SCHEDULED ticket of an ID. -/
def findScheduled (s : State) (id : BitVec 64) : Option (Page × Nat × Nat) :=
  (scheduledPages s).findSome? fun p => (ticketOf p p.nextRow id).map fun x => (p, x)

/-- Rank of a void reason among equal timestamps (R219). -/
def voidRank (reason : Nat) : Nat := [9, 2, 1, 3, 4, 5, 7, 6, 8].getD reason 9

def inspection (s : State) : Bool := hasFeature s 4

/-! Fire instants (R145, R223) -/

/-- First and last bar column of a ticket that was fetched. -/
def fetchedColumns (k : Ticket) : Int × Int := (k.lo + k.colLo, k.lo + k.colLo + k.colCount - 1)

/-- The modules whose bar columns overlap the fetched columns of a ticket. -/
def ticketModules (s : State) (k : Ticket) : List Nat :=
  if k.colCount = 0 then []
  else
    let v := mapAt s k.first
    let c := fetchedColumns k
    (presentModules s).filter fun m => decide (originIn s v m ≤ c.2) && decide (c.1 ≤ originIn s v m + 2175)

/-- First and last slot that fire a bar line from `first` for `len` lines on a module. -/
def lineSlots (s : State) (m : Nat) (first : Int) (len : Nat) : Int × Int :=
  let us := rowList.map (upstream s m)
  (first - us.foldl max (us.headD 0), first + len - 1 - leastUpstream s m)

/-- The row instants of a slot that fire lines of a ticket's row, up to an instant where one is given. -/
def rowInstants (s : State) (k : Ticket) (f : FixedSlot) (cut : Option Time) : List (Time × BitVec 32) :=
  (f.modules.filter fun x => (ticketModules s k).contains x.module_).flatMap fun x =>
    rowList.filterMap fun r =>
      let l := f.n + upstream s x.module_ r
      let t := x.rows.getD r 0
      let early : Bool := match cut with | some c => decide (t ≤ c) | none => true
      if k.first ≤ l ∧ l < k.first + k.pitch ∧ early then some (t, x.gen) else none

/-- One fire instant enters first_fire and last_fire. -/
def addFire (k : Ticket) (x : Time × BitVec 32) : Ticket :=
  let k := if k.firstFire = 0 ∨ x.1 < k.firstFire then { k with firstFire := x.1, genFirst := x.2 } else k
  if k.lastFire < x.1 then { k with lastFire := x.1, genLast := x.2 } else k

/-- A fired slot reaches a ticket. -/
def noteFire (s : State) (f : FixedSlot) (cut : Option Time) (k : Ticket) : Ticket :=
  (rowInstants s k f cut).foldl addFire k

/-- The fire instants of a ticket up to an instant, from the slots that have not fired in full. -/
def fireUpTo (s : State) (t : Time) (k : Ticket) : Ticket :=
  (s.esc.slots.filter fun f => decide (s.esc.fired < f.n)).foldl (fun k f => noteFire s f (some t) k) k

/-! Closing (R218) -/

/-- Condition 1 of R218: every slot of the row has fired and HLK holds its receipt. -/
def fireComplete (s : State) (k : Ticket) : Bool :=
  (ticketModules s k).all fun m =>
    let w := lineSlots s m k.first k.pitch
    let h := tget {} s.hlk.modules m
    decide (w.2 ≤ firedTo s)
      && (h.state == 5 || !h.lines.any fun l => !l.withdrawn && decide (w.1 ≤ l.slot) && decide (l.slot ≤ w.2))

/-! The reject gate (R236) -/

def ldgCfg (s : State) : Bytes := cfgGet s .ldgConfig

/-- An AMEND record for a ticket. -/
def amend (k : Ticket) (flags : Nat) (s : State) : State :=
  appendRecord (amendRecord k flags) k.id
    { s with ldg := { s.ldg with amends := s.ldg.amends + 1, wanted := true } }

/-- Marks a ticket's row for rejection; `cur` is the ticket whose own record carries the flag. -/
def markRow (page row : Nat) (cur : Option (BitVec 64)) (s : State) : State :=
  match s.ldg.rejects.find? fun r => r.page = page ∧ r.row = row ∧ r.mark = 0 with
  | none => s
  | some r =>
    if !bit r.policy 0 || !hasFeature s 14 then s
    else
      let q := webLine s s.now
      let mark := if q < r.opens * 2 ^ 32 then 1 else if q < r.closes * 2 ^ 32 then 2 else 3
      let s := { s with ldg := { s.ldg with
        rejects := s.ldg.rejects.map (fun x => if x.page = page ∧ x.row = row then { x with mark := mark } else x)
        rejectRows := s.ldg.rejectRows + 1
        rejectMissed := if mark = 3 then satInc 32 s.ldg.rejectMissed else s.ldg.rejectMissed } }
      let mine := s.ldg.tickets.filter fun k => k.begun ∧ k.page = page ∧ k.row = row
      each mine (fun k s =>
        let s := when_ (decide (mark = 3)) (raise 0x2902 0x09 (leBytes 8 k.id.toNat ++ seBytes 8 r.first)) s
        let k := { k with flags := k.flags ||| 2 ^ mark }
        let s := setTicket k s
        if k.state ≠ 2 ∧ some k.id ≠ cur then amend k (2 ^ mark) s else s) s

/-- A ticket marks its row: VOID or INDETERMINATE always, the others by policy. -/
def marksRow (s : State) (k : Ticket) : Bool :=
  let policy := match s.ldg.rejects.find? fun r => r.page = k.page ∧ r.row = k.row with
    | some r => r.policy
    | none => 0
  k.state = 5 || k.state = 6 || (k.state = 4 && bit policy 1) || (bit k.flags 0 && bit policy 2)

/-- A ticket closes with its final state: counters, reject mark, TICKET record. -/
def closeTicket (k : Ticket) (s : State) : State :=
  let s := setTicket k s
  let s := { s with ldg := { s.ldg with
    stateCount := tmod 0 s.ldg.stateCount (k.state - 3) (· + 1)
    voidCount := if k.state = 5 then tmod 0 s.ldg.voidCount k.reason (· + 1) else s.ldg.voidCount } }
  let s := if k.begun && marksRow s k then markRow k.page k.row (some k.id) s else s
  let k := (findTicket s k.id).getD k
  appendRecord (ticketRecord k) k.id s

/-- Closes a ticket in PRINTING as soon as both conditions of R218 hold. -/
def tryClose (k : Ticket) (s : State) : State :=
  if k.state ≠ 2 ∨ !fireComplete s k then s
  else if !inspection s then closeTicket { k with state := 4 } s
  else if k.verdict = 1 then closeTicket { k with state := 3 } s
  else if k.verdict = 3 then closeTicket { k with state := 4 } s
  else if k.deadline * 2 ^ 32 ≤ webLine s s.now then closeTicket { k with state := 4, flags := k.flags ||| 64 } s
  else s

/-- Every ticket in PRINTING that may close does so. -/
def closeTickets (s : State) : State :=
  each (s.ldg.tickets.filter fun k => k.state = 2) (fun k s => tryClose ((findTicket s k.id).getD k) s) s

/-- VERDICT_DEADLINE (R218). -/
def execVerdictDeadline (t : Time) (s : State) : Host.Outcome State Fault Refusal := atTime t closeTickets s

/-! Void broadcasts (R85, R220) -/

/-- Joins the IDs that follow one another into ranges. -/
def idRanges : List Nat → List TicketRange
  | [] => []
  | a :: r =>
    match idRanges r with
    | [] => [{ first := BitVec.ofNat 64 a, count := 1 }]
    | x :: xs =>
      if x.first.toNat = a + 1 ∧ x.count.toNat < 0xFFFF then { first := BitVec.ofNat 64 a, count := x.count + 1 } :: xs
      else { first := BitVec.ofNat 64 a, count := 1 } :: x :: xs

/-- Puts a number into a rising list. -/
def insertNat (a : Nat) : List Nat → List Nat
  | [] => [a]
  | b :: r => if a ≤ b then a :: b :: r else b :: insertNat a r

def sortNat (l : List Nat) : List Nat := l.foldl (fun r a => insertNat a r) []

/-- A VOID packet leaves by the ring, or waits until a port is UP. -/
def sendVoid (b : RingBody) (s : State) : State :=
  if (routes s 31).any (portUp s) || portUp s .east || portUp s .west then
    sendRing 31 b { s with rng := { s.rng with voidTx := s.rng.voidTx + 1 } }
  else { s with rng := { s.rng with heldVoids := s.rng.heldVoids ++ [b] } }

/-- Ranges in groups of at most 16, one packet for each (R85). -/
def sendRanges : Nat → Nat → List TicketRange → State → State
  | 0, _, _, s => s
  | n + 1, reason, l, s =>
    if l.isEmpty then s
    else sendRanges n reason (l.drop 16) (sendVoid (.void (BitVec.ofNat 8 reason) (l.take 16)) s)

/-- A void broadcast of ranges with an origin reason. -/
def broadcastRanges (reason : Nat) (l : List TicketRange) (s : State) : State := sendRanges l.length reason l s

/-- EV_LDG_VOID, at most once per reason per millisecond: `k` more tickets are void, the first `a` (11, Events). -/
def voidReport (reason origin a k : Nat) (s : State) : State :=
  let h := rateHit s.now k a origin (tget {} s.ldg.voidRate reason)
  let s := { s with ldg := { s.ldg with voidRate := tset s.ldg.voidRate reason h.2 } }
  match h.1 with
  | some (n, f, o) =>
    raise 0x2903 0x09 (leBytes 1 reason ++ leBytes 1 o ++ leBytes 2 (min n 0xFFFF) ++ seBytes 8 f) s
  | none => s

/-- EV_LDG_VOID for tickets of one reason. -/
def voidEvent (reason : Nat) (origin : BitVec 5) (ids : List Nat) (s : State) : State :=
  match sortNat ids with
  | [] => s
  | a :: r => voidReport reason origin.toNat a (r.length + 1) s

/-- The broadcast and the event of a void cause that reached some tickets. -/
def announceVoids (reason : Nat) (ids : List (BitVec 64)) (s : State) : State :=
  let l := ids.map BitVec.toNat
  voidEvent reason 0 l (broadcastRanges reason (idRanges (sortNat l)) s)

/-! Voids (R217, R219, R220) -/

/-- A cause of a void: reason, timestamp, rank, and for a RING void the origin. -/
structure VoidCause where
  reason : Nat
  t : Time
  rank : Nat
  origin : BitVec 5 := 0
  originReason : Nat := 0

def cause_ (reason : Nat) (t : Time) : VoidCause := { reason := reason, t := t, rank := voidRank reason }

/-- The ticket with a void cause entered. -/
def voided (c : VoidCause) (k : Ticket) : Ticket :=
  { k with state := 5, reason := c.reason, voidAt := c.t, voidRank := c.rank, origin := c.origin,
           originReason := c.originReason }

/-- A record in the open block takes an earlier void's reason and origin (R219). -/
def rewriteVoid (k : Ticket) (s : State) : State :=
  match s.ldg.current, k.own with
  | some b, some q =>
    if b.firstSeq ≤ q then
      let fix : Bytes → Bytes := fun r =>
        if u64 r 16 = q then
          r.take 2 ++ leBytes 1 k.reason ++ leBytes 1 (u8 r 3 % 2 + 16 * k.originReason) ++ slice r 4 27
            ++ leBytes 1 k.origin.toNat ++ r.drop 32
        else r
      { s with ldg := { s.ldg with current := some { b with records := b.records.map fix } } }
    else s
  | _, _ => s

/-- A range of the pending-void table loses a ticket that has been voided (R85). -/
def dropPending (id : BitVec 64) (s : State) : State :=
  { s with rng := { s.rng with pendingVoid :=
      (s.rng.pendingVoid.map fun p => { p with ids := p.ids.filter (· ≠ id) }).filter fun p => !p.ids.isEmpty } }

/-- Voids one ticket this unit holds or has scheduled; the answer says whether it became VOID now. -/
def voidTicket (c : VoidCause) (id : BitVec 64) (s : State) : Bool × State :=
  match findTicket s id with
  | some k =>
    if k.state = 2 then (true, dropPending id (closeTicket (voided c (fireUpTo s c.t k)) s))
    else if k.state = 3 ∨ k.state = 4 then
      let k := voided c k
      let s := setTicket k { s with ldg := { s.ldg with voidCount := tmod 0 s.ldg.voidCount c.reason (· + 1) } }
      let s := markRow k.page k.row (some id) s
      let k := (findTicket s id).getD k
      (true, dropPending id (amend k k.flags s))
    else if k.state = 5 ∧ (c.t < k.voidAt ∨ (c.t = k.voidAt ∧ c.rank < k.voidRank)) ∧ u8 (ticketRecord k) 0 = 1 then
      match s.ldg.current, k.own with
      | some b, some q =>
        if b.firstSeq ≤ q then
          let n := voided c k
          let v := tmod 0 (tmod 0 s.ldg.voidCount k.reason (· - 1)) c.reason (· + 1)
          (false, rewriteVoid n (setTicket n { s with ldg := { s.ldg with voidCount := v } }))
        else (false, s)
      | _, _ => (false, s)
    else (false, s)
  | none =>
    match findScheduled s id with
    | some (p, r, j) =>
      let k : Ticket := voided c { id := id, page := p.id, row := r, lane := j, begun := false }
      let s := { s with ldg := { s.ldg with tickets := s.ldg.tickets ++ [k] } }
      (true, dropPending id (closeTicket k s))
    | none => (false, s)

/-- Voids a list of tickets; the answer lists those that became VOID now. -/
def voidTickets (c : VoidCause) (ids : List (BitVec 64)) (s : State) : List (BitVec 64) × State :=
  ids.foldl (fun a id =>
    let r := voidTicket c id a.2
    (if r.1 then a.1 ++ [id] else a.1, r.2)) ([], s)

/-- Voids tickets by a cause of this unit: with its broadcast and event (R220). -/
def voidHere (c : VoidCause) (ids : List (BitVec 64)) (s : State) : State :=
  let r := voidTickets c ids s
  announceVoids c.reason r.1 r.2

/-- The tickets whose rows have begun and whose area overlaps some bar lines and bar columns (R374). -/
def areaTickets (s : State) (l1 l2 c1 c2 : Int) : List Ticket :=
  s.ldg.tickets.filter fun k => k.begun && decide (k.first ≤ l2) && decide (l1 < k.first + k.pitch) && decide (k.lo ≤ c2)
    && decide (c1 ≤ k.hi)

/-- A void defined by area (R374). -/
def voidArea (reason : Nat) (t : Time) (l1 l2 c1 c2 : Int) (s : State) : State :=
  voidHere (cause_ reason t) ((areaTickets s l1 l2 c1 c2).map (·.id)) s

/-- Every ticket in PRINTING becomes VOID; at the entry to SAFE itself with the highest rank (R25, R174, R219). -/
def voidPrinting (c : VoidCause) (s : State) : State :=
  voidHere c ((s.ldg.tickets.filter fun k => k.begun && (k.state == 2 || (k.state == 5 && decide (k.voidAt = c.t)))).map
    (·.id)) s

/-- A flag of the records of tickets in PRINTING that satisfy a condition. -/
def flagTickets (flag : Nat) (sel : Ticket → Bool) (s : State) : State :=
  let mark : Ticket → Ticket := fun k => if k.state = 2 ∧ sel k = true then { k with flags := k.flags ||| flag } else k
  { s with ldg := { s.ldg with tickets := s.ldg.tickets.map mark } }

/-! Scheduling (R85, R217) -/

/-- IDs of a page's tickets from a row on. -/
def pageTicketIds (p : Page) (fromRow : Nat) : List (BitVec 64) :=
  (upTo ((pageRows p - fromRow) * pageLanes p)).map fun i =>
    BitVec.ofNat 64 ((ticketId p 0 0).toNat + fromRow * pageLanes p + i)

/-- A page's rows become SCHEDULED: tickets of the pending-void table and of overflowed jobs become VOID. -/
def scheduleTickets (p : Page) (s : State) : State :=
  let job := BitVec.ofNat 24 (u24 p.params 32)
  let s :=
    if s.rng.voidJobs.contains job then
      let r := voidTickets (cause_ 8 s.now) (pageTicketIds p p.nextRow) s
      voidEvent 8 0 (r.1.map BitVec.toNat) r.2
    else s
  each s.rng.pendingVoid (fun e s =>
    let ids := e.ids.filter fun id => (ticketOf p p.nextRow id).isSome
    let reason := if e.origin = 0 ∧ e.reason = 6 then 6 else 8
    let r := voidTickets { cause_ reason s.now with
      origin := e.origin, originReason := if reason = 8 then e.reason.toNat else 0 } ids s
    voidEvent reason e.origin (r.1.map BitVec.toNat) r.2) s

/-- The page is skipped as INVALID: the tickets of its rows not begun become VOID with reason DATA (R217). -/
def skipTickets (p : Page) (s : State) : State :=
  let ids := pageTicketIds p p.nextRow
  let new := ids.filter fun id => (findTicket s id).isNone
  let c := cause_ 4 s.now
  let s := each new (fun id s =>
    let x := (ticketOf p 0 id).getD (0, 0)
    let k := voided c { id := id, page := p.id, row := x.1, lane := x.2, begun := false }
    dropPending id (closeTicket k { s with ldg := { s.ldg with tickets := s.ldg.tickets ++ [k] } })) s
  announceVoids 4 new s

/-- IDs of a range. -/
def rangeIds (r : TicketRange) : List (BitVec 64) :=
  (upTo r.count.toNat).map fun i => BitVec.ofNat 64 (r.first.toNat + i)

/-- The ticket is held: in the table, or SCHEDULED. -/
def held (s : State) (id : BitVec 64) : Bool := (findTicket s id).isSome || (findScheduled s id).isSome

/-- Tickets of a range that are not held enter the pending-void table, or their jobs are marked where it is full
(R85). -/
def pendVoids (ids : List (BitVec 64)) (origin : BitVec 5) (reason : BitVec 8) (s : State) : State :=
  if ids.isEmpty then s
  else if s.rng.pendingVoid.length < 1024 then
    { s with rng := { s.rng with pendingVoid := s.rng.pendingVoid ++ [{ ids := ids, origin := origin, reason := reason }] } }
  else
    let jobs := (ids.map fun id => BitVec.ofNat 24 (id.toNat / 2 ^ 40)).eraseDups
    each jobs (fun j s =>
      raise 0x3803 0x08 (leBytes 3 j.toNat ++ [0] ++ leBytes 4 s.rng.pendingVoid.length)
        { s with rng := { s.rng with voidJobs := if s.rng.voidJobs.contains j then s.rng.voidJobs else s.rng.voidJobs ++ [j] } }) s

/-- A VOID packet is received (R85). -/
def receiveVoid (src : BitVec 5) (reason : BitVec 8) (ranges : List TicketRange) (s : State) : State :=
  let c : VoidCause := { cause_ 8 s.now with origin := src, originReason := reason.toNat }
  let s := { s with rng := { s.rng with voidRx := s.rng.voidRx + 1 } }
  each ranges (fun g s =>
    let ids := rangeIds g
    let r := voidTickets c (ids.filter (held s)) s
    let s := voidEvent 8 src (r.1.map BitVec.toNat) r.2
    pendVoids (ids.filter fun id => !held s id) src reason s) s

/-! Verdicts (R218, R220) -/

/-- INS's verdict on a ticket: 1 PASS, 2 FAIL, 3 UNVERIFIED. -/
def ldgVerdict (id : BitVec 64) (v score cameras : Nat) (strip : Bool) (s : State) : State :=
  match findTicket s id with
  | none => s
  | some k =>
    if k.state = 2 then
      let k := { k with verdict := v, score := score, cameras := cameras, flags := k.flags ||| (if strip then 128 else 0) }
      let s := setTicket k s
      if v = 2 then voidHere (cause_ 7 s.now) [id] s else tryClose k s
    else if k.state = 3 ∨ k.state = 4 then
      if v = 2 then voidHere (cause_ 7 s.now) [id] s
      else if v = 1 then { s with ldg := { s.ldg with verdictLate := satInc 32 s.ldg.verdictLate } }
      else s
    else s

/-! Checkpoints (R231, R232) -/

/-- A range of ticket IDs as first and count. -/
abbrev IdRange := BitVec 64 × Nat

def covers (l : List IdRange) (id : Nat) : Bool := l.any fun r => decide (r.1.toNat ≤ id) && decide (id < r.1.toNat + r.2)

/-- Every ticket of a page row is covered. -/
def rowCoveredBy (l : List IdRange) (p : Page) (row : Nat) : Bool :=
  let a := (ticketId p row 0).toNat
  l.any fun r => decide (r.1.toNat ≤ a) && decide (a + pageLanes p ≤ r.1.toNat + r.2)

/-- A committed checkpoint covers a row (R232). -/
def rowCovered (s : State) (p : Page) (row : Nat) : Bool :=
  match s.nvm.checkpoint with
  | some c => rowCoveredBy c.ranges p row
  | none => false

/-- Puts a range into a list of ranges, joined with those it touches; ranges rise. -/
def addRange (a n : Nat) : List (Nat × Nat) → List (Nat × Nat)
  | [] => [(a, n)]
  | (b, m) :: r =>
    if a + n < b then (a, n) :: (b, m) :: r
    else if b + m < a then (b, m) :: addRange a n r
    else
      let lo := min a b
      addRange lo (max (a + n) (b + m) - lo) r

/-- The limits of R231: 64 ranges, 1,048,576 tickets. -/
def withinLimits (l : List (Nat × Nat)) : Bool := decide (l.length ≤ 64) && decide (sumNat (l.map (·.2)) ≤ 1048576)

/-- A range is taken as far as the limits allow. -/
def takeRange (l : List (Nat × Nat)) (r : Nat × Nat) : List (Nat × Nat) :=
  let n := addRange r.1 r.2 l
  if withinLimits n then n else l

/-- Tickets that a checkpoint must hold: in the table, with a record not acknowledged, or with a held amendment. -/
def heldIds (s : State) : List (Nat × Nat) :=
  (s.ldg.tickets.map fun k => (k.id.toNat, 1)) ++ s.ldg.recoveredIds.map (fun r => (r.1.toNat, r.2))
    ++ (s.ldg.deferred.filter fun d => u8 d.record 0 ≤ 2).map fun d => (d.ticket.toNat, 1)

/-- The rows of a page from `nextRow` on as one range of IDs. -/
def rowsRange (p : Page) (rows : Nat) : Nat × Nat := ((ticketId p p.nextRow 0).toNat, rows * pageLanes p)

/-- Bar lines that pass within a part of checkpoint_horizon at the line-rate limit: horizon / div. -/
def horizonLines (s : State) (div : Nat) : Nat := s.esc.limit * u16 (ldgCfg s) 16 / (1000 * div)

/-- The rows of the current page, of the pages committed to start, and of the queued pages that could begin within the
horizon, page by page. -/
def aheadRanges (s : State) : List (Nat × Nat) :=
  let firm := (scheduledPages s).map fun p => rowsRange p (pageRows p - p.nextRow)
  let h := horizonLines s 1
  let begun := sumNat ((scheduledPages s).map fun p => (pageRows p - p.nextRow) * pagePitch p)
  let queued := (s.mem.queue.filterMap (findPage s)).foldl (fun (a : Nat × List (Nat × Nat)) p =>
    if h < a.1 then a
    else
      let n := min (pageRows p - p.nextRow) ((h - a.1) / max 1 (pagePitch p) + 1)
      (a.1 + (pageRows p - p.nextRow) * pagePitch p, a.2 ++ [rowsRange p n])) (begun, [])
  firm ++ queued.2

/-- The ranges of a checkpoint written now (R231). -/
def checkpointRanges (s : State) : List (Nat × Nat) :=
  ((heldIds s ++ aheadRanges s).filter fun r => decide (0 < r.2)).foldl takeRange []

/-- Beginning a row would take the checkpoint beyond its limits: its tickets do not fit beside those held (R234). -/
def overLimit (s : State) (p : Page) (row : Nat) : Bool :=
  decide (262144 < openTickets s + pageLanes p)
    || !withinLimits (addRange (ticketId p row 0).toNat (pageLanes p) ((heldIds s).foldl (fun l r => addRange r.1 r.2 l) []))

/-- LDG_CKPT_AHEAD: lines covered ahead of the slot in progress. -/
def coveredAhead (s : State) : Nat :=
  match s.nvm.checkpoint with
  | none => 0
  | some c =>
    let pages := (scheduledPages s).map (fun p => (p, p.nextRow)) ++ (s.mem.queue.filterMap (findPage s)).map fun p => (p, p.nextRow)
    let rows := pages.flatMap fun x => (upTo (pageRows x.1 - x.2)).map fun i => (x.1, x.2 + i)
    let good := rows.takeWhile fun x => rowCoveredBy c.ranges x.1 x.2
    let lead := (s.mem.begunTo - presentSlot s).toNat
    lead + sumNat (good.map fun x => pagePitch x.1)

/-- A page of the queue has an uncovered row within the horizon. -/
def uncoveredQueued (s : State) : Bool :=
  match s.nvm.checkpoint with
  | none => !s.mem.queue.isEmpty || s.mem.current.isSome
  | some c => (aheadRanges s).any fun r => decide (0 < r.2) &&
      !c.ranges.any fun x => decide (x.1.toNat ≤ r.1) && decide (r.1 + r.2 ≤ x.1.toNat + x.2)

/-- A trigger of R231 has fallen due. -/
def checkpointDue (s : State) : Bool :=
  s.ldg.wanted || ((s.mem.committed || printingMode s.hub.mode) && uncoveredQueued s)
    || (s.hub.mode = .print && decide (coveredAhead s < horizonLines s 2))

/-- At most one write per 50 ms, except at ledger close. -/
def checkpointSpaced (s : State) : Bool :=
  match s.ldg.wroteAt with
  | some t => decide (t + 50 * tpMs ≤ s.now) || !s.ldg.open_
  | none => true

/-- CHECKPOINT_WRITE (R231). -/
def checkpointWrite (s : State) : State :=
  if checkpointDue s && checkpointSpaced s && s.ldg.writing.isNone then
    { s with ldg := { s.ldg with
      wanted := false, wroteAt := some s.now
      writing := some { hash := s.ldg.ackedHash, block := s.ldg.acked, nextSeq := s.ldg.ackedSeq,
                        ranges := (checkpointRanges s).map fun r => (BitVec.ofNat 64 r.1, r.2) } } }
  else s

def execCheckpointWrite (t : Time) (s : State) : Host.Outcome State Fault Refusal := atTime t checkpointWrite s

/-- CHECKPOINT_COMMIT: the record is committed on a device that works, or absent (R231, R338). -/
def checkpointCommit (ok0 ok1 : Bool) (s : State) : State :=
  match s.ldg.writing with
  | none => s
  | some c =>
    let g := onBothDevices ok0 ok1 2 { s with ldg := { s.ldg with writing := none } }
    let s := g.2
    if g.1 then { s with nvm := { s.nvm with checkpoint := some c }, ldg := { s.ldg with ckptCount := s.ldg.ckptCount + 1 } }
    else
      raise 0x3902 0x09 (leBytes 1 (b2n (!ok0) + b2n (!ok1)) ++ zeros 3
        ++ leBytes 8 (match s.nvm.checkpoint with | some k => k.block.getD 0 | none => 0))
        { s with ldg := { s.ldg with wanted := true } }

def execCheckpointCommit (t : Time) (ok0 ok1 : Bool) (s : State) : Host.Outcome State Fault Refusal :=
  atTime t (checkpointCommit ok0 ok1) s

/-! Delivery (R229, R230) -/

/-- Bytes of a frame in the ledger ring. -/
def frameBytes (b : Block) : Nat := 64 + (blockBytes b + 63) / 64 * 64

/-- A frame, or with length 0 a wrap frame. -/
def frameOf (phase : Bool) (b : Option Block) : Bytes :=
  match b with
  | none => zeros 4 ++ leBytes 4 (b2n phase) ++ zeros 56
  | some b => leBytes 4 (blockBytes b) ++ leBytes 4 (b2n phase) ++ leBytes 8 b.number ++ zeros 48
      ++ b.header.getD (zeros 320) ++ b.records.flatten

/-- Ring bytes that delivered, unacknowledged frames take. -/
def streamUsed (s : State) : Nat := sumNat (s.ldg.blocks.map fun b => match b.frame with | some f => f.2 | none => 0)

/-- LEDGER_FRAME_DELIVERY: the oldest sealed block not delivered goes into the ring once space is free. -/
def frameDelivery (ok : Bool) (s : State) : State :=
  let g := s.ldg.stream
  match s.ldg.blocks.find? fun b => b.header.isSome && b.frame.isNone with
  | none => s
  | some b =>
    let len := frameBytes b
    let wrap := decide (g.size < g.offset + len)
    let used := if wrap then g.size - g.offset + len else len
    if !g.enabled || decide (g.size < len) || decide (g.size < streamUsed s + used) then s
    else if !ok || !dmaOk s then
      raise 0x2904 0x09 (leBytes 8 b.number ++ leBytes 8 (g.base + (if wrap then 0 else g.offset)))
        { s with ldg := { s.ldg with stream := { g with enabled := false, error := true } } }
    else
      let s := if wrap && decide (g.offset < g.size) then send (.ledger g.offset (frameOf g.phase none)) s else s
      let at_ := if wrap then 0 else g.offset
      let ph := if wrap then !g.phase else g.phase
      let s := send (.ledger at_ (frameOf ph (some b))) s
      { s with ldg := { s.ldg with
        stream := { g with offset := at_ + len, phase := ph }
        blocks := s.ldg.blocks.map fun x => if x.number = b.number then { x with frame := some (at_, used) } else x } }

def execLedgerFrameDelivery (t : Time) (ok : Bool) (s : State) : Host.Outcome State Fault Refusal :=
  atTime t (frameDelivery ok) s

/-- Blocks up to b are acknowledged: they and the tickets whose records they hold are held no more (R216, R230). -/
def ackBlocks (b : Nat) (s : State) : State :=
  match s.ldg.blocks.find? fun x => x.number = b with
  | none => s
  | some x =>
    let seq := x.firstSeq + x.records.length
    let lastRecovered := s.ldg.recoveredBlocks.getLast? = some b
      || (s.ldg.recoveredBlocks.any fun r => decide (r ≤ b)) && !(s.ldg.recoveredBlocks.any fun r => decide (b < r))
    let gone (k : Ticket) : Bool := 3 ≤ k.state && (match k.seq with | some q => decide (q < seq) | none => false)
    let s := { s with ldg := { s.ldg with
      blocks := s.ldg.blocks.filter fun y => decide (b < y.number)
      acked := some b, ackedHash := sha256 (x.header.getD []), ackedSeq := seq
      tickets := s.ldg.tickets.filter fun k => !gone k
      recoveredIds := if lastRecovered then [] else s.ldg.recoveredIds
      recoveredBlocks := if lastRecovered then [] else s.ldg.recoveredBlocks
      wanted := s.ldg.wanted || lastRecovered } }
    if s.ldg.storageFull ∧ 2 ^ 20 ≤ ledgerFree s then
      clearSafe 5 0x09 { s with ldg := { s.ldg with storageFull := false } }
    else s

/-! Recovery after power loss (R235) -/

/-- Groups of at most 4,096. -/
def groups {α : Type} : Nat → List α → List (List α)
  | 0, _ => []
  | n + 1, l => if l.length ≤ 4096 then [l] else l.take 4096 :: groups n (l.drop 4096)

/-- Recovery step 1: the blocks of INDETERMINATE records from the newest committed checkpoint. -/
def ledgerRecover (s : State) : State :=
  match s.nvm.checkpoint with
  | none => s
  | some c =>
    let ids := (c.ranges.flatMap fun r => (upTo r.2).map fun i => BitVec.ofNat 64 (r.1.toNat + i))
    let first := match c.block with | some b => b + 1 | none => 0
    let one (i : Nat) (id : BitVec 64) : Ticket :=
      { id := id, page := 0, row := 0, lane := 0, state := 6, flags := 1024, begun := false, seq := some (c.nextSeq + i),
        own := some (c.nextSeq + i) }
    let tickets := ids.mapIdx one
    let close (i : Nat) : Time := s.now + (i + 1) * ldgCycle
    let block (g : Nat) (ts : List Ticket) : Block :=
      { number := first + g, firstSeq := c.nextSeq + 4096 * g, openTime := if g = 0 then s.now else close (4096 * g - 1) + 1,
        closeTime := if ts.isEmpty then s.now else close (4096 * g + ts.length - 1) + 1, cause := 5, recovered := true,
        mapOpen := s.grt.gen, mapClose := s.grt.gen,
        records := ts.mapIdx fun i k => stampRecord (c.nextSeq + 4096 * g + i) (close (4096 * g + i)) (ticketRecord k) }
    let bs := (groups (tickets.length + 1) tickets).mapIdx block
    { s with ldg := { s.ldg with
      tickets := tickets, blocks := bs, nextBlock := first + bs.length, nextSeq := c.nextSeq + ids.length,
      lastClose := if ids.isEmpty then s.ldg.lastClose else close (ids.length - 1),
      prevHash := c.hash, acked := c.block, ackedHash := c.hash, ackedSeq := c.nextSeq, recoveryUnsealed := true,
      recoveredIds := c.ranges, recoveredBlocks := bs.map (·.number),
      stateCount := tmod 0 s.ldg.stateCount 3 (· + BitVec.ofNat 32 ids.length) } }

/-- Recovery step 2 at the FEATURE_ACCEPT instant: blocks that need no signature are sealed. -/
def recoverySeal (s : State) : State := recoveredReport (sealClosed s.ldg.blocks.length s)

/-- Recovery step 3: with the ring CLOSED, BROKEN or SPLIT the recovered ranges go out with origin reason 9. -/
def recoveryBroadcast (s : State) : State :=
  let st := s.rng.state
  if !s.ldg.recoveredSent && !s.ldg.recoveredIds.isEmpty && (st = .closed || st = .broken || st = .split) then
    let ids := s.ldg.recoveredIds.flatMap fun r =>
      (upTo ((r.2 + 65534) / 65535)).map fun i =>
        ({ first := BitVec.ofNat 64 (r.1.toNat + 65535 * i),
           count := BitVec.ofNat 16 (min 65535 (r.2 - 65535 * i)) } : TicketRange)
    broadcastRanges 9 ids { s with ldg := { s.ldg with recoveredSent := true } }
  else s

/-! Mode changes (R225) -/

/-- The ledger is open in these modes (R225). -/
def ledgerMode : Mode → Bool
  | .calibrate | .armed | .print | .drain => true
  | _ => false

/-- The ledger closes at a transition: tickets that wait only for their verdict close, then the block (R218, R225). -/
def closeLedger (cause : Nat) (s : State) : State :=
  let s := each (s.ldg.tickets.filter fun k => k.state = 2 && fireComplete s k)
    (fun k => closeTicket { k with state := 4, flags := k.flags ||| 512 }) s
  closeAt cause s.now false { s with ldg := { s.ldg with open_ := false, wanted := true } }

/-- The ledger follows a mode change. -/
def ledgerTransition (new : Mode) (s : State) : State :=
  if ledgerMode new then (if s.ldg.open_ then s else openLedger s)
  else if s.ldg.open_ then closeLedger (if new = .safe then 3 else 2) s else s

/-! The REJECT pin (R236) -/

/-- A marked row's window holds the active line position at the active encoder's last count. -/
def rejectActive (s : State) : Bool :=
  let q := webLine s (encOf s (activeEnc s)).lastEdge
  hasFeature s 14 && s.ldg.rejects.any fun r => decide (r.mark ≠ 0) && decide (r.opens * 2 ^ 32 ≤ q) && decide (q < r.closes * 2 ^ 32)

/-- Level of the REJECT pin: its active level is configured. -/
def rejectPin (s : State) : Bool := rejectActive s != bit (u8 (ldgCfg s) 0) 3

/-! Commands -/

def ledgerModes : Mode → Bool := oneOf [.calibrate, .armed, .print, .drain]

/-- LDG_CONFIG_SET (0x0701) (R236). -/
def ldgConfigSetSpec : CmdSpec where
  opcode := 0x0701
  modes := setupModes
  len := (· == 24)
  feature := fun p s => !bit (u8 p 0) 0 || hasFeature s 14
  value := fun p _ =>
    within (u8 p 0) 0 15 && u8 p 1 == 0 && within (u32 p 4) 0 16777215 && zeroAt p 10 2 && within (u32 p 12) 256 16777215
      && within (u16 p 16) 200 5000 && zeroAt p 18 6
      && (!bit (u8 p 0) 0 || decide (u32 p 12 + u16 p 2 ≤ u32 p 4))
  apply := fun c _ s => done (cfgSet .ldgConfig (slice c.params 0 24) s)

/-- LDG_STREAM_SET (0x0702) (R229). -/
def ldgStreamSetSpec : CmdSpec where
  opcode := 0x0702
  modes := anyMode
  len := (· == 16)
  value := fun p s =>
    let g := s.ldg.stream
    u64 p 0 % 4096 == 0 && u32 p 8 % 4096 == 0 && within (u32 p 8) 0x00100000 0x40000000 && within (u8 p 12) 0 1
      && zeroAt p 13 3 && (!g.enabled || (u64 p 0 == g.base && u32 p 8 == g.size))
  apply := fun c _ s =>
    let p := c.params
    let g := s.ldg.stream
    if !bit (u8 p 12) 0 then done { s with ldg := { s.ldg with
      stream := { g with base := u64 p 0, size := u32 p 8, enabled := false } } }
    else if g.enabled then done s
    else done { s with ldg := { s.ldg with
      stream := { base := u64 p 0, size := u32 p 8, enabled := true }
      blocks := s.ldg.blocks.map fun b => { b with frame := none } } }

/-- A number at or below the last acknowledged block. -/
def ackedAlready (s : State) (b : Nat) : Bool :=
  match s.ldg.acked with
  | some a => decide (b ≤ a)
  | none => false

/-- LDG_BLOCK_ACK (0x0703) (R230). -/
def ldgBlockAckSpec : CmdSpec where
  opcode := 0x0703
  modes := anyMode
  len := (· == 8)
  value := fun p s =>
    ackedAlready s (u64 p 0) || s.ldg.blocks.any fun b => b.number == u64 p 0 && b.header.isSome && b.frame.isSome
  apply := fun c _ s => done (if ackedAlready s (u64 c.params 0) then s else ackBlocks (u64 c.params 0) s)

/-- LDG_TICKET_QUERY's reply. -/
def ticketReply (s : State) (id : Nat) : Bytes :=
  let b := BitVec.ofNat 64 id
  match findTicket s b with
  | some k =>
    leBytes 8 id ++ leBytes 1 k.state ++ leBytes 1 (if k.state = 5 then k.reason else 0) ++ zeros 2 ++ leBytes 4 k.flags
      ++ leBytes 8 (k.seq.getD 0)
  | none =>
    let waits := s.rng.pendingVoid.any fun p => p.ids.contains b
    let st := if (findScheduled s b).isSome then 1 else if waits then 7 else 0
    leBytes 8 id ++ leBytes 1 st ++ zeros 15

/-- LDG_TICKET_QUERY (0x0704) (R216). -/
def ldgTicketQuerySpec : CmdSpec where
  opcode := 0x0704
  modes := anyMode
  isRead := true
  len := (· == 8)
  apply := fun c _ s => withResult (ticketReply s (u64 c.params 0)) s

/-- The ranges of an LDG_VOID. -/
def voidRanges (p : Bytes) : List TicketRange := (upTo (u8 p 0)).map fun i =>
  { first := BitVec.ofNat 64 (u64 p (8 + 16 * i)), count := BitVec.ofNat 16 (u16 p (16 + 16 * i)) }

/-- LDG_VOID (0x0705) (R217, R220). -/
def ldgVoidSpec : CmdSpec where
  opcode := 0x0705
  modes := ledgerModes
  len := fun n => decide (8 ≤ n)
  lenMatch := fun p => p.length == 8 + 16 * u8 p 0
  value := fun p _ => within (u8 p 0) 1 16 && zeroAt p 1 7
    && (upTo (u8 p 0)).all fun i => within (u16 p (16 + 16 * i)) 1 65535 && zeroAt p (18 + 16 * i) 6
  check := fun p s =>
    let unheld := (voidRanges p).filter fun r => (rangeIds r).any fun id => !held s id
    refuseIf (decide (1024 < s.rng.pendingVoid.length + unheld.length)) eNoResource
  apply := fun c _ s =>
    let rs := voidRanges c.params
    let s := each rs (fun r s =>
      let ids := rangeIds r
      let v := voidTickets (cause_ 6 s.now) (ids.filter (held s)) s
      let s := voidEvent 6 0 (v.1.map BitVec.toNat) v.2
      pendVoids (ids.filter fun id => !held s id) 0 6 s) s
    done (broadcastRanges 6 rs s)

/-- LDG_SEAL (0x0706) (R225). -/
def ldgSealSpec : CmdSpec where
  opcode := 0x0706
  modes := ledgerModes
  len := (· == 0)
  apply := fun _ _ s => done (closeBlock 4 s)

end Sys2Proof.Machine
end

