-- ==== Sys2Proof/Machine/HeadCode.lean ====
section
/-! DEFINITION. The lane code and the head link's blocks (10; R183 to R196): payload layouts, head time, scrambling and
stuffing. -/
namespace Sys2Proof.Machine

/-! Payloads: a field [msb:lsb] of the 128-bit payload (R183) -/

/-- A value in the field of `width` bits from bit `lsb`. -/
def place (v lsb width : Nat) : Nat := v % 2 ^ width * 2 ^ lsb

/-- A control block's payload: its type in [127:120] and its other fields (R188). -/
def controlPayload (type : Nat) (fields : List Nat) : BitVec 128 := BitVec.ofNat 128 (place type 120 8 + sumNat fields)

/-- A CTRL block with its subcode in [119:112] (R195). -/
def ctrlPayload (sub : Nat) (fields : List Nat) : BitVec 128 := controlPayload 3 (place sub 112 8 :: fields)

/-- The 24-bit sequence of a slot (R162, R190). -/
def seq24 (n : Int) : Nat := (n % 2 ^ 24).toNat

def idleBlock : BitVec 128 := controlPayload 0 []

/-- FIRE (R190). -/
def fireBlock (data cd resend : Bool) (gen : BitVec 32) (n : Int) (first second : Nat) : BitVec 128 :=
  controlPayload 2 [place (b2n data) 112 1, place (b2n cd) 113 1, place (b2n resend) 114 1, place gen.toNat 104 8,
    place (seq24 n) 80 24, place first 40 40, place second 0 40]

/-- DATA: byte k of the 16 in [127 - 8k : 120 - 8k] (R189). -/
def dataBlock (b : Bytes) : BitVec 128 := BitVec.ofNat 128 (leNat (padTo 16 b).reverse)

/-- TIME, downstream (R193). -/
def timeBlock (tag : BitVec 8) (t1 fraction : Nat) (rate : Int) (d : Int) : BitVec 128 :=
  controlPayload 1 [place tag.toNat 112 8, place t1 72 40, place fraction 59 13, place (ofSigned 24 rate) 35 24,
    place d.toNat 15 20]

/-- REVOKE (R195). -/
def revokeBlock (gen : BitVec 32) (n : Int) (discard : Bool) : BitVec 128 :=
  ctrlPayload 1 [place gen.toNat 104 8, place (seq24 n) 80 24, place (b2n discard) 72 1]

/-- SKIP. -/
def skipBlock (n : Int) (count : Nat) : BitVec 128 := ctrlPayload 2 [place (seq24 n) 80 24, place count 64 16]

/-- WAVEFORM: at once, or from one sequence for each row. -/
def waveBlock (index : Nat) (immediate : Bool) (rows : List Int) : BitVec 128 :=
  ctrlPayload 3 [place index 108 4, place (b2n immediate) 104 1, place (seq24 (rows.getD 0 0)) 80 24,
    place (seq24 (rows.getD 1 0)) 56 24, place (seq24 (rows.getD 2 0)) 32 24, place (seq24 (rows.getD 3 0)) 8 24]

/-- LINE_CHECK. -/
def checkBlock (n : Int) (cd : Bool) (crc : Nat) : BitVec 128 :=
  ctrlPayload 4 [place (seq24 n) 80 24, place (b2n cd) 79 1, place crc 40 32]

/-- FAILOVER. -/
def failoverBlock (n : Int) (survivorB : Bool) : BitVec 128 := ctrlPayload 5 [place (seq24 n) 80 24, place (b2n survivorB) 79 1]

/-- SPLIT. -/
def splitBlock (n : Int) : BitVec 128 := ctrlPayload 6 [place (seq24 n) 80 24]

/-- FLUSH. -/
def flushBlock (n : Int) : BitVec 128 := ctrlPayload 7 [place (seq24 n) 80 24]

def identReqBlock : BitVec 128 := ctrlPayload 8 []

/-- LOOP. -/
def loopBlock (enter : Bool) : BitVec 128 := ctrlPayload 9 [place (b2n enter) 104 1]

/-! Head time (R191, R192) -/

/-- Ticks of 2^-16 ns in one unit of head time, 125 ps. -/
def headUnit : Nat := 8192

/-- Head time of a device time. -/
def headTime (t : Time) : Nat := t / headUnit % 2 ^ 40

/-- Fraction of a device time below head time's unit, in 2^-16 ns. -/
def headFraction (t : Time) : Nat := t % headUnit

/-- A head-time value lies in the future of a present head time (R192). -/
def headFuture (i h : Nat) : Bool := decide ((i + 2 ^ 40 - h) % 2 ^ 40 < 2 ^ 39)

/-! Pairs (R182, R189) -/

/-- A pair's 544 bytes of a payload. -/
def pairBytes (payload : Bytes) (cd : Bool) : Bytes := slice payload (if cd then 544 else 0) 544

/-- The blocks of one pair of one slot, in the order of R189. -/
def pairBlocks (payload : Bytes) (instants : List Time) (gen : BitVec 32) (n : Int) (cd resend : Bool) :
    List (Bool × BitVec 128) :=
  let r := if cd then 2 else 0
  let b := pairBytes payload cd
  (false, fireBlock true cd resend gen n (headTime (instants.getD r 0)) (headTime (instants.getD (r + 1) 0)))
    :: (upTo 34).map (fun i => (true, dataBlock (slice b (16 * i) 16)))
    ++ [(false, checkBlock n cd (crc32c b))]

/-- The FIRE that re-arms a pair without data (R190, R200). -/
def rearmBlock (instants : List Time) (gen : BitVec 32) (n : Int) (cd : Bool) : BitVec 128 :=
  let r := if cd then 2 else 0
  fireBlock false cd true gen n (headTime (instants.getD r 0)) (headTime (instants.getD (r + 1) 0))

/-! The line (R183 to R185) -/

/-- The 128 payload bits, bit 127 first. -/
def payloadBits (p : BitVec 128) : List Bool := (upTo 128).map fun i => p.getLsbD (127 - i)

/-- The header bits, first sent first: 01 data, 10 control. -/
def headerBits (data : Bool) : List Bool := if data then [false, true] else [true, false]

/-- One bit through 1 + x^28 + x^31: the register holds the last 31 scrambled bits, the most recent first. -/
def scrambleBit (r : List Bool) (b : Bool) : Bool := b ^^ (r.getD 27 false ^^ r.getD 30 false)

/-- The register after a scrambled bit. -/
def shiftIn (r : List Bool) (b : Bool) : List Bool := (b :: r).take 31

/-- Scrambled bits and the register after them (R184). -/
def scramble : List Bool → List Bool → List Bool × List Bool
  | r, [] => ([], r)
  | r, b :: bs =>
    let o := scrambleBit r b
    let x := scramble (shiftIn r o) bs
    (o :: x.1, x.2)

/-- Descrambled bits and the register after them. -/
def descramble : List Bool → List Bool → List Bool × List Bool
  | r, [] => ([], r)
  | r, o :: os =>
    let x := descramble (shiftIn r o) os
    (scrambleBit r o :: x.1, x.2)

/-- Line bits with a stuff bit after every run of 48 (R185): the last bit sent and the length of its run come first. -/
def stuff : Bool → Nat → List Bool → List Bool
  | last, run, [] => if run = 48 then [(!last)] else []
  | last, run, b :: bs =>
    if run = 48 then
      (!last) :: b :: stuff b (if b = (!last) then 2 else 1) bs
    else b :: stuff b (if b = last then run + 1 else 1) bs

/-- The bits received with the stuff bits removed, and the number of stuff violations. -/
def unstuff : Bool → Nat → List Bool → List Bool × Nat
  | _, _, [] => ([], 0)
  | last, run, b :: bs =>
    if run = 48 then
      let x := unstuff b 1 bs
      (x.1, x.2 + b2n (b == last))
    else
      let x := unstuff b (if b = last then run + 1 else 1) bs
      (b :: x.1, x.2)

end Sys2Proof.Machine
end

