-- ==== Sys2Proof/Machine/HeadLink.lean ====
section
/-! DEFINITION. HLK (10): lanes and modules, time transfer, sending slots, receipts, failover, purging, and HLK's
commands. -/
namespace Sys2Proof.Machine

/-! Lanes and modules (R182, R204, R205) -/

def laneOf (s : State) (n : Nat) : Lane := tget {} s.hlk.lanes n
def setLane (n : Nat) (v : Lane) (s : State) : State := { s with hlk := { s.hlk with lanes := tset s.hlk.lanes n v } }
def moduleOf (s : State) (m : Nat) : HeadModule := tget {} s.hlk.modules m
def setModule (m : Nat) (v : HeadModule) (s : State) : State :=
  { s with hlk := { s.hlk with modules := tset s.hlk.modules m v } }

def laneCfg (s : State) (n : Nat) : Bytes := cfgGet s (.lane (Fin.ofNat 48 n))
def hlkCfg (s : State) : Bytes := cfgGet s .hlkConfig
def laneOperational (s : State) (n : Nat) : Bool := (laneOf s n).state == 3

/-- A lane that receives: LOCKED or OPERATIONAL. -/
def laneReceives (s : State) (n : Nat) : Bool := (laneOf s n).state == 2 || (laneOf s n).state == 3

/-- The operational lanes of a module. -/
def operationalLanes (s : State) (m : Nat) : List Nat := [2 * m, 2 * m + 1].filter (laneOperational s)

/-- SPLIT, SINGLE_A or SINGLE_B. -/
def moduleUsable (s : State) (m : Nat) : Bool := let st := (moduleOf s m).state; st == 2 || st == 3 || st == 4

/-- The module's sensors take part (R277). -/
def moduleAvailable (s : State) (m : Nat) : Bool := moduleUsable s m

def moduleAbsent (s : State) (m : Nat) : Bool := (moduleOf s m).state == 0

/-- A control block on a lane. -/
def sendControl (n : Nat) (p : BitVec 128) (s : State) : State := send (.block n false p) s

/-- A control block on every operational lane of a module (R201). -/
def sendModule (m : Nat) (p : BitVec 128) (s : State) : State := each (operationalLanes s m) (fun n => sendControl n p) s

/-- A control block on every operational lane of every present module. -/
def sendAll (p : BitVec 128) (s : State) : State := each (presentModules s) (fun m => sendModule m p) s

/-- Ticks of a number of lane blocks of 26.0 ns (R183). -/
def blockTicks (n : Nat) : Nat := n * 26 * tpNs

/-- One-way delay of a lane in ps: the mean of the last 16 round-trip delays (R193). -/
def laneDelay (s : State) (n : Nat) : Int :=
  let l := (laneOf s n).delays
  if l.isEmpty then 0 else l.foldl (· + ·) 0 / l.length

/-- Ticks from ps. -/
def psTicks (ps : Int) : Int := ps * 65536 / 1000

/-! Waveforms (R164, R201) -/

/-- The waveform index a module uses in a mode. -/
def modeWave (s : State) (m : Nat) : Nat :=
  match s.hub.mode with
  | .boot | .standby => idleWave s
  | .safe => safeWave s
  | _ => bandWave s (tget 0 (mapNow s).band m)

/-- Every row of a module changes its waveform at once. -/
def sendWave (m : Nat) (s : State) : State := sendModule m (waveBlock (modeWave s m) true []) s

/-- The modules whose waveform differs from what it was are told at once. -/
def wavesFollow (was s : State) : State :=
  each ((presentModules s).filter fun m => modeWave was m != modeWave s m) sendWave s

/-- Fixes bar lines of waiting changes, and tells modules of band changes whose line is newly fixed: first sequences
B - u (R164, R201). -/
def fixLines (s : State) : State :=
  let before := s.grt.changes
  let s := fixChangeLines s
  each (s.grt.changes.filter fun c => c.line.isSome && !before.contains c) (fun c s =>
    match c.change, c.line with
    | .band m b, some l => sendModule m (waveBlock (bandWave s b) false (rowList.map fun r => l - upstream s m r)) s
    | _, _ => s) s

/-- THM reports a module's band (R164): at once where nothing prints, from bar line B in PRINT and DRAIN. A second
change before B replaces the pending one. -/
def reportBand (m new : Nat) (s : State) : State :=
  match bandPending s m with
  | some c =>
    let s := { s with grt := { s.grt with changes := replaceBand m new s.grt.changes } }
    match c.line with
    | some l => sendModule m (waveBlock (bandWave s new) false (rowList.map fun r => l - upstream s m r)) s
    | none => s
  | none =>
    if s.hub.mode = .print ∨ s.hub.mode = .drain then
      fixLines { s with grt := { s.grt with
        changes := s.grt.changes ++ [{ change := .band m new, since := presentSlot s }] } }
    else
      let s := makeChange (.band m new) 0 0 s
      if s.hub.mode = .service ∨ s.hub.mode = .calibrate ∨ s.hub.mode = .armed then sendWave m s else s

/-- The waiting changes are applied at once; a module whose band changes by that is told (R153, R164). -/
def releaseBands (s : State) : State :=
  let l := (presentModules s).filter fun m => (bandPending s m).isSome
  each l sendWave (releaseChanges s)

/-! Equaliser presets (R211, R281) -/

/-- Receive preset of a lane for the present die band. -/
def wantedPreset (s : State) (n : Nat) : Nat :=
  let v : Int := u8 (laneCfg s n) 2 + s8 (cfgGet s .thermal) (8 + s.thm.dieBand)
  (max 0 (min 15 v)).toNat

/-- The presets are taken again; each changes at its lane's next IDLE block. -/
def presetsChange (s : State) : State :=
  each (upTo 48) (fun n s =>
    let v := laneOf s n
    let w := wantedPreset s n
    let next := if w = v.preset then none else some w
    if v.nextPreset = next then s else setLane n { v with nextPreset := next } s) s

/-- NEXT_IDLE_BLOCK: a waiting preset, and an accepted sampler correction, apply (R211, R269). -/
def nextIdleBlock (n : Nat) (s : State) : State :=
  let v := laneOf s n
  let s := setLane n { v with preset := v.nextPreset.getD v.preset, nextPreset := none } s
  match v.nextSampler with
  | none => s
  | some (p, q) =>
    let s := setLane n { laneOf s n with phase := p, volt := q, nextSampler := none } s
    each (s.cal.runs.filter fun r => r.state = 5 && r.type = 9 && r.target = n) (fun r => calApplied r.id 0 (presentSlot s)) s

/-! Voids by what a module's rows fired (R198, R199, R202) -/

/-- Bar columns of a module. -/
def moduleColumns (s : State) (m : Nat) : Int × Int := let o := originIn s (mapNow s) m; (o, o + 2175)

/-- The tickets whose area overlaps, in a module's columns, the bar lines that some rows fire in slots a to b. -/
def slotTickets (s : State) (m : Nat) (rows : List Nat) (a b : Int) : List (BitVec 64) :=
  let c := moduleColumns s m
  (rows.flatMap fun r => (areaTickets s (a + upstream s m r) (b + upstream s m r) c.1 c.2).map (·.id)).eraseDups

/-- They become VOID. -/
def voidSlots (reason : Nat) (t : Time) (m : Nat) (rows : List Nat) (a b : Int) (s : State) : State :=
  voidHere (cause_ reason t) (slotTickets s m rows a b) s

/-! Purging (R209) -/

/-- Rounding to 125 ps, halves up (R163). -/
def roundInstant (t : Int) : Time := ((t + 4096) / 8192 * 8192).toNat

/-- Instant of the purge line in a slot. -/
def purgeInstant (p : Purge) (n : Int) : Time := roundInstant (p.t0 + (n - p.first) * tpS / max 1 p.rate)

/-- A purge line's payload: every nozzle of each named row carries the code. -/
def purgePayload (p : Purge) : Bytes :=
  rowList.flatMap fun r => List.replicate 272 (BitVec.ofNat 8 (if bit p.rows r then p.code * 85 else 0))

/-- Slots of the purge that are not withdrawn: first and last. -/
def purgeSpan (p : Purge) : Int × Int := (p.first, match p.cut with | some c => c - 1 | none => p.first + p.count - 1)

def purgeModules (p : Purge) : List Nat := (upTo 24).filter fun m => bit p.modules m

/-- The purge ends early with a status: REVOKE with discard from the first line at least 2.0 µs ahead. -/
def purgeCut (status : Nat) (s : State) : State :=
  match s.hlk.purge with
  | none => s
  | some p =>
    if p.ending.isSome then s
    else
      let w := purgeSpan p
      let lines := (upTo p.count).map fun (i : Nat) => w.1 + (i : Int)
      let cut := (lines.find? fun n => decide (s.now + 2 * tpUs ≤ purgeInstant p n)).getD (w.2 + 1)
      let s := { s with hlk := { s.hlk with purge := some { p with ending := some status, cut := some cut } } }
      each (purgeModules p) (fun m s =>
        let h := moduleOf s m
        let drop : SentLine → SentLine := fun l => if cut ≤ l.slot then { l with withdrawn := true } else l
        sendModule m (revokeBlock s.esc.gen cut true) (setModule m { h with lines := h.lines.map drop } s)) s

/-- A named module's head demand reaches 4 (R287). -/
def purgeLimit (m : Nat) (s : State) : State :=
  match s.hlk.purge with
  | some p => if bit p.modules m then purgeCut 4 s else s
  | none => s

/-- Rounds the high-water mark up to the end of a receipt group (R162). -/
def raiseMark (s : State) : State :=
  { s with esc := { s.esc with hwm := max s.esc.hwm (64 * ((s.esc.taken + 64) / 64) - 1) } }

/-- PURGE_END: the last line has fired and every receipt is held (R209). -/
def purgeEnd (s : State) : State :=
  match s.hlk.purge with
  | none => s
  | some p =>
    let w := purgeSpan p
    let ms := purgeModules p
    let passed := decide (w.2 < w.1) || decide (purgeInstant p w.2 ≤ s.now)
    let sent := p.ending.isSome || ms.all fun m => decide (w.2 ≤ (moduleOf s m).sentTop)
    let receipted := ms.all fun m => !moduleUsable s m || !(moduleOf s m).lines.any fun l => !l.withdrawn && decide (p.first ≤ l.slot)
    if !(passed && sent && receipted) then s
    else
      let status := p.ending.getD (b2n p.mismatch)
      let fired := (w.2 - w.1 + 1).toNat - p.skips
      let s := each ms (fun m s => setModule m { moduleOf s m with lines := [] } s) s
      let s := raiseMark { s with hlk := { s.hlk with purge := none } }
      raise 0x1705 0x07 (leBytes 1 status ++ leBytes 3 p.modules ++ leBytes 4 fired ++ seBytes 8 p.first) s

def execPurgeEnd (t : Time) (s : State) : Host.Outcome State Fault Refusal := atTime t purgeEnd s

/-! Module states (R205, R208) -/

/-- A module enters a state: its sensors become available, its calibration runs lose their channel, and a purge that
names it ends. -/
def enterModule (m new : Nat) (s : State) : State :=
  let h := moduleOf s m
  if h.state = new then s
  else
    let was := moduleUsable s m
    let s := setModule m { h with state := new } s
    let now := moduleUsable s m
    let fresh := fun (o : Sensor) => { o with time := s.now }
    let sensors := tmod {} (tmod {} s.thm.sensors (16 + 2 * m) fresh) (17 + 2 * m) fresh
    let s := if now && !was then { s with thm := { s.thm with sensors := sensors } } else s
    let s := if !now && was then
        { s with thm := { s.thm with headDemand := tset s.thm.headDemand m 0 } }
      else s
    let s := if new = 5 then moduleSource m s else s
    match s.hlk.purge with
    | some p => if !now && bit p.modules m then purgeCut 5 s else s
    | none => s

/-- Outside ARMED, PRINT and DRAIN the module's state follows its operational lanes. -/
def evalModule (m : Nat) (s : State) : State :=
  let st := (moduleOf s m).state
  if st = 0 ∨ st = 6 then s
  else
    let a := laneOperational s (2 * m)
    let b := laneOperational s (2 * m + 1)
    let new := if a && b then 2 else if a then 3 else if b then 4 else 1
    let h := moduleOf s m
    enterModule m new (setModule m { h with timeB := !a && b } s)

/-- HLK's own MODE_SET with target DRAIN (R208): refused while a transition waits. -/
def linkDrain (s : State) : State :=
  if s.hub.mode = .print ∧ !transPending s then
    { s with hub := { s.hub with trans := some { target := .drain, due := .instant (hostInstant s.now), cause := 0, origin := 4,
                                                 seq := 0xFFFE, since := s.now } } }
  else s

/-- What the loss of a module does in PRINT and DRAIN: the voids and the drain (R208). -/
def lossEffects (m : Nat) (s : State) : State :=
  let c := moduleColumns s m
  let ids := (s.ldg.tickets.filter fun k => k.state = 2 && k.begun && decide (k.lo ≤ c.2) && decide (c.1 ≤ k.hi)).map (·.id)
  linkDrain (voidHere (cause_ 5 s.now) ids s)

/-- EV_HLK_MODULE_LOST: the module, the cause, the mode and the first slot not fired. -/
def moduleLost (m cause : Nat) (slot : Int) (s : State) : State :=
  raise 0x3702 0x07 (leBytes 1 m ++ leBytes 1 cause ++ leBytes 1 (modeCode s.hub.mode) ++ [0] ++ seBytes 8 slot) s

/-- What a loss does while the machine prints: its tickets, the drain and the REVOKE to the lanes that still work (R208). -/
def lossPrinting (m : Nat) (slot : Int) (s : State) : State :=
  sendModule m (revokeBlock s.esc.gen slot true) (lossEffects m s)

/-- A present module is lost in ARMED, PRINT or DRAIN; a REFUSED one keeps its state (R208). -/
def loseModule (m cause : Nat) (s : State) : State :=
  let slot := firstSlotFrom s (s.now + 2 * tpUs)
  let s := if (moduleOf s m).state = 6 then s else enterModule m 5 s
  let s := setModule m { moduleOf s m with lines := [], failover := none, lossCause := cause } s
  let firing := s.hub.mode = .print ∨ s.hub.mode = .drain
  closeTickets (moduleLost m cause slot (if firing then lossPrinting m slot s else s))

/-- A module becomes REFUSED (R203). -/
def refuseModule (m n reason : Nat) (i : Ident) (s : State) : State :=
  let s := enterModule m 6 s
  let s := setModule m { moduleOf s m with huntA := false, huntB := false } s
  let s := raise 0x3703 0x07 (leBytes 1 m ++ leBytes 1 n ++ leBytes 1 reason ++ [i.protocol] ++ leBytes 2 i.vendor.toNat
    ++ leBytes 2 i.product.toNat ++ [i.q, i.maxKhz] ++ zeros 2 ++ leBytes 4 i.serial.toNat) s
  if printingMode s.hub.mode then loseModule m 3 s else s

/-- A lane of a REFUSED module is in HUNT; once both have been, the module is DOWN. -/
def huntNoted (n : Nat) (s : State) : State :=
  let m := n / 2
  let h := moduleOf s m
  if h.state ≠ 6 then s
  else
    let h := if n % 2 = 0 then { h with huntA := true } else { h with huntB := true }
    let s := setModule m h s
    if h.huntA && h.huntB then enterModule m 1 s else s

/-- A lane enters HUNT. -/
def laneHunt (n : Nat) (s : State) : State :=
  let v := laneOf s n
  huntNoted n (setLane n { v with
    state := 1, ident := false, rxLock := false, echoes := 0, good := 0, over100 := 0, over1000 := 0, delays := [],
    departures := [], opSince := none } s)

/-! Sending a slot (R189, R197, R198) -/

/-- The lane that carries a pair in the module's state. -/
def pairLane (s : State) (m : Nat) (cd : Bool) : Nat :=
  match (moduleOf s m).state with
  | 3 => 2 * m
  | 4 => 2 * m + 1
  | _ => 2 * m + b2n cd

/-- Blocks that a slot takes on its busiest lane. -/
def slotBlocks (s : State) (m : Nat) (perPair : Nat) : Nat := if (moduleOf s m).state = 2 then perPair else 2 * perPair

/-- O of R197: slots sent whose last row instant plus 1.0 µs has not passed, less those withdrawn. -/
def occupancy (s : State) (h : HeadModule) : Nat :=
  (h.lines.filter fun l => !l.withdrawn && decide (s.now < maxTime l.instants + tpUs)).length

/-- Q as IDENT gave it. -/
def queueDepth (h : HeadModule) : Nat := match h.ident with | some i => i.q.toNat | none => 0

/-- The last of `blocks` blocks begun at `start` reaches the module in time (R198; log entry 52). -/
def inTime (s : State) (m blocks : Nat) (start : Time) (instants : List Time) : Bool :=
  let d := max (laneDelay s (pairLane s m false)) (laneDelay s (pairLane s m true))
  decide ((start : Int) + blockTicks (blocks - 1) + psTicks d + tpUs ≤ minTime instants)

/-- SKIP for one slot of a module; it is not sent any more. -/
def skipSlot (m : Nat) (n : Int) (s : State) : State :=
  let h := moduleOf s m
  let h := { h with sentTop := max h.sentTop n, lines := h.lines.filter fun l => l.slot ≠ n }
  sendModule m (skipBlock n 1) (setModule m h s)

/-- EV_HLK_LATE, at most once per module per millisecond: `k` more slots are late, from slot `n`. -/
def lateEvent (m : Nat) (n : Int) (k : Nat) (s : State) : State :=
  let h := moduleOf s m
  let r := rateHit s.now k n 0 h.late
  let s := setModule m { h with late := r.2 } s
  match r.1 with
  | some (c, f, _) => raise 0x2705 0x07 (leBytes 1 m ++ zeros 3 ++ leBytes 4 c ++ seBytes 8 f) s
  | none => s

/-- A slot cannot reach the module in time: SKIP, the event and the voids (R198). -/
def lateSlot (m : Nat) (n : Int) (s : State) : State :=
  let s := lateEvent m n 1 (skipSlot m n { s with hlk := { s.hlk with late := satInc 32 s.hlk.late } })
  match s.hlk.purge with
  | some p =>
    if (purgeModules p).head? = some m then { s with hlk := { s.hlk with purge := some { p with skips := p.skips + 1 } } } else s
  | none => voidSlots 5 s.now m rowList n n s

/-- The pairs of a slot leave, in the order of R189. -/
def sendPairs (m : Nat) (n : Int) (payload : Bytes) (instants : List Time) (gen : BitVec 32) (resend : Bool) (s : State) :
    State :=
  each [false, true] (fun cd s =>
    each (pairBlocks payload instants gen n cd resend) (fun b => send (.block (pairLane s m cd) b.1 b.2)) s) s

/-- Payload, instants and generation of a slot that is ready for a module. -/
def readySlot (s : State) (m : Nat) (n : Int) : Option (Bytes × List Time × BitVec 32) :=
  match s.hlk.purge with
  | some p =>
    let w := purgeSpan p
    if bit p.modules m ∧ w.1 ≤ n ∧ n ≤ w.2 then
      some (purgePayload p, List.replicate 4 (purgeInstant p n), s.esc.gen)
    else none
  | none =>
    if s.grt.slot < n then none
    else (findSlot s n).bind fun f => (slotInstants f m).map fun x => (payload s m n, x.rows, x.gen)

/-- A lower slot is ready for the module and not yet sent. -/
def lowerWaits (s : State) (m : Nat) (n : Int) : Bool :=
  let top := (moduleOf s m).sentTop
  match s.hlk.purge with
  | some p => decide (p.first < n) && decide (top < n - 1)
  | none => s.esc.slots.any fun f => decide (top < f.n) && decide (f.n < n) && (slotInstants f m).isSome

/-- SLOT_SEND (R197, R198). -/
def slotSend (m : Nat) (n : Int) (s : State) : State :=
  let h := moduleOf s m
  match readySlot s m n with
  | none => s
  | some (pay, ins, gen) =>
    if !moduleUsable s m || decide (n ≤ h.sentTop) || lowerWaits s m n || decide (queueDepth h ≤ occupancy s h) then s
    else if !inTime s m (slotBlocks s m 36) s.now ins then lateSlot m n s
    else
      let s := sendPairs m n pay ins gen false s
      let h := { h with sentTop := n, lines := h.lines ++ [{ slot := n, payload := pay, instants := ins, gen := gen }] }
      let s := setModule m h { s with hlk := { s.hlk with sentGen := gen }, esc := { s.esc with taken := max s.esc.taken n } }
      match s.hlk.purge with
      | some p => if n = p.first + p.count - 1 then
          sendModule m (flushBlock n) { s with hlk := { s.hlk with flush := some n } } else s
      | none => s

/-- FLUSH to every present module (R202). -/
def flushAll (n : Int) (s : State) : State := sendAll (flushBlock n) { s with hlk := { s.hlk with flush := some n } }

/-- SKIP of a slot to every present module (R166, R198). -/
def skipAll (n : Int) (s : State) : State := each ((presentModules s).filter (moduleUsable s)) (fun m => skipSlot m n) s

/-- HLK_SENT_SLOT: the highest slot sent to every module with an operational lane. -/
def sentSlot (s : State) : Int :=
  let l := ((presentModules s).filter fun m => !(operationalLanes s m).isEmpty).map fun m => (moduleOf s m).sentTop
  l.foldl min (l.headD (-1))

/-! Receipts (R202) -/

/-- A sequence of 24 bits at or below a slot, expanded. -/
def expandSeq (top : Int) (q : BitVec 24) : Int := top - (top - (q.toNat : Int)) % 2 ^ 24

/-- A line's payload as fired: blank pairs are zeros. -/
def firedPayload (l : SentLine) : Bytes :=
  (if l.blankAB then zeros 544 else slice l.payload 0 544) ++ (if l.blankCD then zeros 544 else slice l.payload 544 544)

/-- The lines of a receipt group that fire. -/
def groupLines (h : HeadModule) (g : Int) : List SentLine := h.lines.filter fun l => !l.withdrawn && decide (l.slot / 64 = g)

/-- The expected bitmap and receipt CRC of a group. -/
def expectedReceipt (h : HeadModule) (g : Int) : Nat × Nat :=
  let l := groupLines h g
  (sumNat (l.map fun x => 2 ^ (x.slot % 64).toNat), crc32c (l.flatMap fun x => leBytes 4 (lineCrc (firedPayload x))))

/-- The group is receipted: its lines are held no more, and tickets that waited for it may close. -/
def groupDone (m : Nat) (g : Int) (s : State) : State :=
  let h := moduleOf s m
  closeTickets (setModule m { h with
    group := (g % 2 ^ 16).toNat, lines := h.lines.filter fun l => decide (l.slot / 64 ≠ g) } s)

/-- A receipt that differs or is missing: voids, the event and the count (R202). -/
def receiptBad (m : Nat) (g : Int) (why received : Nat) (s : State) : State :=
  let h := moduleOf s m
  let l := groupLines h g
  let a := l.foldl (fun a x => min a x.slot) (64 * g + 63)
  let b := l.foldl (fun a x => max a x.slot) (64 * g)
  let e := expectedReceipt h g
  let s := setModule m { h with mismatched := satInc 16 h.mismatched }
    { s with hlk := { s.hlk with receiptErr := satInc 32 s.hlk.receiptErr } }
  let s := match s.hlk.purge with
    | some p => { s with hlk := { s.hlk with purge := some { p with mismatch := true } } }
    | none => voidSlots 5 s.now m rowList a b s
  raise 0x2703 0x07 (leBytes 1 m ++ leBytes 1 why ++ leBytes 2 (g % 2 ^ 16).toNat ++ leBytes 4 e.2 ++ leBytes 4 received) s

/-- RECEIPT_RECEIVED: the first copy of a group's receipt is checked. -/
def receiptReceived (n : Nat) (group : BitVec 16) (bitmap : BitVec 64) (crc : BitVec 32) (s : State) : State :=
  let m := n / 2
  let h := moduleOf s m
  match h.lines.find? fun l => decide ((l.slot / 64) % 2 ^ 16 = (group.toNat : Int)) with
  | none => s
  | some l =>
    let g := l.slot / 64
    let e := expectedReceipt h g
    let why := 2 * b2n (decide (e.1 ≠ bitmap.toNat)) + 4 * b2n (decide (e.2 ≠ crc.toNat))
    groupDone m g (if why = 0 then s else receiptBad m g why crc.toNat s)

/-- A group is complete: no later line joins it. -/
def groupComplete (s : State) (h : HeadModule) (g : Int) : Bool :=
  decide (64 * g + 63 ≤ h.sentTop) || (match s.hlk.flush with | some f => decide (f / 64 = g) | none => false)

/-- RECEIPT_TIMEOUT: no receipt 100 µs after the group's last row instant. -/
def receiptTimeout (m : Nat) (g : Int) (s : State) : State :=
  let h := moduleOf s m
  let l := groupLines h g
  let last := maxTime (l.map fun x => maxTime x.instants)
  if l.isEmpty || !groupComplete s h g || decide (s.now < last + 100 * tpUs) then s
  else groupDone m g (receiptBad m g 1 0 s)

/-- EV_HLK_LINE_ERR, at most once per module per millisecond: `k` more reports, the first for a slot and pair. -/
def lineErrEvents (m : Nat) (slot : Int) (what k : Nat) (s : State) : State :=
  let h := moduleOf s m
  let r := rateHit s.now k slot what h.lineErr
  let s := setModule m { h with lineErr := r.2 } s
  match r.1 with
  | some (c, f, w) => raise 0x2702 0x07 (leBytes 1 m ++ leBytes 1 (w / 256) ++ leBytes 1 (w % 256) ++ [0] ++ leBytes 4 c
      ++ seBytes 8 f) s
  | none => s

/-- LINE_ERR_RECEIVED: a pair was fired blank (R199). A second copy changes nothing. -/
def lineErr (n : Nat) (q : BitVec 24) (cd : Bool) (cause : Nat) (s : State) : State :=
  let m := n / 2
  let h := moduleOf s m
  let slot := expandSeq h.sentTop q
  match h.lines.find? fun l => l.slot = slot with
  | none => s
  | some l =>
    if (if cd then l.blankCD else l.blankAB) then s
    else
      let mark : SentLine → SentLine := fun x =>
        if x.slot = slot then (if cd then { x with blankCD := true } else { x with blankAB := true }) else x
      let s := setModule m { h with lines := h.lines.map mark }
        { s with hlk := { s.hlk with lineErrs := satInc 32 s.hlk.lineErrs } }
      let s := lineErrEvents m slot (256 * b2n cd + cause) 1 s
      if s.hlk.purge.isSome then s else voidSlots 5 s.now m (if cd then [2, 3] else [0, 1]) slot slot s

def execLineErrReceived (t : Time) (lane : Fin 48) (seq : BitVec 24) (pairCD : Bool) (cause : BitVec 7) (s : State) :
    Host.Outcome State Fault Refusal :=
  atTime t (lineErr lane.val seq pairCD cause.toNat) s

/-! Failover and restoration (R206, R207) -/

/-- The first slot whose earliest row instant lies at least 5.0 µs after the declaration; a purge line while purging. -/
def failoverSlot (s : State) : Int :=
  match s.hlk.purge with
  | some p =>
    let w := purgeSpan p
    ((upTo p.count).map fun (i : Nat) => w.1 + (i : Int)).find? (fun n => decide (s.now + 5 * tpUs ≤ purgeInstant p n)) |>.getD (w.2 + 1)
  | none => firstSlotFrom s (s.now + 5 * tpUs)

/-- Failover to the surviving lane: FAILOVER, then every slot from s_f onwards again with both pairs (R206). -/
def failover (m : Nat) (lostB : Bool) (cause : Nat) (tc : Time) (s : State) : State :=
  let sf := failoverSlot s
  let surv := 2 * m + b2n (!lostB)
  let s := { s with hlk := { s.hlk with failovers := s.hlk.failovers + 1 } }
  let h := moduleOf s m
  let s := setModule m { h with sf := sf, timeB := !lostB, failover := some (lostB, cause, s.now - tc, sf) } s
  let s := sendControl surv (failoverBlock sf (!lostB)) s
  let again := (moduleOf s m).lines.filter fun l => !l.withdrawn && decide (sf ≤ l.slot)
  (again.foldl (fun (a : Nat × State) l =>
    (a.1 + 1, if inTime a.2 m 72 (a.2.now + blockTicks (1 + 72 * a.1)) l.instants then
        sendPairs m l.slot l.payload l.instants l.gen true a.2
      else lateSlot m l.slot a.2)) (0, s)).2

/-- The module's state once an OPERATIONAL lane has stopped being so (R205, R206, R208). -/
def laneGone (n cause : Nat) (tc : Time) (s : State) : State :=
  let m := n / 2
  let st := (moduleOf s m).state
  let otherUp := laneOperational s (if n % 2 = 0 then n + 1 else n - 1)
  let lostB := n % 2 = 1
  if st = 2 then
    if printingMode s.hub.mode && !hasFeature s 2 then loseModule m 1 s
    else if otherUp then
      let s := enterModule m (if lostB then 3 else 4) s
      let s := setModule m { moduleOf s m with timeB := !lostB } s
      if hasFeature s 2 then failover m lostB cause tc s else s
    else if printingMode s.hub.mode then loseModule m 0 s
    else evalModule m s
  else if (st = 3 ∧ ¬lostB) ∨ (st = 4 ∧ lostB) then
    if printingMode s.hub.mode then loseModule m 0 s else evalModule m s
  else s

/-- Ends an eye scan by failure (R210): its event, or the calibration run it serves loses its channel. -/
def scanFails (n : Nat) (s : State) : State :=
  let v := laneOf s n
  match v.scan with
  | none => s
  | some (dwell, run) =>
    let s := setLane n { v with scan := none } s
    if run ≠ 0 then s
    else raise 0x1703 0x07 (leBytes 1 n ++ [1] ++ zeros 10 ++ leBytes 1 dwell) s

/-- A lane fails (R204): cause 1 LOCK, 2 SILENT, 3 REMOTE, 4 TIME, 5 ACK, 6 DELAY. -/
def failLane (n cause : Nat) (tc : Time) (s : State) : State :=
  let v := laneOf s n
  if v.state ≠ 2 ∧ v.state ≠ 3 then s
  else
    let s := setLane n { v with state := 4, cause := cause, failedAt := s.now, opSince := none, ident := false,
                                rxLock := false, lockLoss := if cause = 1 then satInc 16 v.lockLoss else v.lockLoss } s
    let s := laneSource n (scanFails n { s with hlk := { s.hlk with lastFail := tc } })
    let s := if v.state = 3 then laneGone n cause tc s else s
    raise 0x3701 0x07 (leBytes 1 n ++ leBytes 1 cause ++ leBytes 1 (moduleOf s (n / 2)).state ++ [0] ++ timeBytes tc) s

/-- LOCK_LOST (R186) and LANE_SILENCE (R187). -/
def execLockLost (t : Time) (lane : Fin 48) (lastValid : Time) (s : State) : Host.Outcome State Fault Refusal :=
  atTime t (failLane lane.val 1 lastValid) s

def execLaneSilence (t : Time) (lane : Fin 48) (lastValid : Time) (s : State) : Host.Outcome State Fault Refusal :=
  atTime t (failLane lane.val 2 lastValid) s

/-- Device time of a head time not later than now. -/
def pastTime (s : State) (h : Nat) : Time := (s.now / headUnit - (headTime s.now + 2 ^ 40 - h) % 2 ^ 40) * headUnit

/-- LANE_LOSS_RECEIVED on a module's other lane (R196, R204). -/
def execLaneLossReceived (t : Time) (lane : Fin 48) (lostB : Bool) (_highest : BitVec 24) (loss : BitVec 40) (s : State) :
    Host.Outcome State Fault Refusal :=
  atTime t (fun s => failLane (2 * (lane.val / 2) + b2n lostB) 3 (pastTime s loss.toNat) s) s

/-- LANE_RETRY: 1 ms after its failure a lane hunts again. -/
def laneRetry (n : Nat) (s : State) : State :=
  let v := laneOf s n
  if v.state = 4 ∧ v.failedAt + tpMs ≤ s.now then laneHunt n s else s

def execLaneRetry (t : Time) (lane : Fin 48) (s : State) : Host.Outcome State Fault Refusal := atTime t (laneRetry lane.val) s

/-- BLOCK_LOCK (R186). -/
def blockLock (n : Nat) (s : State) : State :=
  let v := laneOf s n
  if v.state = 1 then setLane n { v with state := 2 } s else s

def execBlockLock (t : Time) (lane : Fin 48) (s : State) : Host.Outcome State Fault Refusal := atTime t (blockLock lane.val) s

/-- The module goes back to SPLIT (R207). -/
def restoreModule (m : Nat) (s : State) : State :=
  let first := (moduleOf s m).sentTop + 1
  let s := enterModule m 2 s
  let s := setModule m { moduleOf s m with timeB := false } s
  let s := if printingMode s.hub.mode then
      each [2 * m, 2 * m + 1] (fun n => sendControl n (splitBlock first)) s
    else s
  raise 0x1702 0x07 (leBytes 1 m ++ zeros 7 ++ seBytes 8 first) s

/-- A SINGLE module whose two lanes are OPERATIONAL. -/
def restorable (s : State) (m : Nat) : Bool :=
  ((moduleOf s m).state == 3 || (moduleOf s m).state == 4) && laneOperational s (2 * m) && laneOperational s (2 * m + 1)

/-- RESTORE_HOLD_EXPIRY (R207): with auto_restore, once the recovered lane has held for restore_hold. -/
def restoreHold (m : Nat) (s : State) : State :=
  let recovered := if (moduleOf s m).state = 3 then 2 * m + 1 else 2 * m
  let held := match (laneOf s recovered).opSince with
    | some t => decide (t + u16 (hlkCfg s) 2 * tpMs ≤ s.now)
    | none => false
  if bit (u8 (hlkCfg s) 1) 0 && restorable s m && held then restoreModule m s else s

def execRestoreHoldExpiry (t : Time) (m : Fin 24) (s : State) : Host.Outcome State Fault Refusal := atTime t (restoreHold m.val) s

/-- A lane becomes OPERATIONAL once every condition of R204 holds. -/
def tryOperational (n : Nat) (s : State) : State :=
  let v := laneOf s n
  if v.state = 2 ∧ v.ident ∧ v.rxLock ∧ 64 ≤ v.echoes ∧ 16 ≤ v.good ∧ laneDelay s n ≤ 900000 then
    let m := n / 2
    let s := setLane n { v with state := 3, opSince := some s.now } s
    let s := if !printingMode s.hub.mode ∨ (moduleOf s m).state = 1 then evalModule m s else s
    let s := sendControl n (waveBlock (modeWave s m) true []) s
    let serial := match (moduleOf s m).ident with | some i => i.serial.toNat | none => 0
    raise 0x1701 0x07 (leBytes 1 n ++ leBytes 1 (moduleOf s m).state ++ zeros 2 ++ leBytes 4 (laneDelay s n).toNat
      ++ leBytes 4 serial) s
  else s

/-! Time transfer (R193) -/

/-- TIME_BLOCK_SEND: a TIME block on every lane that transmits. -/
def timeBlockSend (s : State) : State :=
  each ((upTo 48).filter fun n => 1 ≤ (laneOf s n).state && (laneOf s n).state ≤ 4) (fun n s =>
    let v := laneOf s n
    let tag := v.tag + 1
    let d := laneDelay s n
    sendControl n (timeBlock tag (headTime s.now) (headFraction s.now) s.mer.rate d)
      (setLane n { v with tag := tag, departures := tset v.departures tag s.now } s)) s

def execTimeBlockSend (t : Time) (s : State) : Host.Outcome State Fault Refusal := atTime t timeBlockSend s

/-- Signed difference of two times modulo the wrap of head time, in ticks. -/
def headDiff (a b : Int) : Int := toSigned 53 ((a - b) % 2 ^ 53).toNat

/-- TIME_ECHO_RECEIVED: delay and time error of the lane (R193, R194). -/
def timeEcho (n : Nat) (tag : BitVec 8) (t2 fraction turnaround : Nat) (s : State) : State :=
  let v := laneOf s n
  if v.state ≠ 2 ∧ v.state ≠ 3 then s
  else match v.departures.find? fun x => x.1 = tag with
  | none => s
  | some (_, t1) =>
    let round : Int := ((s.now : Int) - t1 - turnaround) * 1000 / (2 * 65536)
    let v := { v with delays := (round :: v.delays).take 16, echoes := v.echoes + 1, departures := terase v.departures tag }
    let s := setLane n v s
    let d := laneDelay s n
    let err := headDiff (t2 * headUnit + fraction) ((t1 : Int) + psTicks d) * 1000 / 65536
    let in100 := decide (err.natAbs ≤ 100)
    let v := { v with
      timeErr := err, good := if in100 then v.good + 1 else 0, over100 := if in100 then 0 else v.over100 + 1,
      over1000 := if 1000 < err.natAbs then v.over1000 + 1 else 0 }
    let s := setLane n v s
    let s := if v.over100 = 16 then raise 0x2704 0x07 (leBytes 1 n ++ zeros 3 ++ seBytes 4 err) s else s
    if 4 ≤ v.over1000 then failLane n 4 s.now s
    else if v.state = 3 ∧ 900000 < d then failLane n 6 s.now s
    else tryOperational n s

def execTimeEchoReceived (t : Time) (lane : Fin 48) (tag : BitVec 8) (t2 : BitVec 40) (fraction : BitVec 13)
    (turnaround : BitVec 32) (s : State) : Host.Outcome State Fault Refusal :=
  atTime t (timeEcho lane.val tag t2.toNat fraction.toNat turnaround.toNat) s

/-! IDENT and STATUS (R196, R203) -/

/-- The first check of R203 that an IDENT fails on a lane. -/
def identFault (s : State) (n : Nat) (i : Ident) : Option Nat :=
  let other := if n % 2 = 0 then n + 1 else n - 1
  let otherSerial := (moduleOf s (n / 2)).ident.map (·.serial)
  if i.protocol ≠ 1 then some 1
  else if i.q.toNat < 64 then some 2
  else if s.grt.run && decide (i.maxKhz.toNat * 1000 < s.esc.nozzleRate) then some 3
  else if laneOperational s other && decide (otherSerial ≠ some i.serial) then some 4
  else if i.portB != decide (n % 2 = 1) then some 5
  else none

/-- IDENT on a lane that receives: accepted, or the module is REFUSED. -/
def identReceived (n : Nat) (i : Ident) (s : State) : State :=
  if !laneReceives s n || (moduleOf s (n / 2)).state == 0 then s
  else match identFault s n i with
  | some r => refuseModule (n / 2) n r i s
  | none =>
    let m := n / 2
    let s := setModule m { moduleOf s m with ident := some i } s
    tryOperational n (setLane n { laneOf s n with ident := true } s)

/-- Every IDENT already accepted is checked against the nozzle rate as bar geometry enters RUN (R203). -/
def identRecheck (s : State) : State :=
  each (presentModules s) (fun m s =>
    match (moduleOf s m).ident with
    | some i =>
      if (moduleUsable s m) && decide (i.maxKhz.toNat * 1000 < s.esc.nozzleRate) then refuseModule m (2 * m) 3 i s else s
    | none => s) s

/-- STATUS: receive locks, last readings, and fire fault (R196, R204, R208). THM takes the readings. -/
def statusLink (n : Nat) (st : HeadStatus) (s : State) : State :=
  let m := n / 2
  if !laneReceives s n then s
  else
    let h := moduleOf s m
    let s := setModule m { h with sensor0 := st.sensor0.getD h.sensor0, sensor1 := st.sensor1.getD h.sensor1 } s
    let s := setLane (2 * m) { laneOf s (2 * m) with rxLock := st.lockA } s
    let s := setLane (2 * m + 1) { laneOf s (2 * m + 1) with rxLock := st.lockB } s
    let s := tryOperational (2 * m + 1) (tryOperational (2 * m) s)
    if st.fireFault && printingMode s.hub.mode && moduleUsable s m then loseModule m 2 s else s

/-! Mode changes -/

/-- HLK follows a mode change: LOST modules, DOWN modules at ARMED, a purge that loses SERVICE, waveforms. -/
def hlkTransition (old new : Mode) (s : State) : State :=
  let s := if old = .service then purgeCut 3 s else s
  let s :=
    if printingMode old && !printingMode new then
      each (presentModules s) (fun m s => if (moduleOf s m).state = 5 then evalModule m (enterModule m 1 s) else evalModule m s) s
    else if new = .armed && !printingMode old then
      each (presentModules s) (fun m s =>
        let st := (moduleOf s m).state
        if st = 1 then loseModule m 4 s
        else if !hasFeature s 2 && (st == 3 || st == 4) then loseModule m 1 s else s) s
    else s
  wavesFollow { s with hub := { s.hub with mode := old } } { s with hub := { s.hub with mode := new } }

/-- PRINT is entered with a module LOST or REFUSED: R208 applies at its first slot, which is the first not fired. -/
def lostAtPrint (p : Int) (s : State) : State :=
  each ((presentModules s).filter fun m => (moduleOf s m).state == 5 || (moduleOf s m).state == 6) (fun m s =>
    moduleLost m (if (moduleOf s m).state = 6 then 3 else (moduleOf s m).lossCause) p (lossPrinting m p s)) s

/-- Modules at or above module_count are ABSENT. One that leaves ABSENT is DOWN and at once follows its operational
lanes, which have states of their own (R204, R205). -/
def presenceFollows (s : State) : State :=
  each (upTo 24) (fun m s =>
    if moduleCount s ≤ m then enterModule m 0 s
    else if (moduleOf s m).state = 0 then evalModule m (enterModule m 1 s)
    else s) s

/-! Commands -/

/-- GRT_BAR_SET (0x0301). -/
def grtBarSetSpec : CmdSpec where
  opcode := 0x0301
  modes := geometryModes
  len := (· == 8)
  value := fun p _ => within (u8 p 0) 1 24 && within (u8 p 1) 0 3 && withinI (s16 p 2) (-1024) 1023 && zeroAt p 4 4
  check := fun _ s => geometryBusy s
  apply := fun c _ s => done (presenceFollows (cfgSet .grtBar (slice c.params 0 8) s))

/-- HLK_CONFIG_SET (0x0501). -/
def hlkConfigSetSpec : CmdSpec where
  opcode := 0x0501
  modes := setupModes
  len := (· == 8)
  value := fun p _ => within (u8 p 0) 2 16 && within (u8 p 1) 0 1 && within (u16 p 2) 10 10000 && zeroAt p 4 4
  apply := fun c _ s => done (cfgSet .hlkConfig (slice c.params 0 8) s)

/-- A lane leaves service: its module follows its other lane. -/
def laneOut (n state : Nat) (s : State) : State :=
  let v := laneOf s n
  let s := scanFails n s
  let s := setLane n { laneOf s n with state := state, opSince := none, ident := false, rxLock := false } s
  if v.state = 3 then evalModule (n / 2) s else s

/-- HLK_LANE_SET (0x0502): the lane restarts through DISABLED and HUNT (R204). -/
def hlkLaneSetSpec : CmdSpec where
  opcode := 0x0502
  modes := setupModes
  len := (· == 8)
  value := fun p _ => within (u8 p 0) 0 47 && within (u8 p 1) 0 7 && within (u8 p 2) 0 7 && within (u8 p 3) 0 15 && zeroAt p 4 4
  apply := fun c _ s =>
    let n := u8 c.params 0
    let s := laneSource n (laneOut n 0 (cfgSet (.lane (Fin.ofNat 48 n)) (slice c.params 1 7 ++ [0]) s))
    let s := if bit (u8 c.params 1) 0 then laneHunt n s else s
    done (setLane n { laneOf s n with preset := wantedPreset s n, nextPreset := none, test := none } s)

/-- HLK_LANE_RESTORE (0x0503) (R207). -/
def hlkLaneRestoreSpec : CmdSpec where
  opcode := 0x0503
  modes := anyMode
  len := (· == 4)
  value := fun p _ => within (u8 p 0) 0 23 && zeroAt p 1 3
  check := fun p s => refuseIf (!restorable s (u8 p 0)) eBadMode
  apply := fun c _ s => done (restoreModule (u8 c.params 0) s)

def scansRunning (s : State) : Nat := ((upTo 48).filter fun n => (laneOf s n).scan.isSome).length

/-- HLK_EYE_SCAN (0x0504) (R211). -/
def hlkEyeScanSpec : CmdSpec where
  opcode := 0x0504
  modes := exceptSafe
  len := (· == 4)
  feature := fun _ s => !printingMode s.hub.mode || hasFeature s 15
  value := fun p _ => within (u8 p 0) 0 47 && within (u8 p 1) 6 12 && zeroAt p 2 2
  check := fun p s =>
    let n := u8 p 0
    firstOf [refuseIf (!laneReceives s n || (laneOf s n).scan.isSome
        || s.cal.runs.any fun r => r.type == 9 && r.target == n && decide (2 ≤ r.state) && decide (r.state ≤ 4)) eBadMode,
      refuseIf (decide (8 ≤ scansRunning s)) eNoResource]
  apply := fun c _ s =>
    let n := u8 c.params 0
    pendingDone (setLane n { laneOf s n with scan := some (u8 c.params 1, 0) } s)

/-- EV_HLK_EYE_DONE of a scan that completed (R211). -/
def eyeDone (n left right upper lower : Nat) (s : State) : State :=
  let v := laneOf s n
  match v.scan with
  | none => s
  | some (dwell, _) =>
    raise 0x1703 0x07 (leBytes 1 n ++ [0] ++ leBytes 1 (left + right) ++ [0] ++ leBytes 2 (upper + lower) ++ leBytes 1 left
      ++ leBytes 1 right ++ leBytes 2 upper ++ leBytes 2 lower ++ leBytes 1 dwell) (setLane n { v with scan := none } s)

/-- HLK_LANE_TEST (0x0505) (R212). -/
def hlkLaneTestSpec : CmdSpec where
  opcode := 0x0505
  modes := oneOf [.service]
  len := (· == 8)
  value := fun p _ => within (u8 p 0) 0 47 && within (u8 p 1) 0 2 && within (u16 p 2) 1 60000 && zeroAt p 4 4
  check := fun p s =>
    let st := (laneOf s (u8 p 0)).state
    refuseIf (st == 0 || st == 5 || (u8 p 1 == 2 && st != 3)) eBadMode
  apply := fun c _ s =>
    let n := u8 c.params 0
    let s := if u8 c.params 1 = 2 then sendControl n (loopBlock true) s else s
    let s := laneOut n 5 s
    pendingDone (setLane n { laneOf s n with
      test := some (u8 c.params 1, s.now + u16 c.params 2 * tpMs, (laneOf s n).lockLoss) } s)

/-- LANE_TEST_DONE: the result, and the lane hunts again (R204, R212). -/
def laneTestDone (n errors bitsCompared losses : Nat) (locked : Bool) (s : State) : State :=
  let v := laneOf s n
  match v.test with
  | none => s
  | some (loop, until_, _) =>
    if v.state ≠ 5 ∨ s.now < until_ then s
    else
      let s := if loop = 2 then sendControl n (loopBlock false) s else s
      let s := setLane n { v with test := none, lockLoss := min 0xFFFF (v.lockLoss + losses) } s
      let s := laneHunt n s
      let status := if !locked then 2 else if errors = 0 then 0 else 1
      raise 0x1704 0x07 (leBytes 1 n ++ leBytes 1 loop ++ leBytes 1 status ++ leBytes 1 (min 255 losses)
        ++ leBytes 4 (min 0xFFFFFFFF errors) ++ leBytes 8 bitsCompared) s

def execLaneTestDone (t : Time) (lane : Fin 48) (errors bitsCompared losses : Nat) (locked : Bool) (s : State) :
    Host.Outcome State Fault Refusal :=
  atTime t (laneTestDone lane.val errors bitsCompared losses locked) s

/-- HLK_MODULE_READ's reply. -/
def moduleReply (s : State) (m : Nat) : Bytes :=
  let h := moduleOf s m
  let a := laneOf s (2 * m)
  let b := laneOf s (2 * m + 1)
  let id := match h.ident with
    | some i => leBytes 1 (queueDepth h) ++ leBytes 1 (occupancy s h) ++ [i.protocol] ++ leBytes 2 i.vendor.toNat
        ++ leBytes 2 i.product.toNat ++ [i.hardware, i.maxKhz] ++ leBytes 1 i.highWave.toNat ++ [0] ++ leBytes 4 i.serial.toNat
    | none => zeros 15
  leBytes 1 m ++ leBytes 1 h.state ++ leBytes 1 a.state ++ leBytes 1 b.state ++ leBytes 1 (b2n h.timeB) ++ id
    ++ leBytes 4 (laneDelay s (2 * m)).toNat ++ leBytes 4 (laneDelay s (2 * m + 1)).toNat ++ seBytes 2 a.timeErr
    ++ seBytes 2 b.timeErr ++ seBytes 2 h.sensor0 ++ seBytes 2 h.sensor1 ++ leBytes 4 h.mismatched ++ seBytes 8 h.sf

/-- HLK_MODULE_READ (0x0506). -/
def hlkModuleReadSpec : CmdSpec where
  opcode := 0x0506
  modes := anyMode
  isRead := true
  len := (· == 4)
  value := fun p _ => within (u8 p 0) 0 23 && zeroAt p 1 3
  apply := fun c _ s => withResult (moduleReply s (u8 c.params 0)) s

/-- HLK_PURGE (0x0507) (R209). -/
def hlkPurgeSpec : CmdSpec where
  opcode := 0x0507
  modes := oneOf [.service]
  len := (· == 16)
  value := fun p s =>
    let mask := u32 p 4
    if u8 p 0 = 1 then zeroAt p 1 15
    else u8 p 0 == 0 && within (bits (u8 p 1) 3 0) 1 15 && within (bits (u8 p 1) 5 4) 1 3 && decide (u8 p 1 < 64) && zeroAt p 2 2
      && decide (0 < mask) && decide (mask < 2 ^ moduleCount s) && within (u32 p 8) 100 250000 && within (u16 p 12) 1 65535
      && zeroAt p 14 2 && decide (u32 p 8 ≤ profileRate s)
  check := fun p s =>
    if u8 p 0 = 1 then none
    else
      let ms := (upTo 24).filter fun m => bit (u32 p 4) m
      refuseIf (s.hlk.purge.isSome || ms.any fun m => !moduleUsable s m || decide (4 ≤ tget 0 s.thm.headDemand m)
        || (laneOf s (2 * m)).state == 5 || (laneOf s (2 * m + 1)).state == 5) eBadMode
  apply := fun c _ s =>
    let p := c.params
    if u8 p 0 = 1 then (if s.hlk.purge.isSome then pendingDone (purgeCut 2 s) else done s)
    else
      let first := s.esc.hwm + 1
      let n := u16 p 12
      pendingDone { s with
        esc := { s.esc with hwm := s.esc.hwm + n, taken := max s.esc.taken (s.esc.hwm + n), purged := true }
        hlk := { s.hlk with purge := some {
          modules := u32 p 4, rows := bits (u8 p 1) 3 0, code := bits (u8 p 1) 5 4, rate := u32 p 8, count := n,
          first := first, t0 := ceilTo tpUs (s.now + 200 * tpUs) } } }

end Sys2Proof.Machine
end

