-- ==== Sys2Proof/Machine/Escapement.lean ====
section
/-! DEFINITION. ESC (09): the fire instants, fixing and missing a slot, misprediction and revocation, stops, the
overspeed machine, line origin and high-water mark, and ESC's commands. -/
namespace Sys2Proof.Machine

def escCfg (s : State) : Bytes := cfgGet s .escConfig
def revokeThreshold (s : State) : Nat := u16 (escCfg s) 0
def maxLead (s : State) : Time := u8 (escCfg s) 2 * tpMs

/-- Run-ahead depth D: 16 while its feature is not accepted (R167). -/
def runAheadDepth (s : State) : Nat := u8 (recordSlot s .runAhead) 0

/-- Row offset ρ in units of 2^-15 line. -/
def rowOffset (s : State) (m r : Nat) : Int := s16 (cfgGet s (.rowOffset (Fin.ofNat 24 m))) (2 * r)

/-! The fire instant (R163) -/

/-- The routine's own scale: parts of a tick of 2^-16 ns. -/
def reachScale : Int := 2 ^ 32

/-- One Newton step of `reach`: f and its slope in lines of 2^-32; none where the web stops first. -/
def reachStep (d v a : Int) (t : Int) : Option Int :=
  let f := v * t / tpS + a * 2 ^ 32 * t * t / (2 * tpS * tpS * reachScale) - d * reachScale
  let df := v + a * 2 ^ 32 * t / (tpS * reachScale)
  if df ≤ 0 then none else some (t - f * tpS / df)

/-- `reach` of R163: the time after t0, in ticks times the scale, at which the web has moved `d`. -/
def reach (d v a : Int) : Option Int :=
  if v ≤ 0 ∨ d ≤ 0 then none
  else (reachStep d v a (d * tpS * reachScale / v)).bind (reachStep d v a)

/-- τ(x): when the active Regulator's state predicts that q reaches x, in ticks times the scale. -/
def reachAt (s : State) (x : Int) : Option Int :=
  let e := encOf s (activeEnc s)
  (reach (x - webLine s e.time) e.vel e.acc).map fun t => (e.time : Int) * reachScale + t

/-- Ticks times the scale of a time in ps. -/
def psScaled (ps : Int) : Int := ps * 65536 * reachScale / 1000

/-- Rounding to 125 ps, halves up. -/
def roundScaled (t : Int) : Time := ((t + 4096 * reachScale) / (8192 * reachScale) * 8192).toNat

/-- Boundary instant of a slot. -/
def boundaryInstant (s : State) (n : Int) : Option Time := (reachAt s (n * 2 ^ 32)).map roundScaled

/-- T(n, m, r): the band and the advance are those in force for the bar line that the row fires (R164, R165). -/
def rowInstant (s : State) (n : Int) (m r : Nat) : Option Time :=
  let v := mapAt s (n + upstream s m r)
  let advance : Int := bandLead s (tget 0 v.band m) + tget 0 v.timing (m, r)
  (reachAt s (n * 2 ^ 32 + rowOffset s m r * 2 ^ 17)).map fun t => roundScaled (t - psScaled advance)

/-- All values of a list, or none. -/
def allSome {α : Type} : List (Option α) → Option (List α)
  | [] => some []
  | none :: _ => none
  | some a :: r => (allSome r).map (a :: ·)

/-- The instants of a slot under the present Regulator state; none where the routine finds one unreachable. -/
def computeSlot (s : State) (n : Int) : Option FixedSlot :=
  match boundaryInstant s n with
  | none => none
  | some b =>
    (allSome ((presentModules s).map fun m =>
      (allSome (rowList.map (rowInstant s n m))).map fun rs => ({ module_ := m, gen := s.esc.gen, rows := rs } : ModuleInstants))).map
      fun ms => { n := n, boundary := b, modules := ms }

/-! Fixing (R166, R172) -/

/-- The largest lead among the bands in force on present modules, in ps. -/
def largestLead (s : State) : Nat :=
  let v := mapNow s
  ((presentModules s).map fun m => bandLead s (tget 0 v.band m)).foldl max 0

/-- The first slot of a print that is scheduled. -/
def scheduledSlot (s : State) : Option Int :=
  match s.hub.trans with
  | some t => if t.target = .print then s.esc.printSlot else none
  | none => none

/-- A head demand stands at 4: nothing of a print that is entered so fires (R286). -/
def hardStanding (s : State) : Bool := (upTo 24).any fun m => decide (4 ≤ tget 0 s.thm.headDemand m)

/-- Condition 1 of R166. -/
def mayFix (s : State) (n : Int) : Bool :=
  match s.esc.state with
  | 2 => true
  | 3 => match s.esc.endSlot with | some e => decide (n ≤ e) | none => false
  | 1 => match scheduledSlot s with | some p => decide (p ≤ n) && !hardStanding s | none => false
  | _ => false

/-- The active Regulator is LOCKED. -/
def activeLocked (s : State) : Bool := (encOf s (activeEnc s)).reg == 2

/-- Condition 2. -/
def webReady (s : State) : Bool := activeLocked s && webForward s

/-- Condition 3. -/
def nearEnough (s : State) (n : Int) : Bool :=
  let v := webVel s s.now
  decide (n * 2 ^ 32 - (runAheadDepth s : Int) * 2 ^ 32 - v * largestLead s / 1000000000000 ≤ webLine s s.now)

/-- Condition 4. -/
def leadOk (s : State) (f : FixedSlot) : Bool := decide (f.boundary ≤ s.now + maxLead s)

/-- Condition 5. -/
def earlyEnough (s : State) (f : FixedSlot) : Bool := decide (s.now + 2 * tpUs ≤ earliest f)

/-- Distance in slots over which a row's instants are compared (R172). -/
def spacingStep (s : State) (m : Nat) : Int := if interleaved s m && !s.grt.partner then 2 else 1

/-- The module whose row would fire sooner than its nozzle rate allows, if any (R172). -/
def spacingFault (s : State) (f : FixedSlot) : Option Nat :=
  (f.modules.find? fun x =>
    match (findSlot s (f.n - spacingStep s x.module_)).bind fun g => slotInstants g x.module_ with
    | none => false
    | some y => rowList.any fun r => decide ((x.rows.getD r 0 - y.rows.getD r 0) * s.esc.nozzleRate < tpS)).map (·.module_)

/-- HLK re-arms a line that a module already holds with its new instants (R200); late, it is skipped (R198). -/
def rearmModule (f : FixedSlot) (m : Nat) (s : State) : State :=
  let h := moduleOf s m
  match h.lines.find? (fun l => l.slot = f.n && !l.withdrawn), slotInstants f m with
  | some _, some x =>
    if !moduleUsable s m then s
    else if !inTime s m (slotBlocks s m 1) s.now x.rows then lateSlot m f.n s
    else
      let put : SentLine → SentLine := fun l => if l.slot = f.n then { l with instants := x.rows, gen := x.gen } else l
      let s := setModule m { h with lines := h.lines.map put } { s with hlk := { s.hlk with sentGen := x.gen } }
      each [false, true] (fun cd s => sendControl (pairLane s m cd) (rearmBlock x.rows x.gen f.n cd) s) s
  | _, _ => s

/-- Puts a slot among the fixed ones, in slot order. -/
def insertSlot (f : FixedSlot) : List FixedSlot → List FixedSlot
  | [] => [f]
  | g :: r => if f.n < g.n then f :: g :: r else if f.n = g.n then f :: r else g :: insertSlot f r

/-- A slot is fixed: its instants are handed to HLK (R166). -/
def takeSlot (f : FixedSlot) (s : State) : State :=
  let s := { s with esc := { s.esc with
    slots := insertSlot f s.esc.slots, handled := max s.esc.handled f.n, fixedTop := max s.esc.fixedTop f.n,
    taken := max s.esc.taken f.n } }
  each (presentModules s) (rearmModule f) s

/-- Bar lines and columns that a slot's rows would have fired: the tickets there become VOID with reason DATA; lines of
a row that has not begun are kept for its begin (log entry 53). -/
def spoilLines (flag : Nat) (l : List (Int × Int × Int)) (s : State) : State :=
  let ids := (l.flatMap fun x => (areaTickets s x.1 x.1 x.2.1 x.2.2).map (·.id)).eraseDups
  let s := if flag = 0 then s else flagTickets flag (fun k => ids.contains k.id) s
  let s := { s with mem := { s.mem with spoilt := s.mem.spoilt ++ (l.filter fun x => decide (s.mem.begunTo ≤ x.1)).map fun x => (x.1, x.2.1, x.2.2, flag) } }
  voidHere (cause_ 4 s.now) ids s

/-- EV_ESC_SLOT_MISSED, at most once per millisecond: `k` more slots are missed, from slot `n`. -/
def missedEvent (n : Int) (cause k : Nat) (s : State) : State :=
  let r := rateHit s.now k n cause s.esc.missedRate
  let s := { s with esc := { s.esc with missedRate := r.2 } }
  match r.1 with
  | some (c, f, k) => raise 0x2602 0x06 (seBytes 8 f ++ leBytes 4 c ++ leBytes 1 k) s
  | none => s

/-- A slot is missed (R166): causes 0 Regulator not LOCKED, 1 unreachable or beyond max_lead, 2 too late. -/
def missSlot (n : Int) (cause : Nat) (s : State) : State :=
  let s := { s with esc := { s.esc with handled := max s.esc.handled n, slots := s.esc.slots.filter fun f => f.n ≠ n } }
  let s := skipAll n s
  let v := mapNow s
  let lines := (presentModules s).flatMap fun m =>
    (rowList.map fun r => (n + upstream s m r, originIn s v m, originIn s v m + 2175)).eraseDups
  closeTickets (missedEvent n cause 1 (spoilLines 0 lines { s with esc := { s.esc with missed := satInc 32 s.esc.missed } }))

/-- Why a slot is missed at this instant, if it is: condition 5 can hold no more and conditions 1 to 4 have not all
held before. -/
def missCause (s : State) (n : Int) : Option Nat :=
  if !activeLocked s then
    match computeSlot s n with
    | some f => if earlyEnough s f then none else some 0
    | none => if decide (n * 2 ^ 32 ≤ webLine s s.now) then some 0 else none
  else match computeSlot s n with
    | some f => if earlyEnough s f then none else if leadOk s f then some 2 else some 1
    | none => if decide (n * 2 ^ 32 ≤ webLine s s.now) then some 1 else none

/-! Revocation (R169 to R171, R200) -/

/-- The first slot of a schedule whose earliest instant lies at or after an instant. -/
def revokeFrom (s : State) (detected : Time) : Option Int := firstFixedFrom s (detected + 2 * tpUs)

/-- Lanes that carry a REVOKE: the operational lanes of present modules. -/
def revokeLanes (s : State) : List Nat := (presentModules s).flatMap (operationalLanes s)

/-- The generation may not come 128 or more beyond one that still waits for an acknowledgement (R200). -/
def generationBlocked (s : State) : Bool :=
  s.esc.revokes.any fun r => (r.lanes.any (laneOperational s)) && decide (128 ≤ (s.esc.gen + 1 - r.gen).toNat)

/-- The slots that fire a ticket. -/
def ticketSlots (s : State) (k : Ticket) : Int × Int :=
  let l := (ticketModules s k).map fun m => lineSlots s m k.first k.pitch
  (l.foldl (fun a w => min a w.1) (k.first + k.pitch), l.foldl (fun a w => max a w.2) (k.first - 1))

/-- Tickets whose slots contain the revoke slot count it (R223). -/
def countRevoke (sr : Int) (s : State) : State :=
  { s with
    esc := { s.esc with revokedAt := sr :: s.esc.revokedAt }
    ldg := { s.ldg with tickets := s.ldg.tickets.map fun k =>
      let w := ticketSlots s k
      if k.begun ∧ k.state = 2 ∧ w.1 ≤ sr ∧ sr ≤ w.2 then { k with revokes := min 0xFFFF (k.revokes + 1) } else k } }

/-- A revocation begins: the generation advances, REVOKE goes out, the slots from `sr` are withdrawn. -/
def sendRevoke (sr : Int) (detected : Time) (discard : Bool) (s : State) : State :=
  let gen := s.esc.gen + 1
  let old := s.esc.slots.filter fun f => decide (sr ≤ f.n)
  let rec_ : Revoke := { gen := gen, slot := sr, detected := detected, discard := discard, lanes := revokeLanes s, old := old }
  let s := countRevoke sr s
  let s := { s with esc := { s.esc with
    gen := gen, revokeCount := s.esc.revokeCount + 1, revokes := s.esc.revokes ++ [rec_],
    slots := s.esc.slots.filter fun f => decide (f.n < sr) } }
  sendAll (revokeBlock gen sr discard) s

/-- Bytes 8 to 11 of EV_ESC_REVOKE: cause, slots revoked, error in nm. -/
def revokeDetail (cause slots : Nat) (err : Int) : Nat :=
  cause + 256 * min 255 slots + 65536 * ofSigned 16 (clampI (-32768) 32767 err)

/-- EV_ESC_REVOKE, at most one per millisecond: `k` more revocations, the first from slot `sr`. -/
def revokeReport (sr : Int) (what k : Nat) (s : State) : State :=
  let r := rateHit s.now k sr what s.esc.revokeRate
  let s := { s with esc := { s.esc with revokeRate := r.2 } }
  match r.1 with
  | some (c, f, w) => raise 0x1601 0x06 (seBytes 8 f ++ leBytes 4 w ++ leBytes 4 c) s
  | none => s

def revokeEvent (sr : Int) (cause slots : Nat) (err : Int) (s : State) : State :=
  revokeReport sr (revokeDetail cause slots err) 1 s

/-- Every fixed slot from `from_` on is withdrawn with its payload and never sent again. -/
def discardFrom (from_ : Int) (detected : Time) (s : State) : State :=
  if !s.esc.slots.any fun f => decide (from_ ≤ f.n) then s
  else
    let s := sendRevoke from_ detected true s
    let drop : SentLine → SentLine := fun l => if from_ ≤ l.slot then { l with withdrawn := true } else l
    each (presentModules s) (fun m s => let h := moduleOf s m; setModule m { h with lines := h.lines.map drop } s) s

/-! Stops (R174, R175, R177, R286) -/

/-- The stop slot, or none. -/
def stopSlotBytes (s : State) : Bytes :=
  match s.esc.stopSlot with
  | some n => seBytes 8 n
  | none => List.replicate 8 0xFF

/-- Firing stops from the first slot whose earliest row instant lies at least 2.0 µs after the cause; the tickets that
print become VOID. -/
def stopBy (c : VoidCause) (s : State) : State :=
  if s.esc.state ≠ 2 ∧ s.esc.state ≠ 3 then s
  else
    let stop := firstSlotFrom s (c.t + 2 * tpUs)
    let s := { s with esc := { s.esc with stopSlot := some stop, state := 4 } }
    let s := discardFrom stop c.t s
    let s := { s with esc := { s.esc with handled := max s.esc.handled stop } }
    voidPrinting c (flushAll (stop - 1) s)

def stopFiring (at_ : Time) (reason : Nat) (s : State) : State := stopBy (cause_ reason at_) s

/-- Void reason of an entry to SAFE (R25). -/
def safeReason (s : State) : Nat :=
  let w := safeWord s
  if bit w 4 then 1 else if bit w 0 || bit w 1 then 6 else 4

/-- The stop of an entry to SAFE: its voids rank before those of every other stop of the same instant (R177, R179), and
the ledger's reserve serves them (R233). -/
def safeStop (t : Time) (s : State) : State :=
  let s := { s with ldg := { s.ldg with reserve := true } }
  stopBy { cause_ (safeReason s) t with rank := 0 } s

/-- An entry to SAFE that is scheduled stops firing from its cause: every step of the print path begins with it. -/
def settleStop (s : State) : State :=
  match s.hub.auto with
  | some a =>
    if a.target = .safe ∧ (s.hub.mode = .print ∨ s.hub.mode = .drain) ∧ (s.esc.state = 2 ∨ s.esc.state = 3) then
      safeStop a.since s
    else s
  | none => s

/-- A step of the print path. -/
def atPrint (t : Time) (f : State → State) (s : State) : Host.Outcome State Fault Refusal :=
  atTime t (fun s => f (settleStop s)) s

/-! The overspeed machine (R172, R173) -/

/-- v in whole lines/s. -/
def rateNow (s : State) : Int := webVel s s.now / 2 ^ 32

/-- v compared with a percentage of L_lim. -/
def rateAtLeast (s : State) (percent : Nat) : Bool :=
  decide ((percent : Int) * s.esc.limit * 2 ^ 32 ≤ 100 * webVel s s.now)

/-- "Line rate below 97 % of the limit" (R23, R26, R173). -/
def rateOk (s : State) : Bool := s.esc.overspeed ≠ 2 && !rateAtLeast s 97

/-- Entry to TRIPPED: kind 0 rate, 1 row spacing with its module. In PRINT and DRAIN firing stops, which
EV_ESC_OVERSPEED_STOP reports, and the device drains (R173, R174). -/
def trip (kind module_ : Nat) (s : State) : State :=
  if s.esc.overspeed = 2 ∨ s.hub.mode = .boot then s
  else
    let s := { s with esc := { s.esc with overspeed := 2, qualify := 0 } }
    if s.hub.mode = .print ∨ s.hub.mode = .drain then
      let s := scheduleDrain 3 (autoDue s) (stopFiring s.now 2 s)
      raise 0x3601 0x06 (leBytes 1 kind ++ leBytes 1 module_ ++ zeros 2 ++ seBytes 4 (rateNow s) ++ stopSlotBytes s) s
    else s

/-- The machine at a count. -/
def overspeedCount (s : State) : State :=
  if s.hub.mode = .boot then s
  else
    let s := { s with esc := { s.esc with lowSince := if rateAtLeast s 95 then none else some (s.esc.lowSince.getD s.now) } }
    if s.esc.overspeed = 2 then s
    else if rateAtLeast s 100 then trip 0 0xFF s
    else if s.esc.overspeed = 0 && rateAtLeast s 95 then
      raise 0x2601 0x06 (seBytes 4 (rateNow s) ++ leBytes 4 s.esc.limit ++ seBytes 8 (presentSlot s))
        { s with esc := { s.esc with overspeed := 1 } }
    else s

/-- EV_ESC_OVERSPEED_CLEAR with the state entered. -/
def overspeedClear (new : Nat) (s : State) : State :=
  raise 0x1603 0x06 (leBytes 1 new ++ zeros 3 ++ seBytes 4 (rateNow s) ++ leBytes 4 s.esc.limit)
    { s with esc := { s.esc with overspeed := new } }

/-- OVERSPEED_WARN_CLEAR: v below 95 % for 10 ms. -/
def overspeedWarnClear (s : State) : State :=
  let held := match s.esc.lowSince with | some t => decide (t + 10 * tpMs ≤ s.now) | none => false
  if s.esc.overspeed = 1 && held && !rateAtLeast s 95 then overspeedClear 0 s else s

def execOverspeedWarnClear (t : Time) (s : State) : Host.Outcome State Fault Refusal := atTime t overspeedWarnClear s

/-- The ticket pitch of R173: of the current page, else of the queue head, else 256. -/
def ticketPitch (s : State) : Nat :=
  match (s.mem.current.bind (findPage s)), (s.mem.queue.head?.bind (findPage s)) with
  | some p, _ => pagePitch p
  | none, some p => pagePitch p
  | none, none => 256

/-- OVERSPEED_QUALIFIED: the qualifying run reaches one ticket pitch. -/
def overspeedQualified (s : State) : State :=
  if s.esc.overspeed = 2 && decide (ticketPitch s ≤ s.esc.qualify) then
    overspeedClear (if rateAtLeast s 95 then 1 else 0) s
  else s

def execOverspeedQualified (t : Time) (s : State) : Host.Outcome State Fault Refusal := atTime t overspeedQualified s

/-- The OVERSPEED pin's level. -/
def overspeedPin (s : State) : Bool := decide (s.esc.overspeed ≠ 0) != bit (u8 (escCfg s) 3) 0

/-! Tests (R169, R170) -/

/-- An error in nm, rounded down in size. -/
def errorNm (s : State) (e : Int) : Int := Int.tdiv (e * 25400000) (lpi s * 2 ^ 32)

/-- An error beyond revoke_threshold. -/
def beyond (s : State) (e : Int) : Bool := decide (revokeThreshold s * lpi s * 2 ^ 32 < e.natAbs * 25400000)

/-- ESC_MAX_ERR takes an error that did not revoke. -/
def noteError (e : Int) (s : State) : State :=
  { s with esc := { s.esc with maxErr := max s.esc.maxErr (min 0xFFFF (errorNm s e).natAbs) } }

/-- New instants for the withdrawn slots, in order (R170 step 4): a slot too late is missed; one that can no longer be
fixed, and all after it, stay unfixed; a spacing fault trips the overspeed machine. -/
def recompute : List FixedSlot → State → State
  | [], s => s
  | f :: rest, s =>
    let unfix (s : State) : State := { s with esc := { s.esc with handled := f.n - 1, fixedTop := f.n - 1 } }
    if !mayFix s f.n || !webReady s then unfix s
    else match computeSlot s f.n with
      | none => if decide (f.n * 2 ^ 32 ≤ webLine s s.now) then recompute rest (missSlot f.n 1 s) else unfix s
      | some g =>
        if !earlyEnough s g then recompute rest (missSlot f.n 2 s)
        else if !leadOk s g then unfix s
        else match spacingFault s g with
          | some m => trip 1 m (unfix s)
          | none => recompute rest (takeSlot g s)

/-- An error beyond the threshold begins a revocation (R170): cause 0 test A, 1 test B. -/
def revoke (cause : Nat) (e : Int) (s : State) : State :=
  match revokeFrom s s.now with
  | none => noteError e s
  | some sr =>
    if generationBlocked s then noteError e s
    else
      let old := s.esc.slots.filter fun f => decide (sr ≤ f.n)
      let s := sendRevoke sr s.now false s
      let s := recompute old s
      revokeEvent sr cause old.length (errorNm s e) s

/-- One test's outcome. -/
def judgeError (cause : Nat) (e : Int) (s : State) : State := if beyond s e then revoke cause e s else noteError e s

/-- The schedule position at an instant, between the two boundaries that bracket it (R169). -/
def schedulePosition (s : State) (t : Time) : Option Int :=
  match (s.esc.slots.filter fun f => decide (f.boundary ≤ t)).getLast?, s.esc.slots.find? fun f => decide (t < f.boundary) with
  | some a, some b =>
    some (a.n * 2 ^ 32 + (b.n - a.n) * 2 ^ 32 * ((t : Int) - a.boundary) / max 1 ((b.boundary : Int) - a.boundary))
  | _, _ => none

/-- The line position of a count of the active encoder. -/
def countLine (s : State) : Int :=
  let x := activeEnc s
  measured s x - (if s.enc.active1 then s.enc.offset else 0) - s.esc.origin

/-- Test A, at each count of the active encoder. -/
def testA (s : State) : State :=
  match schedulePosition s s.now with
  | none => s
  | some p => judgeError 0 (countLine s - p) s

/-- Test B, at each slot boundary. -/
def testB (s : State) : State :=
  match s.esc.slots.getLast? with
  | none => s
  | some f => judgeError 1 (webLine s f.boundary - f.n * 2 ^ 32) s

/-! Reversal (R175) -/

/-- The active encoder's direction becomes reverse while firing. -/
def reverseStop (s : State) : State :=
  if s.esc.state ≠ 2 ∧ s.esc.state ≠ 3 then s
  else
    let s := scheduleDrain 5 (autoDue s) (stopFiring s.now 3 s)
    raise 0x3602 0x06 (leBytes 1 (activeEnc s) ++ zeros 7 ++ stopSlotBytes s) s

/-! Line origin and high-water mark (R161, R162) -/

/-- A re-base: q equals the high-water mark at this instant. -/
def rebase (s : State) : State := { s with esc := { s.esc with origin := webPos s s.now - s.esc.hwm * 2 ^ 32 } }

/-- Re-base where a change made the active Regulator enter ACQUIRING from OFF, against the state before it. -/
def rebaseIfAcquired (before s : State) : State :=
  let x := activeEnc s
  if (encOf before x).reg = 0 ∧ (encOf s x).reg = 1 then rebase s else s

/-- What was scheduled is dropped. -/
def dropSchedule (s : State) : State :=
  { s with esc := { s.esc with slots := [], printSlot := none, endSlot := none, stopSlot := none, handled := s.esc.hwm } }

/-- ESC enters a state (R178); leaving FIRING, DRAINING or STOPPED for TRACKING or IDLE raises h_w and drops what was
scheduled. -/
def escEnter (new : Nat) (s : State) : State :=
  let old := s.esc.state
  let s := { s with esc := { s.esc with state := new } }
  if 2 ≤ old ∧ new < 2 then dropSchedule (raiseMark s) else s

/-- A transition into PRINT is overtaken: every slot fixed for it is withdrawn, and h_w is raised (R178). -/
def printOvertaken (s : State) : State :=
  let fixed := s.esc.slots ≠ []
  let s := match s.esc.slots with
    | [] => s
    | f :: _ => discardFrom f.n s.now s
  let s := { s with
    esc := { s.esc with printSlot := none, handled := s.esc.hwm, slots := [] }
    grt := { s.grt with asm := [] }
    mem := { s.mem with pitches := s.mem.pitches.filter (·.begun), placing := none, plan := [], spoilt := [] } }
  if fixed then let s := raiseMark s; { s with esc := { s.esc with handled := s.esc.hwm } } else s

/-- The active Regulator has entered OFF: ESC goes to IDLE (R178). A print stops first, as the SAFE cause of R121 asks,
and the slots below its stop slot still fire. -/
def idleIfOff (before s : State) : State :=
  let x := activeEnc s
  if s.esc.state ≠ 0 ∧ (encOf before x).reg ≠ 0 ∧ (encOf s x).reg = 0 then
    let s := settleStop s
    if 2 ≤ s.esc.state then raiseMark { s with esc := { s.esc with state := 0 } }
    else escEnter 0 (if (scheduledSlot s).isSome then printOvertaken s else s)
  else s

/-- What every step of ENC brings with it for ESC. -/
def followRegulator (before s : State) : State := rebaseIfAcquired before (idleIfOff before s)

/-- The first of up to `fuel` slots from `n` that satisfies a condition. -/
def searchSlot (good : Int → Bool) : Nat → Int → Option Int
  | 0, _ => none
  | k + 1, n => if good n then some n else searchSlot good k (n + 1)

/-- P for a transition into PRINT that is not due before an instant (R27): the first slot above h_w whose boundary lies
at or after it and whose earliest row instant, as predicted now, lies at least 10 µs after the validation. -/
def findPrintSlot (s : State) (notBefore validated : Time) : Option Int :=
  let good (n : Int) : Bool := match computeSlot s n with
    | some f => decide (notBefore ≤ f.boundary) && decide (validated + 10 * tpUs ≤ earliest f)
    | none => false
  let v := (max 0 (rateNow s)).toNat
  let ahead := 10 * tpUs * v / tpS + largestLead s * v / 1000000000000 + 1024
  searchSlot good ahead (max (s.esc.hwm + 1) (webLine s (max s.now notBefore) / 2 ^ 32))

/-- P is found again while no slot of the print has been fixed. -/
def placePrint (s : State) : State :=
  match s.hub.trans with
  | some t =>
    match t.due with
    | .print nb =>
      if s.esc.slots.any (fun f => decide (s.esc.fired < f.n)) && s.esc.printSlot.isSome then s
      else { s with esc := { s.esc with printSlot := findPrintSlot s nb t.since } }
    | _ => s
  | none => s

/-- The slot that is fixed or missed next. -/
def nextSlot (s : State) : Int :=
  match s.esc.state, s.esc.printSlot with
  | 1, some p => max (s.esc.handled + 1) p
  | _, _ => s.esc.handled + 1

/-! Acknowledgements (R171, R200, R204, R206) -/

/-- Slots from s_r to a - 1 fired on a module with the schedule that was withdrawn. -/
def keepOld (m : Nat) (r : Revoke) (a : Int) (s : State) : State :=
  let back (f : FixedSlot) : FixedSlot :=
    match (r.old.find? fun g => g.n = f.n).bind fun g => slotInstants g m with
    | some x => if f.n < a then { f with modules := f.modules.map fun y => if y.module_ = m then x else y } else f
    | none => f
  let lost := r.old.filter fun g => decide (g.n < a) && !(s.esc.slots.any fun f => f.n = g.n)
  let only : FixedSlot → FixedSlot := fun g => { g with modules := g.modules.filter fun x => x.module_ = m }
  let kept := (lost.foldl (fun l g => insertSlot (only g) l) s.esc.slots).map back
  let s := { s with esc := { s.esc with slots := kept } }
  let h := moduleOf s m
  let fix : SentLine → SentLine := fun l =>
    if decide (l.slot < a) && decide (r.slot ≤ l.slot) then
      match (r.old.find? fun g => g.n = l.slot).bind fun g => slotInstants g m with
      | some x => { l with instants := x.rows, gen := x.gen, withdrawn := false }
      | none => l
    else l
  setModule m { h with lines := h.lines.map fix } s

/-- A 24-bit sequence near a slot. -/
def nearSeq (n : Int) (q : BitVec 24) : Int := n + toSigned 24 (((q.toNat : Int) - n) % 2 ^ 24).toNat

/-- A REVOKE is acknowledged on a lane; the first answer of each module that comes after s_r reports what fired. -/
def revokeAck (n : Nat) (gen : BitVec 8) (q : BitVec 24) (s : State) : State :=
  match s.esc.revokes.find? fun r => r.gen.toNat % 256 = gen.toNat ∧ r.lanes.contains n with
  | none => s
  | some r =>
    let m := n / 2
    let a := nearSeq r.slot q
    let mark : Revoke → Revoke := fun x =>
      if x.gen = r.gen then { x with lanes := x.lanes.filter (· ≠ n), noted := m :: x.noted } else x
    let s := { s with esc := { s.esc with revokes := (s.esc.revokes.map mark).filter fun x => !x.lanes.isEmpty } }
    if r.slot < a ∧ !r.noted.contains m then
      raise 0x2603 0x06 (leBytes 1 m ++ zeros 3 ++ leBytes 4 (a - r.slot).toNat ++ seBytes 8 r.slot) (keepOld m r a s)
    else s

/-- FAILOVER is acknowledged: EV_HLK_FAILOVER (R206). -/
def failoverAck (n : Nat) (s : State) : State :=
  let m := n / 2
  let h := moduleOf s m
  match h.failover with
  | none => s
  | some (lostB, cause, late, sf) =>
    raise 0x2701 0x07 (leBytes 1 m ++ leBytes 1 (b2n lostB) ++ leBytes 1 cause ++ [0] ++ seBytes 8 sf
      ++ leBytes 4 (late / tpNs)) (setModule m { h with failover := none } s)

def execRevokeAckReceived (t : Time) (lane : Fin 48) (gen : BitVec 8) (a : BitVec 24) (failover : Bool) (s : State) :
    Host.Outcome State Fault Refusal :=
  atPrint t (fun s => if failover then failoverAck lane.val s else revokeAck lane.val gen a s) s

/-- REVOKE_ACK_TIMEOUT: 20 µs after the detection the lane fails with cause ACK; a failed lane answers for nothing. -/
def revokeAckTimeout (n : Nat) (s : State) : State :=
  match s.esc.revokes.find? fun r => r.lanes.contains n && decide (r.detected + 20 * tpUs ≤ s.now) with
  | none => s
  | some r =>
    let gone : Revoke → Revoke := fun x => { x with lanes := x.lanes.filter (· ≠ n) }
    let s := { s with esc := { s.esc with revokes := (s.esc.revokes.map gone).filter fun x => !x.lanes.isEmpty } }
    failLane n 5 r.detected s

def execRevokeAckTimeout (t : Time) (lane : Fin 48) (s : State) : Host.Outcome State Fault Refusal :=
  atPrint t (revokeAckTimeout lane.val) s

def execSlotSend (t : Time) (m : Fin 24) (n : Int) (s : State) : Host.Outcome State Fault Refusal :=
  atPrint t (slotSend m.val n) s

/-! DRAIN (R176) -/

/-- Entry to DRAIN: the end slot is set, what is fixed above it is withdrawn, and its group is flushed. After a stop the
Escapement stays STOPPED. -/
def drainFrom (e : Int) (s : State) : State :=
  let s := { s with esc := { s.esc with endSlot := some e } }
  if s.esc.state ≠ 2 then s
  else
    let s := { s with esc := { s.esc with state := 3 } }
    let from_ := max (e + 1) (firstSlotFrom s (s.now + 2 * tpUs))
    let n := (s.esc.slots.filter fun f => decide (from_ ≤ f.n)).length
    let s := if n = 0 then s else revokeEvent from_ 2 n 0 (discardFrom from_ s.now s)
    flushAll e s

/-- The last slot that a drain waits for: E, or the slot before the stop slot (R24). -/
def drainLast (s : State) : Option Int :=
  match s.esc.stopSlot with
  | some n => some (n - 1)
  | none => s.esc.endSlot

/-! Commands -/

/-- ESC_CONFIG_SET (0x0401). -/
def escConfigSetSpec : CmdSpec where
  opcode := 0x0401
  modes := setupModes
  len := (· == 8)
  value := fun p _ => within (u16 p 0) 50 10000 && within (u8 p 2) 1 100 && within (u8 p 3) 0 1 && zeroAt p 4 4
  apply := fun c _ s => done (cfgSet .escConfig (slice c.params 0 8) s)

/-- ESC_RUNAHEAD_SET (0x0402) (R167). -/
def escRunaheadSetSpec : CmdSpec where
  opcode := 0x0402
  modes := setupModes
  len := (· == 4)
  feature := fun _ s => hasFeature s 3
  value := fun p _ => within (u8 p 0) 16 96 && zeroAt p 1 3
  apply := fun c _ s => done (cfgSet .runAhead (slice c.params 0 4) s)

/-- Each value is below the next. -/
def increasing : List Int → Bool
  | a :: b :: r => decide (a < b) && increasing (b :: r)
  | _ => true

/-- ESC_HEAD_PROFILE_SET (0x0403). Modules at the idle or the safe waveform take the new one. -/
def escHeadProfileSetSpec : CmdSpec where
  opcode := 0x0403
  modes := setupModes
  len := (· == 96)
  value := fun p _ =>
    let n := u8 p 4
    within (u32 p 0) 1000 250000 && within n 1 8 && within (u16 p 6) 200 1200 && within (u8 p 8) 10 100
      && within (u8 p 9) 5 100 && within (u8 p 10) 1 255 && zeroAt p 11 21 && decide (u16 p 6 + u8 p 8 ≤ 1250)
      && decide (s16 p 32 = -400) && increasing ((upTo n).map fun b => s16 p (32 + 8 * b))
      && (upTo 8).all fun b =>
        if b < n then withinI (s16 p (32 + 8 * b)) (-400) 1200 && within (u8 p (34 + 8 * b)) 0 15 && u8 p (35 + 8 * b) == 0
          && decide (u32 p (36 + 8 * b) ≤ 1000000000)
        else zeroAt p (32 + 8 * b) 8
  apply := fun c _ s =>
    done (wavesFollow s (cfgSet .profile (slice c.params 0 96) s))

/-- ESC_ROW_OFFSET_SET (0x0404). -/
def escRowOffsetSetSpec : CmdSpec where
  opcode := 0x0404
  modes := setupModes
  len := (· == 12)
  value := fun p _ => within (u8 p 0) 0 23 && zeroAt p 1 3
  apply := fun c _ s => done (cfgSet (.rowOffset (Fin.ofNat 24 (u8 c.params 0))) (slice c.params 4 8) s)

/-- B of a module's pending band or timing change. -/
def pendingLine (s : State) (m : Nat) : Int :=
  match s.grt.changes.find? fun c => !c.inForce && c.line.isSome && (match c.change with
    | .band k _ => k == m
    | .timing k _ => k == m
    | _ => false) with
  | some c => c.line.getD 0
  | none => 0

/-- The pending band of a module, 0xFF if none. -/
def pendingBand (s : State) (m : Nat) : Nat :=
  match bandPending s m with
  | some c => match c.change with | .band _ b => b | _ => 0xFF
  | none => 0xFF

/-- ESC_TIMING_READ (0x0405). -/
def escTimingReadSpec : CmdSpec where
  opcode := 0x0405
  modes := anyMode
  isRead := true
  len := (· == 4)
  value := fun p _ => within (u8 p 0) 0 23 && zeroAt p 1 3
  apply := fun c _ s =>
    let m := u8 c.params 0
    let v := mapNow s
    let b := tget 0 v.band m
    withResult (leBytes 1 m ++ leBytes 1 b ++ leBytes 1 (bandWave s b) ++ leBytes 1 (pendingBand s m)
      ++ leBytes 4 (bandLead s b) ++ rowList.flatMap (fun r => seBytes 2 (rowOffset s m r))
      ++ rowList.flatMap (fun r => seBytes 4 (tget 0 v.timing (m, r))) ++ seBytes 8 (pendingLine s m)) s

end Sys2Proof.Machine
end

