-- ==== Sys2Proof/Machine/Thermal.lean ====
section
/-! DEFINITION. THM (14): sensors, substitution, Isotherms, throttle levels, the hard limit and die shutdown. -/
namespace Sys2Proof.Machine

def thmByte (s : State) (off : Nat) : Nat := u8 (cfgGet s .thermal) off

def sensorOf (s : State) (i : Nat) : Sensor := tget {} s.thm.sensors i

def setSensor (i : Nat) (v : Sensor) (s : State) : State :=
  { s with thm := { s.thm with sensors := tset s.thm.sensors i v } }

/-- Module and sensor number of a head sensor (R277). -/
def headModule (i : Nat) : Nat := (i - 16) / 2

/-- A sensor is available: a die sensor always, a head sensor while its module is not ABSENT, DOWN, LOST or REFUSED. -/
def available (s : State) (i : Nat) : Bool := decide (i < 16) || moduleAvailable s (headModule i)

/-- An available sensor that has given a reading. -/
def valueOf (s : State) (i : Nat) : Option Int := if available s i then (sensorOf s i).value else none

/-- Healthy: available with a reading and not failed. -/
def healthyValue (s : State) (i : Nat) : Option Int := if (sensorOf s i).failed then none else valueOf s i

/-- The neighbours of a sensor (R278). -/
def neighbours (s : State) (i : Nat) : List Nat :=
  if i < 16 then
    (if 4 ≤ i then [i - 4] else []) ++ (if i < 12 then [i + 4] else [])
      ++ (if i % 4 ≠ 0 then [i - 1] else []) ++ (if i % 4 ≠ 3 then [i + 1] else [])
  else
    let m := headModule i
    ([if i % 2 = 0 then i + 1 else i - 1] ++ (if 0 < m then [i - 2] else []) ++ (if m < 23 then [i + 2] else [])).filter
      (available s)

/-- The highest of some values. -/
def highest : List Int → Option Int
  | [] => none
  | a :: r => some (r.foldl max a)

/-- All sensors of a sensor's kind. -/
def sameKind (i : Nat) : List Nat := if i < 16 then upTo 16 else (upTo 48).map (· + 16)

/-- The value substituted for a failed sensor (R279). -/
def substitute (s : State) (i : Nat) : Option Int :=
  let m : Int := thmByte s 6
  match highest ((neighbours s i).filterMap (healthyValue s)) with
  | some v => some (v + m)
  | none => (highest ((sameKind i).filterMap (healthyValue s))).map (· + m)

/-- The effective value of a sensor (R279). -/
def effective (s : State) (i : Nat) : Option Int :=
  if !available s i then none
  else if (sensorOf s i).failed then substitute s i
  else (sensorOf s i).value

/-- The highest effective value among sensors, with its sensor. -/
def hottest (s : State) (l : List Nat) : Option (Int × Nat) :=
  l.foldl (fun a i => match effective s i, a with
    | some v, some (b, j) => if b < v then some (v, i) else some (b, j)
    | some v, none => some (v, i)
    | none, a => a) none

/-- T_m: the higher effective value of a module's two sensors. -/
def moduleTemp (s : State) (m : Nat) : Option (Int × Nat) := hottest s [16 + 2 * m, 17 + 2 * m]

/-- The highest band whose lower edge is at or below a temperature; band 0 below every edge. -/
def bandAt (edges : List Int) (t : Int) : Nat :=
  ((upTo edges.length).filter fun i => decide (edges.getD i 0 ≤ t)).foldl max 0

/-- The band rule of R281. -/
def nextBand (edges : List Int) (hysteresis : Int) (band : Nat) (t : Int) : Nat :=
  let up := bandAt edges t
  let down := bandAt edges (t + hysteresis)
  if band < up then up else if down < band then down else band

/-- The die band edges in 0.1 °C (R281). -/
def dieEdges : List Int := [-400, 400, 600, 750, 900, 1000]

/-! Levels (R283, R284) -/

/-- S, H, w and y of R283, in 0.1 °C. -/
def softLimit (s : State) : Int := profileSoft s
def hardLimit (s : State) : Int := profileSoft s + profileHard s
def warnMargin (s : State) : Int := thmByte s 2
def thermalHyst (s : State) : Int := profileHyst s

/-- Every available head sensor is below S - y: the release condition of levels 3 and 4. -/
def headsReleased (s : State) : Bool :=
  ((upTo 48).filterMap fun i => effective s (16 + i)).all fun v => decide (v < softLimit s - thermalHyst s)

/-- A module's head demand after a reading (R283). -/
def headDemandNow (s : State) (m : Nat) : Nat :=
  match moduleTemp s m with
  | none => 0
  | some (t, _) =>
    let cur := tget 0 s.thm.headDemand m
    let low := if softLimit s - warnMargin s ≤ t then 1 else 0
    if hardLimit s ≤ t then 4
    else if 3 ≤ cur then (if headsReleased s then low else if softLimit s ≤ t then max cur 3 else cur)
    else if softLimit s ≤ t then 3
    else if cur = 1 ∧ softLimit s - warnMargin s - thermalHyst s ≤ t then 1
    else low

/-- The die demand: level 1 in die band 4, level 2 in die band 5. -/
def dieDemand (s : State) : Nat := if s.thm.dieBand = 4 then 1 else if s.thm.dieBand = 5 then 2 else 0

/-- The highest head demand with its module. -/
def topDemand (s : State) : Nat × Nat :=
  (upTo 24).foldl (fun a m => let d := tget 0 s.thm.headDemand m; if a.1 < d then (d, m) else a) (0, 0xFF)

/-- The release condition of a floored level, with effective values (R284). -/
def levelReleased (s : State) (l : Nat) : Bool :=
  if 3 ≤ l then headsReleased s
  else if l = 2 then decide (s.thm.dieBand < 5)
  else decide (s.thm.dieBand < 4) && (upTo 24).all fun m =>
    match moduleTemp s m with
    | some (t, _) => decide (t < softLimit s - warnMargin s - thermalHyst s)
    | none => true

/-- Sets the device level and raises EV_THM_LEVEL on a change; entering level 3 sets the pause counter (R285). -/
def setLevel (new cause module_ : Nat) (temp : Int) (s : State) : State :=
  let old := s.thm.level
  if new = old then s
  else
    let counter := if new = 3 then profilePauseEvery s else s.thm.pauseCounter
    let s := { s with thm := { s.thm with level := new, levelTime := s.now, pauseCounter := counter } }
    raise 0x1D03 0x0D (leBytes 1 old ++ leBytes 1 new ++ leBytes 1 cause ++ leBytes 1 module_ ++ seBytes 2 temp) s

/-- The device level from the demands and the floor (R283, R284). -/
def evaluateLevel (s : State) : State :=
  let removed := match s.thm.floor with
    | some f => !s.thm.floorNew && levelReleased s f
    | none => false
  let s := { s with thm := { s.thm with floor := if removed then none else s.thm.floor, floorNew := false } }
  let top := topDemand s
  let d := dieDemand s
  let new := max (max top.1 d) (s.thm.floor.getD 0)
  let dieT := match hottest s (upTo 16) with | some v => v.1 | none => 0
  let headT := match moduleTemp s top.2 with | some v => v.1 | none => dieT
  let cause := if new < s.thm.level then (if removed then 5 else 4) else if top.1 < d then 0
    else if top.1 = 4 then 3 else if top.1 = 3 then 2 else 1
  if top.1 < d ∨ top.1 = 0 then setLevel new cause 0xFF dieT s else setLevel new cause top.2 headT s

/-- A head demand reaches 4: EV_THM_HARD_LIMIT, and in PRINT and DRAIN firing stops (R286, R287). -/
def reachHard (m : Nat) (s : State) : State :=
  let t := (moduleTemp s m).getD (0, 0)
  let firing := s.hub.mode = .print ∨ s.hub.mode = .drain
  let s := if firing then scheduleDrain 4 (autoDue s) (stopFiring s.now 1 s) else s
  let slot : Bytes := if firing then stopSlotBytes s else List.replicate 8 0xFF
  purgeLimit m (raise 0x3D01 0x0D (leBytes 1 m ++ leBytes 1 t.2 ++ seBytes 2 t.1 ++ slot) s)

/-- A module's demand is taken again, with the hard limit where it is newly reached. -/
def updateDemand (m : Nat) (s : State) : State :=
  let old := tget 0 s.thm.headDemand m
  let new := headDemandNow s m
  let s := if new = old then s else { s with thm := { s.thm with headDemand := tset s.thm.headDemand m new } }
  if old < 4 ∧ new = 4 then reachHard m s else s

/-- The head band of a module after a reading (R282): the change is reported to ESC. -/
def updateHeadBand (m : Nat) (s : State) : State :=
  match moduleTemp s m with
  | none => s
  | some (t, _) =>
    let old := tget 0 s.thm.headBand m
    let new := nextBand (profileEdges s) (thmByte s 1) old t
    if new = old then s
    else raise 0x1D02 0x0D (leBytes 1 m ++ leBytes 1 old ++ leBytes 1 new ++ [0] ++ seBytes 2 t)
      (reportBand m new { s with thm := { s.thm with headBand := tset s.thm.headBand m new } })

/-- A change of die band with its effects on MEM and HLK (R281). -/
def updateDieBand (s : State) : State :=
  match hottest s (upTo 16) with
  | none => s
  | some (t, i) =>
    let old := s.thm.dieBand
    let new := nextBand dieEdges (thmByte s 0) old t
    if new = old then s
    else
      let s := { s with thm := { s.thm with dieBand := new } }
      let s := presetsChange s
      raise 0x1D01 0x0D (leBytes 1 old ++ leBytes 1 new ++ seBytes 2 t ++ leBytes 1 i) s

/-- Evaluates every module's demand and the device level. -/
def evaluateThermal (s : State) : State := evaluateLevel (each (upTo 24) updateDemand s)

/-- Hundredths rounded to tenths, halves away from zero. -/
def tenths (h : Int) : Int := if h < 0 then -((5 - h) / 10) else (h + 5) / 10

/-- One reading arrives: the offset is added, and a cleared sensor becomes healthy (R277, THM_SENSOR_CLEAR). -/
def takeReading (i : Nat) (raw : Int) (s : State) : State :=
  let v := (10 * raw + tget 0 s.thm.offsets i) |> tenths
  let o := sensorOf s i
  setSensor i { o with value := some v, raw := some raw, time := s.now, failed := o.failed && !o.clearing,
                       deviations := if o.clearing then 0 else o.deviations, clearing := false } s

/-- The shutdown sequence of a healthy die reading of 115.0 °C or more (R288). -/
def dieShutdown (s : State) : State :=
  match (upTo 16).find? (fun i => match healthyValue s i with | some v => decide (1150 ≤ v) | none => false) with
  | none => s
  | some i =>
    let v := (healthyValue s i).getD 0
    let s := dieOverLockstep s.now (startShutdown 1 s.now (raiseSafe 4 0x0D s))
    raise 0x3D03 0x0D (leBytes 1 i ++ [0] ++ seBytes 2 v ++ leBytes 1 (b2n s.mss.programming)) s

/-- DIE_SENSOR_READING: the sixteen conversions of one instant (R277, R281, R283, R288). -/
def dieSensorReading (readings : List Int) (s : State) : State :=
  let s := each (upTo (min 16 readings.length)) (fun i => takeReading i (readings.getD i 0)) s
  let s := if s.mss.shutdown.isSome then s else dieShutdown s
  evaluateThermal (updateDieBand s)

/-- HEAD_SENSOR_READING: STATUS gives the readings of a module's sensors, none where not valid (R196, R282). -/
def headSensorReading (m : Nat) (a b : Option Int) (s : State) : State :=
  let put (i : Nat) (v : Option Int) (s : State) : State := match v with
    | some v => takeReading i v s
    | none => s
  evaluateThermal (updateHeadBand m (put (17 + 2 * m) b (put (16 + 2 * m) a s)))

/-- STATUS_RECEIVED: HLK takes the link state, THM the readings (R196, R277). -/
def statusReceived (n : Nat) (st : HeadStatus) (s : State) : State :=
  if !laneReceives s n then s else headSensorReading (n / 2) st.sensor0 st.sensor1 (statusLink n st s)

/-! Cross-check (R278 to R280) -/

/-- Inserts into a rising list. -/
def insertSorted (v : Int) : List Int → List Int
  | [] => [v]
  | a :: r => if v ≤ a then v :: a :: r else a :: insertSorted v r

/-- The median, the mean of the two middle values for an even count; none of an empty list. -/
def median (l : List Int) : Option Int :=
  let q := l.foldl (fun a v => insertSorted v a) []
  let n := q.length
  if n = 0 then none
  else if n % 2 = 1 then some (q.getD (n / 2) 0)
  else some ((q.getD (n / 2 - 1) 0 + q.getD (n / 2) 0) / 2)

/-- Why a healthy sensor fails at this check, if it does, and its run of deviations (R278). -/
def checkSensor (s : State) (i : Nat) : Option Nat × Nat :=
  let o := sensorOf s i
  let ns := (neighbours s i).filterMap (healthyValue s)
  let tol : Int := thmByte s (if i < 16 then 3 else 4)
  let off := match o.value, median ns with
    | some v, some q => decide (2 ≤ ns.length) && decide (tol < (v - q).natAbs)
    | _, _ => false
  let run := if off then o.deviations + 1 else 0
  if 2 ≤ run then (some 1, run)
  else if o.time + thmByte s 5 * tpMs < s.now then (some 2, run)
  else (none, run)

/-- A sensor fails: the event, the floor, and the adjacent pair (R279, R280, R284). -/
def failSensor (i cause : Nat) (s : State) : State :=
  let o := sensorOf s i
  let ns := (neighbours s i).filterMap (healthyValue s)
  let s := setSensor i { o with failed := true, deviations := 0 } s
  let s := { s with thm := { s.thm with floor := some (max (s.thm.floor.getD 0) s.thm.level), floorNew := true } }
  let none16 : Bytes := leBytes 2 0x8000
  let med := match median ns with | some q => seBytes 2 q | none => none16
  let sub := match substitute s i with | some q => seBytes 2 q | none => none16
  let last := match o.value with | some v => seBytes 2 v | none => none16
  let s := raise 0x2D01 0x0D (leBytes 1 i ++ leBytes 1 cause ++ last ++ med ++ sub) s
  each ((neighbours s i).filter fun j => (sensorOf s j).failed) (fun j s =>
    let s := raise 0x3D02 0x0D (leBytes 1 j ++ leBytes 1 i ++ leBytes 1 (modeCode s.hub.mode)) s
    scheduleDrain 6 (autoDue s) s) s

/-- An adjacent failed pair stands (R280). -/
def adjacentPair (s : State) : Bool :=
  (upTo 64).any fun i => (sensorOf s i).failed && available s i && (neighbours s i).any fun j => (sensorOf s j).failed

/-- SENSOR_CROSS_CHECK: every 1 ms (R278). All sensors are judged by the readings at the check. -/
def sensorCrossCheck (s : State) : State :=
  let l := (upTo 64).filter fun i => available s i && !(sensorOf s i).failed
  let verdicts := l.map fun i => (i, checkSensor s i)
  let s := each verdicts (fun v => setSensor v.1 { sensorOf s v.1 with deviations := v.2.2 }) s
  let s := each verdicts (fun v s => match v.2.1 with
    | some c => failSensor v.1 c s
    | none => s) s
  evaluateThermal s

def execSensorCrossCheck (t : Time) (s : State) : Host.Outcome State Fault Refusal := atPrint t sensorCrossCheck s

/-! CORE_POWER_DOWN and commands -/

/-- CORE_POWER_DOWN: 2 ms after the trigger the core loses power; every output takes its reset state (R288, R356). -/
def corePowerDown (s : State) : State :=
  match s.mss.shutdown with
  | some (c, t0) =>
    if (c = 1 ∨ c = 2) ∧ (t0 = 0 ∨ t0 + 2 * tpMs ≤ s.now) then { s with mss := { s.mss with coreOff := true } } else s
  | none => s

def execCorePowerDown (t : Time) (s : State) : Host.Outcome State Fault Refusal := atTime t corePowerDown s

/-- THM_CONFIG_SET (0x0D01) (R290). -/
def thmConfigSetSpec : CmdSpec where
  opcode := 0x0D01
  modes := setupModes
  len := (· == 16)
  value := fun p _ =>
    within (u8 p 0) 5 50 && within (u8 p 1) 5 50 && within (u8 p 2) 0 100 && within (u8 p 3) 40 200
      && within (u8 p 4) 30 200 && within (u8 p 5) 2 100 && within (u8 p 6) 10 200 && u8 p 7 == 0
      && (upTo 6).all (fun i => withinI (s8 p (8 + i)) (-4) 4) && zeroAt p 14 2
  apply := fun c _ s => done (presetsChange (cfgSet .thermal (slice c.params 0 16) s))

/-- THM_SENSOR_CLEAR (0x0D02) (R279). -/
def thmSensorClearSpec : CmdSpec where
  opcode := 0x0D02
  modes := anyMode
  len := (· == 4)
  value := fun p s =>
    let i := u8 p 0
    (decide (i ≤ 63) || i == 0xFF) && zeroAt p 1 3 && !(within i 16 63 && moduleAbsent s (headModule i))
  apply := fun c _ s =>
    let i := u8 c.params 0
    let l := (if i = 0xFF then upTo 64 else [i]).filter fun j => (sensorOf s j).failed
    done (each l (fun j s => setSensor j { sensorOf s j with clearing := true } s) s)

end Sys2Proof.Machine
end

