-- ==== Sys2Proof/Machine/PrintFlow.lean ====
section
/-! DEFINITION. The flow of a print (07, 08, 09, 11 together): placing rows and blank pitches on bar lines, decision
points, the begin of a row, line fetch, fixing and firing of slots, and what a drain or an entry to SAFE leaves of the
queue. -/
namespace Sys2Proof.Machine

/-! Placing (R133, R149, R234, R285) -/

/-- A page is taken up for placing, from its next row. -/
def takeUp (id : Nat) (s : State) : State :=
  match findPage s id with
  | some p => { s with mem := { s.mem with placing := some id, placeRow := p.nextRow } }
  | none => { s with mem := { s.mem with placing := none } }

/-- The next bar lines are given to a pitch. -/
def putPitch (len : Nat) (kind : PitchKind) (s : State) : State :=
  { s with mem := { s.mem with
    pitches := { first := s.mem.next, len := len, kind := kind } :: s.mem.pitches, next := s.mem.next + (len : Int) } }

/-- The drain at the end of the queue moves with the row it waits for. -/
def shiftEnd (len : Nat) (s : State) : State :=
  match s.hub.auto with
  | some a =>
    match a.due with
    | .slot n => { s with hub := { s.hub with auto := some { a with due := .slot (n + (len : Int)) } } }
    | _ => s
  | none => s

/-- A blank pitch is inserted: the heads rest (R285). -/
def putBlank (len : Nat) (kind : PitchKind) (s : State) : State :=
  putPitch len kind { s with thm := { s.thm with pauseCounter := 0 } }

/-- Why a row may not begin (R232, R234): 0 uncovered, 1 storage, 2 limit. -/
def holdCause (s : State) (p : Page) (r : Nat) : Option Nat :=
  let floor := if s.ldg.hold = some 1 then 2 ^ 27 else 2 ^ 26
  if !rowCovered s p r then some 0
  else if ledgerFree s < floor then some 1
  else if overLimit s p r then some 2
  else none

/-- EV_LDG_HOLD. -/
def holdEvent (begun : Bool) (cause : Nat) (f : Int) (s : State) : State :=
  raise 0x2901 0x09 (leBytes 1 (b2n begun) ++ leBytes 1 cause ++ zeros 2 ++ leBytes 4 (ledgerFree s) ++ seBytes 8 f) s

/-- A hold begins, or goes on. -/
def holdOn (cause : Nat) (f : Int) (s : State) : State :=
  let was := s.ldg.hold
  let s := { s with ldg := { s.ldg with hold := some cause } }
  if was = none then holdEvent true cause f s else s

/-- The hold in force ends. -/
def holdOff (f : Int) (s : State) : State :=
  match s.ldg.hold with
  | some c => holdEvent false c f { s with ldg := { s.ldg with hold := none } }
  | none => s

/-- A thermal pause is due before the next row (R285). -/
def pauseDue (s : State) : Bool := decide (s.thm.level = 3) && decide (profilePauseEvery s ≤ s.thm.pauseCounter)

/-- The module with the highest T_m - S. -/
def hottestModule (s : State) : Nat :=
  match hottest s ((upTo 48).map (· + 16)) with
  | some (_, i) => headModule i
  | none => 0

/-- Code that R258's pattern with a given code holds at an offset from l0 and a bar column. -/
def stripeCode (code d : Nat) (b : Int) : Nat :=
  let g := d / 24 % 12
  if b % 6 = (g / 2 : Nat) ∧ d % 2 = g % 2 then code else 0

/-- The data of a camera photometry patch: every cell inside step k of its bar lines holds 17k (R254, R272). -/
def stepsOk (s : State) (g : Page) (l0 : Nat) (base : Int) (cols : Int × Int) : Bool :=
  let w := cfgGet s .compare
  let n : Nat := if lpi600 s then 6 else 12
  let weight (c : Nat) : Nat := if c = 0 then 0 else u8 w (7 + c)
  (upTo 16).all fun k =>
    let a := (base + 48 * k + n - 1) / n
    let z := (base + 48 * k + 48) / n
    (upTo (z - a).toNat).all fun i => (upTo ((cols.2 + 1) / 12 - (cols.1 + 11) / 12).toNat).all fun j =>
      let sum := sumNat ((upTo (12 * n)).map fun q =>
        let line := ((a + i) * n + (q / 12 : Nat) - base).toNat + l0
        let col := ((cols.1 + 11) / 12 + j) * 12 + (q % 12 : Nat) + pageShift s
        weight (if col < 0 then 0 else dotCode g.data line col.toNat))
      decide (sum / (12 * n) = 17 * k)

/-- The page data of a patch is what R272 asks of it. A STITCH patch may begin its eighth columns at any of eight. -/
def patchOk (s : State) (g : Page) (k : LaidPatch) : Bool :=
  let v := mapAt s k.line
  let cols := patchColumns s v k
  let code (d : Nat) (b : Int) : Nat :=
    let p := b + pageShift s
    if p < 0 then 0 else dotCode g.data (k.l0 + d) p.toNat
  let columns := (upTo (cols.2 + 1 - cols.1).toNat).map fun (i : Nat) => cols.1 + (i : Int)
  let lines := upTo (patchLines k.type)
  match k.type with
  | 6 => lines.all fun d => columns.all fun b =>
      let dot := (b - originIn s v k.target) % 2 = (d / 24 % 2 : Nat) ∧ d % 2 = 0
      code d b == if dot then 3 else 0
  | 7 => (upTo 8).any fun f => lines.all fun d => columns.all fun b =>
      code d b == if b % 8 = (f : Int) ∧ d % 2 = 0 then 3 else 0
  | 8 => lines.all fun d => columns.all fun b => code d b == stripeCode (d / 288 + 1) (d % 288) b
  | _ => stepsOk s g k.l0 k.line cols

/-- The parts of a page's patches that lie in a row are laid on the row's bar lines (R272). -/
def layPatches (p : Page) (r : Nat) (f : Int) (s : State) : State :=
  let lo := r * pagePitch p
  let hi := lo + pagePitch p
  let here := s.cal.patches.filter fun k => k.page = p.id ∧ k.l0 < hi ∧ lo < k.l0 + patchLines k.type
  { s with cal := { s.cal with laid := s.cal.laid ++ here.map fun k =>
      let line := f + ((k.l0 : Int) - (lo : Int))
      let part : LaidPatch := { line := line, from_ := max f line, to_ := min (f + pagePitch p) (line + patchLines k.type),
                                type := k.type, target := k.target, page := p.id, l0 := k.l0 }
      { part with bad := !patchOk s p part } } }

/-- What the next bar lines hold is decided; none where nothing is decided to follow. -/
def placeNext (s : State) : Option State :=
  let page := s.mem.placing.bind (findPage s)
  let more := match page with | some p => decide (s.mem.placeRow < pageRows p) | none => false
  match page, more with
  | some p, true =>
    let f := s.mem.next
    let len := pagePitch p
    match holdCause s p s.mem.placeRow with
    | some c => some (shiftEnd len (putBlank len (.starve p.id 2) (holdOn c f s)))
    | none =>
      let s := holdOff f s
      if pauseDue s then some (shiftEnd len (putBlank len (.pause p.id (hottestModule s)) s))
      else
        let s := layPatches p s.mem.placeRow f s
        let s := putPitch len (.row p.id s.mem.placeRow) s
        some { s with
          mem := { s.mem with placeRow := s.mem.placeRow + 1 }
          thm := { s.thm with pauseCounter := s.thm.pauseCounter + 1 } }
  | _, _ =>
    match s.mem.plan with
    | .gap id p :: rest => some (putBlank p (.starve id (b2n (id == 0))) { s with mem := { s.mem with plan := rest } })
    | .page id :: rest => some (takeUp id { s with mem := { s.mem with plan := rest } })
    | [] => none

/-- Places pitches until a bar line is decided. -/
def placeTo (l : Int) : Nat → State → State
  | 0, s => s
  | k + 1, s =>
    if l < s.mem.next then s
    else match placeNext s with
      | some s => placeTo l k s
      | none => s

/-- A print is prepared for slot P: its first page, the queue head where it is RESIDENT, is placed from S = P + K. -/
def setupPrint (p : Int) (s : State) : State :=
  let s := { s with
    grt := { s.grt with asm := [] }
    mem := { s.mem with next := p + maxSkew s, begunTo := p, placing := none, plan := [], spoilt := [], ended := false,
                        lastPitch := 256, pitches := s.mem.pitches.filter (·.begun) }
    cal := { s.cal with laid := s.cal.laid.filter fun k => decide (k.from_ < s.mem.begunTo) } }
  match s.mem.queue.head?.bind (findPage s) with
  | some g => if g.state = .resident then takeUp g.id s else s
  | none => s

/-- P is found while none of its slots is fixed, and the print prepared for it. -/
def preparePrint (s : State) : State :=
  let old := s.esc.printSlot
  let s := placePrint s
  match s.esc.printSlot with
  | some p => if old = some p then s else setupPrint p s
  | none => s

/-- What has been placed and has not begun is taken back (R133, R176). -/
def dropUnbegun (s : State) : State :=
  let pages := plannedPages s
  let forget : Stripe → Stripe := fun k => if k.spans.isEmpty then { k with made := [], bad := false } else k
  { s with
    ins := { s.ins with stripes := s.ins.stripes.map forget }
    mem := { s.mem with
      pitches := s.mem.pitches.filter (·.begun), placing := none, plan := pages.map .page, spoilt := [],
      next := s.mem.begunTo }
    cal := { s.cal with laid := s.cal.laid.filter fun k => decide (k.from_ < s.mem.begunTo) } }

/-! The end of a page (R128, R133, R224) -/

/-- Every line up to a slot is receipted on every module (R202). -/
def receiptsHeld (s : State) (n : Int) : Bool :=
  (presentModules s).all fun m =>
    let h := moduleOf s m
    h.state == 5 || !h.lines.any fun l => !l.withdrawn && decide (l.slot ≤ n)

/-- The PAGE record of a page that leaves PRINTING. -/
def pageRecord (p : Page) (returned : Bool) (s : State) : State :=
  appendRecord (plainRecord 5 (b2n returned) p.id p.nextRow 0 (ticketId p 0 0) p.firstLine p.firstFire p.lastFire)
    (ticketId p 0 0) s

/-- A page that leaves PRINTING is current no longer. -/
def leaveCurrent (p : Page) (s : State) : State :=
  if s.mem.current = some p.id then { s with mem := { s.mem with current := none, lastPitch := pagePitch p } } else s

/-- PRINTING to CONSUMED, and on to EMPTY with auto_release. -/
def consumePage (p : Page) (s : State) : State :=
  let s := leaveCurrent p (pageRecord p false s)
  let s := raise 0x1402 0x04 (leBytes 4 p.id ++ leBytes 2 p.nextRow ++ leBytes 2 (min 0xFFFF p.blanks) ++ seBytes 8 p.lastLine) s
  if pageAutoRelease p then erasePage p.id s
  else modPage p.id (fun p => { p with state := .consumed, data := [] }) s

/-- PRINTING to RESIDENT: the page keeps its next_row. -/
def returnPage (p : Page) (s : State) : State :=
  modPage p.id (fun p => { p with state := .resident, firstFire := 0, lastFire := 0 }) (leaveCurrent p (pageRecord p true s))

/-- Pages whose last line has fired on every module, with its receipt held. -/
def consumePages (s : State) : State :=
  each (s.mem.pages.filter fun p =>
    p.state = .printing && decide (pageRows p ≤ p.nextRow) && decide (p.lastLine ≤ firedTo s) && receiptsHeld s p.lastLine)
    consumePage s

/-- A blank pitch whose last bar line has fired gets its record (R224), and pitches that have fired are forgotten. -/
def settlePitches (s : State) : State :=
  let done (q : Pitch) : Bool := q.begun && decide (q.first + q.len - 1 ≤ firedTo s)
  let past := s.mem.pitches.reverse.filter done
  let s := { s with mem := { s.mem with pitches := s.mem.pitches.filter fun q => !done q } }
  each past (fun q s => match q.kind with
    | .starve page cause => appendRecord (plainRecord 4 0 page q.len cause 0 q.first q.firstFire q.lastFire) 0 s
    | .pause page m => appendRecord (plainRecord 3 0 page q.len m 0 q.first q.firstFire q.lastFire) 0 s
    | .row _ _ => s) s

/-- What follows when slots have fired or receipts have come. -/
def settleFired (s : State) : State := consumePages (settlePitches (closeTickets s))

/-! Begin of a row (R128, R149, R217, R222) -/

/-- Page columns that some present module fetches for a bar line (R143, R148). -/
def fetchedSpan (s : State) (l : Int) : Int × Int :=
  let v := mapAt s l
  let w := printable s v
  (max 0 (w.1 + pageShift s), min 52223 (w.2 + pageShift s))

/-- The ticket's columns inside that span: col_lo and col_count. -/
def fetchedPart (span : Int × Int) (a b : Nat) : Nat × Nat :=
  let lo := max span.1 a
  let hi := min span.2 b
  if hi < lo then (0, 0) else ((lo - a).toNat, (hi - lo + 1).toNat)

/-- The 32-byte header of the intent digest (R222). -/
def intentHeader (p : Page) (r j : Nat) (part : Nat × Nat) : Bytes :=
  leBytes 8 (ticketId p r j).toNat ++ leBytes 4 p.id ++ leBytes 2 r ++ leBytes 1 j ++ [0]
    ++ leBytes 2 (ticketColumns p j).1 ++ leBytes 2 (pageWidth p) ++ leBytes 2 (pagePitch p)
    ++ leBytes 2 part.1 ++ leBytes 2 part.2 ++ zeros 6

/-- One line block. -/
def intentLine (p : Page) (j line : Nat) (part : Nat × Nat) : Bytes :=
  packCodes ((upTo (4 * ((pageWidth p + 3) / 4))).map fun i =>
    if part.1 ≤ i ∧ i < part.1 + part.2 then dotCode p.data line ((ticketColumns p j).1 + i) else 0)

/-- The intent digest of a ticket. -/
def intentDigest (p : Page) (r j : Nat) (part : Nat × Nat) : Bytes :=
  sha256 (intentHeader p r j part ++ (upTo (pagePitch p)).flatMap fun i => intentLine p j (r * pagePitch p + i) part)

/-- The ticket overlaps a laid patch: class CAL (R273). -/
def overlapsPatch (s : State) (f : Int) (len : Nat) (lo hi : Int) : Bool :=
  s.cal.laid.any fun k =>
    let c := patchColumns s (mapAt s k.line) k
    decide (k.from_ < f + len) && decide (f < k.to_) && decide (c.1 ≤ hi) && decide (lo ≤ c.2)

/-- A ticket as its row begins. -/
def newTicket (s : State) (p : Page) (r j : Nat) (f : Int) : Ticket :=
  let c := ticketColumns p j
  let part := fetchedPart (fetchedSpan s f) c.1 c.2
  let lo : Int := c.1 - pageShift s
  let hi : Int := c.2 - pageShift s
  { id := ticketId p r j, page := p.id, row := r, lane := j, first := f, pitch := pagePitch p,
    deadline := f + pagePitch p + u32 (ldgCfg s) 12, lo := lo, hi := hi, colLo := part.1, colCount := part.2,
    flags := if part.2 < pageWidth p then 16 else 0, intent := intentDigest p r j part,
    cal := overlapsPatch s f (pagePitch p) lo hi, genFirst := 0, genLast := 0 }

/-- A ticket enters the table, or one voided while SCHEDULED finds its row. -/
def beginTicket (p : Page) (r : Nat) (f : Int) (j : Nat) (s : State) : State :=
  let k := newTicket s p r j f
  match findTicket s k.id with
  | some o =>
    if o.begun ∧ o.state = 2 then s
    else if o.begun then setTicket k s
    else setTicket { o with begun := true, first := k.first, pitch := k.pitch, lo := k.lo, hi := k.hi, colLo := k.colLo,
                            colCount := k.colCount, deadline := k.deadline } s
  | none => { s with ldg := { s.ldg with tickets := s.ldg.tickets ++ [k] } }

/-- INS takes up a ticket for its verdict (R255, R257). -/
def beginInspection (p : Page) (r : Nat) (f : Int) (j : Nat) (s : State) : State :=
  if !inspection s then s
  else
    let c := ticketColumns p j
    let span := fetchedSpan s f
    { s with ins := { s.ins with tickets := s.ins.tickets ++ [
      { id := ticketId p r j, lo := c.1 - pageShift s, hi := c.2 - pageShift s, first := f, pitch := pagePitch p,
        shift := pageShift s, origin := f - (r * pagePitch p : Nat), data := p.data, compare := cfgGet s .compare,
        fetchLo := span.1 - pageShift s, fetchHi := span.2 - pageShift s }] } }

/-- Revocations whose s_r lies in a ticket's slots and that came before its row began (R223). -/
def earlyRevokes (s : State) (k : Ticket) : Nat :=
  let w := ticketSlots s k
  (s.esc.revokedAt.filter fun n => decide (w.1 ≤ n) && decide (n ≤ w.2)).length

/-- A row begins that holds lines of a stripe: where they lie, and whether their fetched data is the pattern (R258). -/
def stripeRow (s : State) (p : Page) (lo : Nat) (f : Int) (k : Stripe) : Stripe :=
  let a := max lo k.l0
  let z := min (lo + pagePitch p) (k.l0 + 288)
  if k.page ≠ p.id ∨ z ≤ a then k
  else
    let span := fetchedSpan s f
    let good := (upTo (z - a)).all fun i => (upTo (k.hi + 1 - k.lo)).all fun j =>
      let col : Int := k.lo + j
      decide (col < span.1) || decide (span.2 < col)
        || dotCode p.data (a + i) (k.lo + j) == stripeCode 3 (a + i - k.l0) (col - pageShift s)
    { k with spans := k.spans ++ [(a, z - a, f + ((a - lo : Nat) : Int))], shift := pageShift s, bad := k.bad || !good }

/-- Effects of a row's begin on the page, the ledger, the reject gate and inspection. -/
def beginRow (p : Page) (r : Nat) (q : Pitch) (s : State) : State :=
  let f := q.first
  let lanes := upTo (pageLanes p)
  let ids := lanes.map (ticketId p r)
  let fresh := p.state ≠ .printing
  let s := { s with mem := { s.mem with current := some p.id, lastPitch := pagePitch p } }
  let s := modPage p.id (fun p => { p with
    state := .printing, nextRow := r + 1, lastLine := f + q.len - 1, firstLine := if fresh then f else p.firstLine }) s
  let cfg := ldgCfg s
  let gate : RejectRow :=
    { first := f, pitch := q.len, page := p.id, row := r, opens := f + u32 cfg 4 - u16 cfg 2,
      closes := f + q.len + u32 cfg 4 + u16 cfg 8, policy := u8 cfg 0 }
  let s := { s with ldg := { s.ldg with rejects := s.ldg.rejects ++ [gate] } }
  let s := each lanes (beginTicket p r f) s
  let s := each lanes (beginInspection p r f) s
  let count : Ticket → Ticket := fun k =>
    if ids.contains k.id ∧ k.state = 2 then { k with revokes := earlyRevokes s k } else k
  let s := { s with ldg := { s.ldg with tickets := s.ldg.tickets.map count } }
  let lo := r * pagePitch p
  let s := { s with ins := { s.ins with stripes := s.ins.stripes.map (stripeRow s p lo f) } }
  let s := if s.ldg.tickets.any (fun k => ids.contains k.id && k.state == 5) then markRow p.id r none s else s
  let mine := s.mem.spoilt.filter fun x => decide (f ≤ x.1) && decide (x.1 < f + q.len)
  let s := { s with mem := { s.mem with spoilt := s.mem.spoilt.filter fun x => decide (f + q.len ≤ x.1) } }
  each mine (fun x s => spoilLines x.2.2.2 [(x.1, x.2.1, x.2.2.1)] s) s

/-- The bar lines that a slot's rows fire, with their instants. -/
def slotFires (s : State) (f : FixedSlot) : List (Int × Time) :=
  f.modules.flatMap fun x => rowList.map fun r => (f.n + upstream s x.module_ r, x.rows.getD r 0)

/-- First and last instants widened by those of some bar lines. -/
def widen (fires : List (Int × Time)) (a b : Int) (w : Time × Time) : Time × Time :=
  (fires.filter fun x => decide (a ≤ x.1) && decide (x.1 ≤ b)).foldl
    (fun w x => (if w.1 = 0 ∨ x.2 < w.1 then x.2 else w.1, max w.2 x.2)) w

/-- A correction under calibration with HOLD flags what this slot fires on a ticket (R271). -/
def firesStale (s : State) (k : Ticket) : Bool :=
  let mods := ticketModules s k
  s.cal.runs.any fun r => r.hold && decide (2 ≤ r.state) && decide (r.state ≤ 5) && (match r.type with
    | 6 | 8 => mods.contains r.target
    | 7 => mods.contains r.target || mods.contains (r.target + 1)
    | 1 | 10 => r.target == activeEnc s
    | _ => false)

/-- A slot that has fired enters the fire instants and flags of the tickets of `mine`, and the fire instants of the
pitches that have begun and of the page in PRINTING (R223, R224). -/
def noteSlot (mine : Ticket → Bool) (f : FixedSlot) (s : State) : State :=
  let fires := slotFires s f
  let unverified := indexUnverified s (activeEnc s)
  let note : Ticket → Ticket := fun k =>
    if mine k ∧ k.begun ∧ k.state = 2 ∧ !(rowInstants s k f none).isEmpty then
      let k := noteFire s f none k
      let k := if unverified then { k with flags := k.flags ||| 1 } else k
      if firesStale s k then { k with flags := k.flags ||| 256 } else k
    else k
  let pitch : Pitch → Pitch := fun q =>
    let w := widen fires q.first (q.first + q.len - 1) (q.firstFire, q.lastFire)
    if q.begun then { q with firstFire := w.1, lastFire := w.2 } else q
  let page : Page → Page := fun p =>
    let w := widen fires p.firstLine p.lastLine (p.firstFire, p.lastFire)
    if p.state = .printing then { p with firstFire := w.1, lastFire := w.2 } else p
  { s with
    ldg := { s.ldg with tickets := s.ldg.tickets.map note }
    mem := { s.mem with pitches := s.mem.pitches.map pitch, pages := s.mem.pages.map page } }

/-- A pitch begins. The slots that have fired already, by the lead or at this very instant, are entered for it. -/
def beginPitch (q : Pitch) (s : State) : State :=
  let mark : Pitch → Pitch := fun x => if x.first = q.first then { x with begun := true } else x
  let s := { s with
    mem := { s.mem with pitches := s.mem.pitches.map mark, begunTo := q.first + q.len }
    esc := { s.esc with revokedAt := s.esc.revokedAt.filter fun n => decide (q.first - maxSkew s ≤ n) } }
  let s := match q.kind with
    | .row id r =>
      match findPage s id with
      | some p => beginRow p r q s
      | none => s
    | .pause _ _ => { s with thm := { s.thm with pauses := s.thm.pauses + 1 } }
    | .starve _ _ => s
  each (s.esc.slots.filter fun f => decide (f.n ≤ s.esc.fired)) (noteSlot fun k => decide (k.first = q.first)) s

/-- Every row and blank pitch whose begin slot has come begins, in order (R149). -/
def beginTo (n : Int) (s : State) : State :=
  if s.hub.mode ≠ .print then s
  else
    let s := placeTo (n + maxSkew s) 1024 s
    each (s.mem.pitches.reverse.filter fun q => !q.begun && decide (q.first - maxSkew s ≤ n)) beginPitch s

/-! Decision points (R132, R134) -/

/-- EV_GRT_OUTSIDE where ticket columns lie outside the printable ones (R158). -/
def outsideEvent (p : Page) (at_ : Int) (s : State) : State :=
  let w := printable s (mapAt s at_)
  let spans := (upTo (pageLanes p)).filterMap fun j =>
    let c := ticketColumns p j
    let a : Int := c.1 - pageShift s
    let b : Int := c.2 - pageShift s
    if a < w.1 ∨ w.2 < b then some (if a < w.1 then a else max a (w.2 + 1), if w.2 < b then b else min b (w.1 - 1)) else none
  match spans with
  | [] => s
  | x :: r =>
    let lo := r.foldl (fun m y => min m y.1) x.1
    let hi := r.foldl (fun m y => max m y.2) x.2
    raise 0x2503 0x05 (leBytes 4 p.id ++ seBytes 2 lo ++ seBytes 2 hi ++ seBytes 8 at_) s

/-- The queue head is committed to start at S. -/
def commitPage (p : Page) (at_ : Int) (s : State) : State :=
  let s := { s with mem := { s.mem with queue := s.mem.queue.tail, plan := s.mem.plan ++ [.page p.id] } }
  fixLines (scheduleTickets p (outsideEvent p at_ s))

/-- A starvation gap at S: EV_PAGE_STARVED. -/
def insertGap (id pitch : Nat) (at_ : Int) (s : State) : State :=
  let s := { s with mem := { s.mem with plan := s.mem.plan ++ [.gap id pitch], gaps := s.mem.gaps + 1 } }
  raise 0x2401 0x04 (leBytes 4 id ++ leBytes 2 pitch ++ zeros 2 ++ seBytes 8 at_) s

/-- An INVALID queue head is skipped. -/
def skipPage (p : Page) (at_ : Int) (s : State) : State :=
  let s := { s with mem := { s.mem with queue := s.mem.queue.tail } }
  skipTickets p (raise 0x2402 0x04 (leBytes 4 p.id ++ leBytes 1 p.reason ++ zeros 3 ++ seBytes 8 at_) s)

/-- The end of the queue places the drain: at the first line boundary after the begin slot of the last decided row, or
after this instant where that slot has passed (R132). -/
def endOfQueue (s : State) : State :=
  let s := { s with mem := { s.mem with ended := true } }
  let due := match (decidedRows s).getLast? with
    | some f => if presentSlot s < f - maxSkew s + 1 then Due.slot (f - maxSkew s + 1) else autoDue s
    | none => autoDue s
  scheduleDrain 2 due s

/-- Pitch of a gap with an empty queue: of the current page, else of the last page current in this print. -/
def waitPitch (s : State) : Nat :=
  match s.mem.current.bind (findPage s) with
  | some p => pagePitch p
  | none => s.mem.lastPitch

/-- One decision, where one is due: slot G = S - 1,024 - K or a later one has been fixed or missed. -/
def decideOnce (s : State) : Option State :=
  let at_ := nextStart s
  if s.hub.mode ≠ .print ∨ s.mem.ended ∨ s.esc.handled < at_ - 1024 - maxSkew s ∨ !autoFree s then none
  else match s.mem.queue with
    | [] => if s.mem.endAction = 0 then some (endOfQueue s) else some (insertGap 0 (waitPitch s) at_ s)
    | id :: rest =>
      match findPage s id with
      | none => some { s with mem := { s.mem with queue := rest } }
      | some p =>
        match p.state with
        | .resident => if p.residentAt < s.now then some (commitPage p at_ s) else some (insertGap id (pagePitch p) at_ s)
        | .loading => some (insertGap id (pagePitch p) at_ s)
        | _ => some (skipPage p at_ s)

/-- Decisions until none is due. -/
def decide_ : Nat → State → State
  | 0, s => s
  | k + 1, s =>
    match decideOnce s with
    | some s => decide_ k s
    | none => s

/-- At most the queue's pages and the gaps of the shortest pitch that fit before S are decided at one instant. -/
def decisions (s : State) : State := decide_ (s.mem.queue.length + 1024) s

/-! Fixing (R166) -/

/-- The slot is missed where its time has come. -/
def missIfLate (n : Int) (s : State) : State :=
  match missCause s n with
  | some c => decisions (missSlot n c s)
  | none => s

/-- The first slot of a print starts the schedule afresh. -/
def startSchedule (n : Int) (s : State) : State :=
  if s.esc.state = 1 ∧ s.esc.printSlot = some n then
    { s with esc := { s.esc with slots := [], fired := max s.esc.fired (n - 1) } }
  else s

/-- SLOT_FIX: the next slot is fixed once every condition holds, or missed (R166, R172). -/
def slotFix (s : State) : State :=
  let s := preparePrint s
  let n := nextSlot s
  if !mayFix s n then s
  else if !(webReady s && nearEnough s n) then missIfLate n s
  else match computeSlot s n with
    | none => missIfLate n s
    | some f =>
      if !(leadOk s f && earlyEnough s f) then missIfLate n s
      else match spacingFault s f with
        | some m => trip 1 m s
        | none => decisions (takeSlot f (startSchedule n s))

def execSlotFix (t : Time) (s : State) : Host.Outcome State Fault Refusal := atPrint t slotFix s

/-! Line fetch and assembly (R148, R150, R157) -/

/-- The slot to fetch next: P of the scheduled or present print, then slot by slot. -/
def fetchNext (s : State) : Option Int :=
  if s.hub.mode = .print ∨ s.hub.mode = .drain ∨ (s.hub.mode = .armed ∧ (scheduledSlot s).isSome) then
    if s.grt.asm.isEmpty then s.esc.printSlot else some (s.grt.slot + 1)
  else none

/-- The bursts of a module's segment in a page line: first and last. -/
def segmentBursts (s : State) (v : MapView) (m line : Nat) : Nat × Nat :=
  let g := segmentBytes s v m
  let a := line * lineBytes + g.1
  (a / 64, (a + g.2 - 1) / 64)

/-- EV_GRT_DOT_DROPPED, at most once per module per millisecond. -/
def droppedEvent (m n : Nat) (nozzle : Nat) (l : Int) (s : State) : State :=
  let r := rateHit s.now n l nozzle (tget {} s.grt.dropped m)
  let s := { s with grt := { s.grt with dropped := tset s.grt.dropped m r.2 } }
  match r.1 with
  | some (c, f, k) => raise 0x2502 0x05 (leBytes 4 k ++ leBytes 4 c ++ seBytes 8 f) s
  | none => s

/-- The nozzle that a segment's dots of one column came from, after one more dot. -/
def noteNozzle (key : Nat × Nat) (n : Option Nat) (t : Tab (Nat × Nat) (Option Nat)) : Tab (Nat × Nat) (Option Nat) :=
  match t.find? fun e => e.1 = key with
  | none => t ++ [(key, n)]
  | some e => if e.2 = n then t else tset t key none

/-- A module's line is fetched: the stripes in it keep the nozzle of each dot, a blank one is not judged, and a blank
patch is not used (R258, R259, R272). -/
def noteMarks (m : Nat) (l : Int) (p : Page) (line : Nat) (blank : Bool) (s : State) : State :=
  let v := mapAt s l
  let o := originIn s v m
  let stripe : Stripe → Stripe := fun k =>
    if k.page ≠ p.id ∨ line < k.l0 ∨ k.l0 + 288 ≤ line then k
    else
      let d := line - k.l0
      let cols := (upTo (k.hi + 1 - k.lo)).filter fun j =>
        let b := (k.lo + j : Nat) - pageShift s
        decide (o ≤ b) && decide (b ≤ o + 2175)
      let made := cols.foldl (fun t j =>
        let b := (k.lo + j : Nat) - pageShift s
        if stripeCode 3 d b = 0 then t
        else match printer s v b l with
          | some (q, r, _) => if q = m then noteNozzle (d / 24, k.lo + j) (some (nozzleOf m r (moduleColumn s v m b))) t else t
          | none => if unresolved s v m b l then noteNozzle (d / 24, k.lo + j) none t else t) k.made
      { k with made := made, bad := k.bad || (blank && !cols.isEmpty) }
  let patch : LaidPatch → LaidPatch := fun k =>
    let c := patchColumns s v k
    if blank && decide (k.from_ ≤ l) && decide (l < k.to_) && decide (c.1 ≤ o + 2175) && decide (o ≤ c.2)
    then { k with bad := true } else k
  { s with
    ins := { s.ins with stripes := s.ins.stripes.map stripe }
    cal := { s.cal with laid := s.cal.laid.map patch } }

/-- One module's line for a slot: fetch, assembly, counts, and the voids of what was lost. -/
def fetchModule (n : Int) (blank : List (Nat × Position × Nat)) (ecc : List (Nat × Nat)) (m : Nat) (s : State) : State :=
  let l := n + skew s m
  let v := mapAt s l
  let page := pageLineAt s l
  let span := (l, originIn s v m, originIn s v m + 2175)
  let lost := blank.find? fun b => b.1 = m
  let bad : Bool := match page with
    | some (p, line) => let w := segmentBursts s v m line; p.bad.any fun b => decide (w.1 ≤ b) && decide (b ≤ w.2)
    | none => false
  let isBlank := page.isSome && (lost.isSome || bad)
  let q : LineSource := { page := if isBlank then none else page, shift := pageShift s }
  let s := match page, lost with
    | some (p, _), some (_, pos, addr) => uncorrectable 0 pos addr p.id s
    | _, _ => s
  let s := match page with
    | some (p, line) =>
      let s := noteMarks m l p line isBlank (countPort 0 (segmentBytes s v m).2 s)
      if isBlank then
        spoilLines 32 [span] (modPage p.id (fun p => { p with blanks := p.blanks + 1 })
          { s with mem := { s.mem with blankCount := s.mem.blankCount + 1 } })
      else s
    | none => s
  let bits := ecc.filter fun e => e.1 = m
  let rows := rowList.map fun r => if bits.any (fun e => e.2 = r) then zeros 272 else assembleRow s v q m r l
  let s := each bits (fun e s =>
    spoilLines 0 [span] (raise 0x3501 0x05 (leBytes 1 m ++ leBytes 1 e.2 ++ zeros 6 ++ seBytes 8 l)
      { s with grt := { s.grt with eccUnc := satInc 16 s.grt.eccUnc } })) s
  let d := countDots s v q m l
  let s := { s with grt := { s.grt with
    asm := { slot := n, module_ := m, line := l, rows := rows } :: s.grt.asm
    partnerCount := s.grt.partnerCount + BitVec.ofNat 32 d.partner
    spreadCount := s.grt.spreadCount + BitVec.ofNat 32 d.spread
    handover := s.grt.handover + BitVec.ofNat 32 d.handover
    droppedCount := min 0xFFFFFFFF (s.grt.droppedCount + d.dropped) } }
  match d.firstDropped with
  | some z => droppedEvent m d.dropped z l s
  | none => s

/-- INS has built the map rows whose bar lines every module has fetched after slot n (R254). -/
def noteMap (n : Int) (s : State) : State :=
  if !inspection s then s
  else
    let p : Int := if lpi600 s then 6 else 12
    let least : Int := (((presentModules s).map (skew s)).foldl min (maxSkew s) : Nat)
    let top := (n + least + 1) / p - 1
    let from_ := if s.esc.printSlot = some n then max s.ins.mapTop ((n + least + p - 1) / p - 1) else s.ins.mapTop
    if top ≤ from_ then { s with ins := { s.ins with mapTop := from_ } }
    else { s with ins := { s.ins with mapTop := top, mapRows := min 98304 (s.ins.mapRows + (top - from_).toNat) } }

/-- LINE_FETCH: GRT fetches and assembles one slot for every present module; changes whose bar line is assembled come
into force (R148, R150, R153). -/
def lineFetch (n : Int) (blank : List (Nat × Position × Nat)) (ecc : List (Nat × Nat)) (corrected : Nat) (s : State) : State :=
  let s := preparePrint s
  if fetchNext s ≠ some n then s
  else
    let s := if s.hub.mode = .drain then s else placeTo (n + maxSkew s) 1024 s
    let s := each (presentModules s) (fetchModule n blank ecc) s
    let s := { s with grt := { s.grt with
      slot := n, asm := s.grt.asm.filter (fun a => decide (n - 1536 ≤ a.slot)),
      eccCorr := min 0xFFFF (s.grt.eccCorr + corrected) } }
    settleChanges (enforceChanges (n + maxSkew s) (noteMap n s))

def execLineFetch (t : Time) (n : Int) (blank : List (Fin 24 × Position × Nat)) (ecc : List (Fin 24 × Fin 4)) (corrected : Nat)
    (s : State) : Host.Outcome State Fault Refusal :=
  atPrint t (lineFetch n (blank.map fun b => (b.1.val, b.2)) (ecc.map fun e => (e.1.val, e.2.val)) corrected) s

/-! Firing (R145, R171, R223, R224, R271) -/

/-- SLOT_FIRED: a slot's last row instant passes. -/
def slotFired (n : Int) (s : State) : State :=
  match s.esc.slots.find? fun f => decide (s.esc.fired < f.n) with
  | none => s
  | some f =>
    if f.n ≠ n ∨ s.now < latest f then s
    else
      let here := presentSlot s
      let kept := s.esc.slots.filter fun g => decide (n - 1 ≤ g.n) || decide (here - 1 ≤ g.n)
      let s := noteSlot (fun _ => true) f s
      let s := { s with esc := { s.esc with fired := n, slots := kept } }
      settleFired s

/-- Receipts may close tickets and end pages. -/
def execReceiptReceived (t : Time) (lane : Fin 48) (group : BitVec 16) (bitmap : BitVec 64) (crc : BitVec 32) (s : State) :
    Host.Outcome State Fault Refusal :=
  atPrint t (fun s => settleFired (receiptReceived lane.val group bitmap crc s)) s

def execReceiptTimeout (t : Time) (m : Fin 24) (group : Int) (s : State) : Host.Outcome State Fault Refusal :=
  atPrint t (fun s => settleFired (receiptTimeout m.val group s)) s

/-! The queue at the end of a print (R131, R133) -/

/-- Every page in PRINTING leaves it: to CONSUMED where its last row has begun, else to RESIDENT. -/
def leavePages (s : State) : State :=
  each (s.mem.pages.filter fun p => p.state = .printing)
    (fun p => if pageRows p ≤ p.nextRow then consumePage p else returnPage p) s

/-- A drain completes: the current page with rows left goes to the head of the queue, pages committed to start follow it,
and gaps are dropped (R133). -/
def queueAfterDrain (standby : Bool) (s : State) : State :=
  let s := settlePitches s
  let first := match s.mem.current.bind (findPage s) with
    | some p => if p.nextRow < pageRows p then [p.id] else []
    | none => []
  let committed := plannedPages s
  let s := leavePages s
  { s with mem := { s.mem with
    queue := first ++ committed ++ s.mem.queue, plan := [], placing := none, current := none, pitches := [], spoilt := [],
    ended := false, committed := s.mem.committed && !standby } }

/-- Entry to SAFE: the queue is uncommitted; pages committed to start go back to its head, the current page does not
(R131). -/
def queueAfterSafe (s : State) : State :=
  let s := settlePitches s
  let committed := plannedPages s
  let s := leavePages s
  { s with mem := { s.mem with
    queue := committed ++ s.mem.queue, plan := [], placing := none, current := none, pitches := [], spoilt := [],
    ended := false, committed := false } }

end Sys2Proof.Machine
end

