-- ==== Sys2Proof/Machine/Imaging.lean ====
section
/-! DEFINITION. INS (12), the images: camera pipelines, registration of camera lines to bar lines, reconstruction,
statistics, output frames and the display surface. -/
namespace Sys2Proof.Machine

/-! Cameras -/

def camOf (s : State) (c : Nat) : Camera := tget {} s.ins.cameras c

def setCam (c : Nat) (v : Camera) (s : State) : State :=
  { s with ins := { s.ins with cameras := tset s.ins.cameras c v } }

def camCfg (s : State) (c : Nat) : Bytes := cfgGet s (.camera (Fin.ofNat 4 c))

/-- A pipeline is in RUN (R28). -/
def camRun (s : State) (c : Nat) : Bool := decide ((camOf s c).state ≠ 0)

/-- A pipeline is RUNNING (R242). -/
def camRunning (s : State) (c : Nat) : Bool := decide ((camOf s c).state = 2)

def cameraList : List Nat := [0, 1, 2, 3]

/-- Causes as a mask of four bits: PHY, ECC, SILENT, OVERRATE. -/
def camCauses (k : Camera) : Nat := maskOf 4 fun i => k.causes.contains i

/-- The camera's calibration runs under policy HOLD (R260). -/
def camStale (s : State) (c : Nat) : Bool :=
  s.cal.runs.any fun r => r.hold && (r.type == 2 || r.type == 3) && r.target == c && decide (2 ≤ r.state) && decide (r.state ≤ 5)

/-- EXPOSURE_SET's parameters before any commit (R7). -/
def exposureDefault (c : Nat) : Bytes :=
  leBytes 4 c ++ leBytes 4 10000 ++ leBytes 2 256 ++ zeros 2 ++ (List.replicate 5 4096).flatMap (leBytes 2) ++ zeros 2

def exposureOf (c : Nat) (k : Camera) : Bytes := if k.exposure.isEmpty then exposureDefault c else k.exposure

/-- A pipeline enters a state: EV_INS_CAMERA_STATE. Strips are numbered from 0 at each entry to WAITING, and an exposure
commit that waits takes effect on strip 0 of the new numbering (R250; log entry 60). -/
def camEnter (c new : Nat) (s : State) : State :=
  let k := camOf s c
  if k.state = new then s
  else
    let fresh := new = 1
    let k' := { k with
      state := new
      nextStrip := if fresh then 0 else k.nextStrip
      expected := if fresh then none else k.expected
      acked := if fresh then none else k.acked
      pending := if fresh then k.pending.map fun p => (p.1, 0, p.2.2) else k.pending
      causes := if new = 3 then k.causes else [] }
    raise 0x1A01 0x0A (leBytes 1 c ++ leBytes 1 k.state ++ leBytes 1 new ++ leBytes 1 (camCauses k')) (setCam c k' s)

/-! Registration (R241, R243, R245) -/

def pulseAt (s : State) (i : Int) : Option PulseRecord := s.enc.pulses.find? fun p => (p.index : Int) = i

/-- λ of a pulse for a strip. -/
def lambdaOf (st : Strip) (q : Int) : Int := q - (u32 st.setup 8 : Int) * 2 ^ 32 + st.along * 2 ^ 16

/-- Bar lines of a cell row. -/
def cellLines (s : State) : Nat := if lpi600 s then 6 else 12

/-- The cell row that contains a λ. -/
def cellRow (s : State) (l : Int) : Int := l / ((cellLines s : Int) * 2 ^ 32)

/-- Corrected centre of camera pixel x, in 1/(16 × 10^6) of a bar column (R241, R264). -/
def centre (origin : Nat) (delta scale : Int) (x : Nat) : Int :=
  16000000 * (origin : Int) + 16 * (3 * x + 1) * (1000000 + scale) + 1000000 * delta

/-- The centre lies in bar columns lo to hi. -/
def centreIn (b lo hi : Int) : Bool := decide (16000000 * lo ≤ b) && decide (b < 16000000 * (hi + 1))

/-- Pixels of a strip whose corrected centres lie in bar columns lo to hi. -/
def pixelsIn (st : Strip) (lo hi : Int) : List Nat :=
  (upTo 4352).filter fun x => centreIn (centre (u16 st.setup 6) st.delta st.scale x) lo hi

/-- A camera covers bar columns lo to hi with at least one pixel. -/
def camCovers (s : State) (c : Nat) (lo hi : Int) : Bool :=
  let k := camOf s c
  (upTo 4352).any fun x => centreIn (centre (u16 (camCfg s c) 6) k.delta k.scale x) lo hi

/-- λ that the line after a strip's last pulse has: that of the next pulse, or as far on as the last two lie apart. -/
def stripEnd (s : State) (st : Strip) : Option Int :=
  let e := st.start + st.length
  match pulseAt s e, pulseAt s (e - 1), pulseAt s (e - 2) with
  | some p, _, _ => some (lambdaOf st p.pos)
  | none, some a, some b => some (lambdaOf st (2 * a.pos - b.pos))
  | _, _, _ => none

/-- A strip that has ended holds a camera's image up to a bar line. -/
def imagedTo (s : State) (c : Nat) (l : Int) : Bool :=
  (camOf s c).done_.any fun st => match stripEnd s st with
    | some e => decide ((l + 1) * 2 ^ 32 ≤ e)
    | none => false

/-! Reconstruction (R246 to R248) -/

/-- Site of a pixel: 0 C, 1 R, 2 G, 3 B, 4 IR. -/
def site (setup : Bytes) (k x : Nat) : Nat :=
  let f := u8 setup 3
  let row := (k + bits f 3 2) % 4
  let col := (x + bits f 1 0) % 4
  ([[0, 1, 0, 2], [3, 0, 4, 0], [0, 2, 0, 1], [4, 0, 3, 0]].getD row []).getD col 0

def rawBits (setup : Bytes) : Nat := if bit (u8 setup 1) 0 then 12 else 10

def lineAt (st : Strip) (k : Nat) : Option CamLine := st.lines.find? fun l => decide (l.index = k) && !l.raw.isEmpty

def rawAt (st : Strip) (k x : Nat) : Option Nat := (lineAt st k).bind fun l => l.raw[x]?

/-- Normalisation to 8 bits (R247). -/
def normalise (st : Strip) (k x raw : Nat) : Nat :=
  let g := u16 st.exposure (12 + 2 * site st.setup k x)
  let v : Int := ((raw : Int) - u16 st.exposure 10) * g * (st.flat.getD x 4096 : Nat) / 2 ^ 24
  (clampI 0 255 (v / 2 ^ (rawBits st.setup - 8))).toNat

def valueAt (st : Strip) (k x : Nat) : Option Nat := (rawAt st k x).map (normalise st k x)

/-- Mean to the nearest value, halves up; none of an empty list. -/
def meanUp (l : List Nat) : Option Nat := if l.isEmpty then none else some ((2 * sumNat l + l.length) / (2 * l.length))

/-- Luma of a pixel. -/
def lumaAt (st : Strip) (k x : Nat) : Option Nat :=
  if (lineAt st k).isNone then none
  else if site st.setup k x = 0 then valueAt st k x
  else meanUp ((if x = 0 then [] else [(k, x - 1)]) ++ [(k, x + 1)] ++ (if k = 0 then [] else [(k - 1, x)]) ++ [(k + 1, x)]
    |>.filterMap fun q => if site st.setup q.1 q.2 = 0 then valueAt st q.1 q.2 else none)

/-- Colour value of block (X, Y): 1 R, 2 G, 3 B, 4 IR. -/
def blockAt (st : Strip) (color x y : Nat) : Option Nat :=
  let xs := (upTo 4352).filter fun a => decide (2 * x ≤ a + 1) && decide (a ≤ 2 * x + 2)
  let ys := (upTo st.length).filter fun b => decide (2 * y ≤ b + 1) && decide (b ≤ 2 * y + 2)
  meanUp (ys.flatMap fun b => xs.filterMap fun a => if site st.setup b a = color then valueAt st b a else none)

/-- Rounded to the nearest whole number, halves up, of a value in units of 10^-6. -/
def roundMicro (v : Int) : Int := (2 * v + 1000000) / 2000000

/-- Cb and Cr of a block. -/
def chromaAt (st : Strip) (x y : Nat) : Option (Nat × Nat) :=
  match blockAt st 1 x y, blockAt st 2 x y, blockAt st 3 x y with
  | some r, some g, some b =>
    let cb := roundMicro (128000000 - 168736 * (r : Int) - 331264 * g + 500000 * b)
    let cr := roundMicro (128000000 + 500000 * (r : Int) - 418688 * g - 81312 * b)
    some ((clampI 0 255 cb).toNat, (clampI 0 255 cr).toNat)
  | _, _, _ => none

/-- A channel's value at a pixel: 0 C is luma, the others the value of the pixel's block. -/
def channelAt (st : Strip) (ch k x : Nat) : Option Nat :=
  if ch = 0 then lumaAt st k x else if (lineAt st k).isNone then none else blockAt st ch (x / 2) (k / 2)

/-! Statistics (R249) -/

/-- Values of a site colour over the lines received: normalised and raw. -/
def siteValues (st : Strip) (color : Nat) : List (Nat × Nat) :=
  st.lines.flatMap fun l => (upTo l.raw.length).filterMap fun x =>
    if site st.setup l.index x = color then (rawAt st l.index x).map fun r => (normalise st l.index x r, r) else none

/-- Mean of v in units of 1/256; none where no pixel of the colour was received. -/
def siteMean (st : Strip) (color : Nat) : Option Nat := meanUp ((siteValues st color).map fun v => 256 * v.1)

/-- Pixels at the sensor's maximum code. -/
def saturated (st : Strip) (color : Nat) : Nat :=
  ((siteValues st color).filter fun v => v.2 = 2 ^ rawBits st.setup - 1).length

/-! Output frames (R251, R252) -/

/-- Strip buffers of each camera (R251). -/
def stripBuffers (s : State) : Nat := 8 + 16 * (insRegionGib s - 1)

/-- Bytes with free values in place of those the manual leaves open: what a plane holds for a line not received. -/
def fillFree (tag base : Nat) (l : List (Option Nat)) : Bytes :=
  (l.zip (upTo l.length)).map fun v => BitVec.ofNat 8 (v.1.getD (Config.freeNat tag (base + v.2)))

/-- Lines that a frame carries. -/
def frameLines (st : Strip) : Nat := min st.count st.length

/-- Bytes of a plane, padded to a multiple of 64. -/
def planeSize (n plane : Nat) : Nat :=
  match plane with
  | 0 => n * 4352
  | 1 => (n + 1) / 2 * 4352
  | 2 => (n + 1) / 2 * 2176
  | _ => (n * 544 + 63) / 64 * 64

def planesOf (mask : Nat) : List Nat := (upTo 4).filter (bit mask)

def planesSize (st : Strip) (mask : Nat) : Nat := sumNat ((planesOf mask).map (planeSize (frameLines st)))

/-- A plane's bytes. -/
def planeBytes (k : Stored) (plane : Nat) : List (Option Nat) :=
  let st := k.strip
  let n := frameLines st
  let half := (n + 1) / 2
  match plane with
  | 0 => (upTo n).flatMap fun y => (upTo 4352).map (lumaAt st y)
  | 1 => (upTo half).flatMap fun y => (upTo 2176).flatMap fun x =>
      let v := chromaAt st x y
      [v.map (·.1), v.map (·.2)]
  | 2 => (upTo half).flatMap fun y => (upTo 2176).map fun x => blockAt st 4 x y
  | _ =>
    let rows := (upTo n).flatMap fun y => (upTo 544).map fun i =>
      if (lineAt st y).isNone then none
      else some (maskOf 8 fun b => match lumaAt st y (8 * i + b) with
        | some v => decide (v < k.bin)
        | none => false)
    rows ++ (List.replicate (planeSize n 3 - rows.length) (some 0))

/-- A frame, or with length 0 a wrap frame. -/
def stripFrame (c : Nat) (phase : Bool) (k : Option Stored) : Bytes :=
  match k with
  | none => zeros 4 ++ leBytes 4 (b2n phase) ++ zeros 56
  | some k =>
    let st := k.strip
    leBytes 4 (planesSize st k.mask) ++ leBytes 4 (b2n phase) ++ leBytes 4 st.number ++ leBytes 1 c ++ leBytes 1 st.epoch
      ++ leBytes 2 st.flags ++ leBytes 2 (frameLines st) ++ leBytes 1 k.mask ++ [0] ++ seBytes 4 st.start
      ++ seBytes 8 (lambdaOf st st.pos0) ++ timeBytes st.t0 ++ zeros 20
      ++ fillFree 7 k.free ((planesOf k.mask).flatMap (planeBytes k))

/-- Ring bytes of a frame. -/
def stripFrameSize (k : Stored) : Nat := 64 + planesSize k.strip k.mask

def outputUsed (k : Camera) : Nat := sumNat (k.stored.map fun x => match x.frame with | some f => f.2 | none => 0)

/-- A strip is stored for delivery where its stream is enabled and a buffer is free (R251). -/
def storeStrip (c : Nat) (st : Strip) (s : State) : State :=
  let k := camOf s c
  if !k.enabled then s
  else if stripBuffers s ≤ k.stored.length then
    raise 0x2A03 0x0A (leBytes 1 c ++ zeros 3 ++ leBytes 4 1 ++ leBytes 4 st.number)
      (setCam c { k with outDrop := satInc 32 k.outDrop } s)
  else
    let v : Stored := { strip := st, mask := k.mask, bin := u8 (cfgGet s .compare) 11, free := s.freeCtr }
    { setCam c { k with stored := k.stored ++ [v] } s with freeCtr := s.freeCtr + planesSize st k.mask }

/-- INS_FRAME_DELIVERY: the oldest stored strip not delivered goes into the ring once space is free (R229, R252). -/
def insDelivery (c : Nat) (ok : Bool) (s : State) : State :=
  let k := camOf s c
  match k.stored.find? fun x => x.frame.isNone with
  | none => s
  | some x =>
    let len := stripFrameSize x
    let wrap := decide (k.size < k.offset + len)
    let used := if wrap then k.size - k.offset + len else len
    if !k.enabled || decide (k.size < len) || decide (k.size < outputUsed k + used) then s
    else if !ok || !dmaOk s then
      raise 0x3A02 0x0A (leBytes 1 c ++ zeros 3 ++ leBytes 4 x.strip.number ++ leBytes 8 (k.base + (if wrap then 0 else k.offset)))
        (setCam c { k with enabled := false } s)
    else
      let s := if wrap && decide (k.offset < k.size) then send (.frame c k.offset (stripFrame c k.phase none)) s else s
      let at_ := if wrap then 0 else k.offset
      let ph := if wrap then !k.phase else k.phase
      let s := send (.frame c at_ (stripFrame c ph (some x))) s
      let put : Stored → Stored := fun y =>
        if y.strip.number = x.strip.number ∧ y.frame.isNone then { y with frame := some (at_, used) } else y
      setCam c { k with offset := at_ + len, phase := ph, stored := k.stored.map put } s

def execInsFrameDelivery (t : Time) (c : Fin 4) (ok : Bool) (s : State) : Host.Outcome State Fault Refusal :=
  atTime t (insDelivery c.val ok) s

/-! Display surface (R253) -/

def displayDiv (s : State) : Nat := 2 ^ (1 + bits (u8 (cfgGet s .display) 0) 2 1)
def displayWidth (s : State) : Nat := u16 (cfgGet s .display) 2
def displayHeight (s : State) : Nat := u16 (cfgGet s .display) 4
def displayOrigin (s : State) : Nat := u16 (cfgGet s .display) 6

/-- The lowest-numbered RUNNING camera whose pixels cover a bar column. -/
def displayCamera (s : State) (b : Nat) : Option Nat :=
  cameraList.find? fun c => camRunning s c && camCovers s c b b

/-- Strip and line of a camera for a pulse. -/
def stripOf (s : State) (c : Nat) (pulse : Int) : Option (Strip × Nat) :=
  ((camOf s c).done_.find? fun st => decide (st.start ≤ pulse) && decide (pulse < st.start + st.length)).map
    fun st => (st, (pulse - st.start).toNat)

/-- Luma of a surface pixel; none where none of its camera's pixels was received. -/
def displayLuma (s : State) (r x : Nat) : Option Nat :=
  let d := displayDiv s
  let lo := displayOrigin s + 3 * d * x
  match displayCamera s (lo + (3 * d - 1) / 2) with
  | none => some 0
  | some c => meanUp ((upTo d).flatMap fun i => match stripOf s c (r * d + i : Nat) with
      | some (st, k) => (pixelsIn st lo (lo + 3 * d - 1 : Nat)).filterMap (lumaAt st k)
      | none => [])

/-- Cb and Cr of a chroma sample that spans two surface pixels and `rows` surface rows from row r. -/
def displayChroma (s : State) (r rows x : Nat) : Option Nat × Option Nat :=
  let d := displayDiv s
  let lo := displayOrigin s + 6 * d * x
  match displayCamera s (lo + (6 * d - 1) / 2) with
  | none => (some 128, some 128)
  | some c =>
    let blocks := ((upTo (rows * d)).flatMap fun i => match stripOf s c (r * d + i : Nat) with
      | some (st, k) => (pixelsIn st lo (lo + 6 * d - 1 : Nat)).map fun p => (st.number, p / 2, k / 2)
      | none => []).eraseDups
    let vals := blocks.filterMap fun b => ((camOf s c).done_.find? fun st => st.number = b.1).bind fun st => chromaAt st b.2.1 b.2.2
    (meanUp (vals.map (·.1)), meanUp (vals.map (·.2)))

/-- The surface bytes that a row fixes: offsets from the start of the INS region. -/
def displayCells (s : State) (r : Nat) : List (Nat × Option Nat) :=
  let w := displayWidth s
  let h := displayHeight s
  let q := r % h
  let luma := (upTo w).map fun x => (q * w + x, displayLuma s r x)
  let pair (base : Nat) (x : Nat) (v : Option Nat × Option Nat) : List (Nat × Option Nat) :=
    [(base + 2 * x, v.1), (base + 2 * x + 1, v.2)]
  let chroma :=
    if bit (u8 (cfgGet s .display) 0) 0 then (upTo (w / 2)).flatMap fun x => pair (w * h + q * w) x (displayChroma s r 1 x)
    else if q % 2 = 1 then (upTo (w / 2)).flatMap fun x => pair (w * h + q / 2 * w) x (displayChroma s (r - 1) 2 x)
    else []
  luma ++ chroma

/-- One display row is written. -/
def displayRow (r : Nat) (s : State) : State :=
  let cells := displayCells s r
  let bytes := (cells.map (·.1)).zip (fillFree 8 s.freeCtr (cells.map (·.2)))
  { s with
    freeCtr := s.freeCtr + cells.length
    ins := { s.ins with
      surface := bytes.foldl (fun m b => memWrite b.1 b.2 m) s.ins.surface
      displayRow := s.ins.displayRow + 1, displayNext := r + 1 } }

/-- The rows whose pulses lie in ended strips of every RUNNING camera are written. -/
def displayStrips (s : State) : State :=
  let heads := (cameraList.filter (camRunning s)).map fun c => (camOf s c).done_.head?
  if heads.isEmpty || heads.any (·.isNone) then s
  else
    let strips := heads.filterMap id
    let d := displayDiv s
    let first := (strips.map fun st => st.start.toNat).foldl min 0xFFFFFFFFFFFF
    let ends := (strips.map fun st => (st.start + st.length).toNat).foldl min 0xFFFFFFFFFFFF
    let from_ := max s.ins.displayNext ((first + d - 1) / d)
    each (upTo (ends / d - from_)) (fun i s => displayRow (from_ + i) s) s

end Sys2Proof.Machine
end

