-- ==== Sys2Proof/Machine/Inspect.lean ====
section
/-! DEFINITION. INS (12), the judgments: cells and verdicts, nozzle-check stripes, strips and camera states, and INS's
commands. -/
namespace Sys2Proof.Machine

/-! Cells (R245, R254, R255) -/

/-- Pulses of a strip that are missing lines: not placed, in error, or not sent (R243, R244). -/
def missingPulses (st : Strip) : List Int :=
  let gap := (upTo (st.start - st.missedFrom).toNat).map fun (i : Nat) => st.missedFrom + (i : Int)
  let bad := (st.lines.filter fun l => l.raw.isEmpty).map fun l => st.start + (l.index : Int)
  let tail := (upTo (st.length - st.count)).map fun (i : Nat) => st.start + ((st.count + i : Nat) : Int)
  gap ++ bad ++ tail

/-- A cell row as a camera saw it: the good lines in it, whether a line of it is missing, and whether a fault or stop of
the camera is why. -/
structure RowSeen where
  good : List (Strip × Nat)
  missing : Bool
  cut : Bool

def rowSeen (s : State) (c : Nat) (i : Int) : RowSeen :=
  let strips := (camOf s c).done_
  let inRow (st : Strip) (n : Int) : Bool := match pulseAt s n with
    | some p => decide (cellRow s (lambdaOf st p.pos) = i)
    | none => false
  let lost := strips.filter fun st => (missingPulses st).any (inRow st)
  { good := strips.flatMap fun st =>
      (st.lines.filter fun l => !l.raw.isEmpty && decide (cellRow s (lambdaOf st l.q) = i)).map fun l => (st, l.index)
    missing := !lost.isEmpty
    cut := lost.any fun st => st.cut }

/-- A camera inspects the cells of a row in the columns it covers (R245). -/
def rowInspected (r : RowSeen) : Bool := !r.good.isEmpty && !r.missing

/-- Whole cells of a ticket less its guard cells: first and last of rows and of columns (R256). -/
def ticketRows (s : State) (k : InsTicket) : Int × Int :=
  let p : Int := cellLines s
  let g : Int := u8 k.compare 2
  ((k.first + p - 1) / p + g, (k.first + k.pitch) / p - 1 - g)

def ticketCols (k : InsTicket) : Int × Int :=
  let g : Int := u8 k.compare 2
  ((k.lo + 11) / 12 + g, (k.hi + 1) / 12 - 1 - g)

def intRange (a b : Int) : List Int := (upTo (b + 1 - a).toNat).map fun (i : Nat) => a + (i : Int)

/-- Included columns: those with no unfetched column (R254). -/
def includedCols (k : InsTicket) : List Int :=
  (intRange (ticketCols k).1 (ticketCols k).2).filter fun j => decide (k.fetchLo ≤ 12 * j) && decide (12 * j + 11 ≤ k.fetchHi)

def includedRows (s : State) (k : InsTicket) : List Int := intRange (ticketRows s k).1 (ticketRows s k).2

/-- Cameras that cover some included cell. -/
def coveringCams (s : State) (k : InsTicket) : List Nat :=
  if (includedRows s k).isEmpty then []
  else cameraList.filter fun c => (includedCols k).any fun j => camCovers s c (12 * j) (12 * j + 11)

/-- The expected-density cell value (R254). -/
def cellExpected (s : State) (k : InsTicket) (i j : Int) : Nat :=
  let p := cellLines s
  let weight (c : Nat) : Nat := if c = 0 then 0 else u8 k.compare (7 + c)
  sumNat ((upTo (12 * p)).map fun q =>
    let line := i * p + (q / 12 : Nat) - k.origin
    let col := 12 * j + (q % 12 : Nat) + k.shift
    weight (if line < 0 ∨ col < 0 then 0 else dotCode k.data line.toNat col.toNat)) / (12 * p)

/-- The ink-channel values of a camera in a cell. -/
def cellValues (ch : Nat) (r : RowSeen) (j : Int) : List Nat :=
  r.good.flatMap fun l => (pixelsIn l.1 (12 * j) (12 * j + 11)).filterMap (channelAt l.1 ch l.2)

/-- A cell passes for the camera that gives its density (R255). -/
def cellPasses (s : State) (k : InsTicket) (c : Nat) (r : RowSeen) (i j : Int) : Bool :=
  let ch := u8 k.compare 1
  let vs := cellValues ch r j
  let want := cellExpected s k i j
  let e : Int := (tget want (camOf s c).xfer (ch, want) : Nat)
  let n : Int := vs.length
  decide ((255 * n - sumNat vs - e * n).natAbs ≤ u8 k.compare 3 * vs.length)

/-! Verdicts (R256, R257) -/

/-- What a ticket's cells give: included, inspected, passing, a cell lost to missing lines alone, the inspecting cameras,
and their contributing strips. -/
structure CellTally where
  included : Nat := 0
  inspected : Nat := 0
  passed : Nat := 0
  missing : Bool := false
  cameras : List Nat := []
  flags : Nat := 0

/-- One included cell. -/
def tallyCell (s : State) (k : InsTicket) (seen : List (Nat × RowSeen)) (i j : Int) (a : CellTally) : CellTally :=
  let here := seen.filter fun x => camCovers s x.1 (12 * j) (12 * j + 11)
  let by_ := here.filter fun x => rowInspected x.2
  let a := { a with included := a.included + 1 }
  match by_ with
  | [] =>
    let fault := here.any fun x => x.2.cut || (camOf s x.1).state == 0 || (camOf s x.1).state == 3
    { a with missing := a.missing || (here.any (fun x => x.2.missing) && !fault) }
  | x :: _ => { a with
      inspected := a.inspected + 1
      passed := a.passed + b2n (cellPasses s k x.1 x.2 i j)
      cameras := (a.cameras ++ by_.map (·.1)).eraseDups
      flags := by_.foldl (fun f y => y.2.good.foldl (fun f l => f ||| l.1.flags) f) a.flags }

def tallyCells (s : State) (k : InsTicket) : CellTally :=
  let cols := includedCols k
  (includedRows s k).foldl (fun a i =>
    let seen := (coveringCams s k).map fun c => (c, rowSeen s c i)
    cols.foldl (fun a j => tallyCell s k seen i j a) a) {}

/-- Verdict (1 PASS, 2 FAIL, 3 UNVERIFIED) and score (R256). -/
def verdictOf (cfg : Bytes) (a : CellTally) : Nat × Nat :=
  if !bit (u8 cfg 0) 0 then (3, 0)
  else if a.included = 0 then (3, 0)
  else if bit (u8 cfg 0) 1 && a.missing then (2, 10000 * a.passed / a.included)
  else
    let score := if a.inspected = 0 then 0 else 10000 * a.passed / a.inspected
    if 10000 * a.inspected < u16 cfg 6 * a.included then (3, score)
    else if u16 cfg 4 * a.inspected ≤ 10000 * a.passed then (1, score)
    else (2, score)

/-- INS gives a ticket its verdict. -/
def giveVerdict (k : InsTicket) (s : State) : State :=
  let a := if bit (u8 k.compare 0) 0 then tallyCells s k else {}
  let v := verdictOf k.compare a
  let s := { s with ins := { s.ins with
    tickets := s.ins.tickets.filter fun x => x.id ≠ k.id
    verdicts := tmod 0 s.ins.verdicts (v.1 - 1) (· + 1)
    lastScore := v.2, lastVerdict := v.1 } }
  let s := if bit a.flags 4 then flagTickets 256 (fun x => x.id == k.id) s else s
  ldgVerdict k.id v.1 v.2 (maskOf 4 fun c => a.cameras.contains c) (a.flags % 4 != 0) s

/-- The last bar line whose image decides a ticket: of its last included cell row, else its last (R257). -/
def ticketLast (s : State) (k : InsTicket) : Int :=
  let r := ticketRows s k
  if r.2 < r.1 ∨ (includedCols k).isEmpty then k.first + k.pitch - 1 else (r.2 + 1) * cellLines s - 1

/-- The position has reached a bar line's imaging point under a camera. -/
def momentCome (s : State) (c : Nat) (l : Int) : Bool :=
  decide ((l + u32 (camCfg s c) 8) * 2 ^ 32 + (camOf s c).along * 2 ^ 16 ≤ webLine s s.now)

/-- Cameras become done with tickets: their strips have ended, or `left` says so. -/
def noteDone (left : InsTicket → Nat → Bool) (s : State) : State :=
  let mark : InsTicket → InsTicket := fun k =>
    { k with done_ := k.done_ ++ (coveringCams s k).filter fun c =>
        !k.done_.contains c && (left k c || (camRunning s c && imagedTo s c (ticketLast s k))) }
  { s with ins := { s.ins with tickets := s.ins.tickets.map mark } }

/-- The tickets whose covering cameras are all done get their verdicts. -/
def settleVerdicts (s : State) : State :=
  each (s.ins.tickets.filter fun k =>
    let cs := coveringCams s k
    !cs.isEmpty && cs.all fun c => k.done_.contains c) giveVerdict s

/-- VERDICT_MOMENT: a covering camera that is not RUNNING counts as done. A ticket that no camera covers is judged when
the first camera's imaging point is reached (log entry 61). -/
def verdictMoment (s : State) : State :=
  let s := settleVerdicts (noteDone (fun k c => !camRunning s c && momentCome s c (ticketLast s k)) s)
  each (s.ins.tickets.filter fun k =>
    (coveringCams s k).isEmpty && cameraList.any fun c => momentCome s c (ticketLast s k)) giveVerdict s

/-! Nozzle-check stripes (R258, R259) -/

/-- The bar line of a page line of a stripe. -/
def stripeLine (k : Stripe) (line : Nat) : Option Int :=
  (k.spans.find? fun p => decide (p.1 ≤ line) && decide (line < p.1 + p.2.1)).map fun p => p.2.2 + ((line - p.1 : Nat) : Int)

/-- The pixel that covers a bar column: the one whose corrected centre is nearest. -/
def pixelFor (st : Strip) (b : Int) : Option Nat :=
  (upTo 4352).find? fun x => decide (2 * (centre (u16 st.setup 6) st.delta st.scale x - 16000000 * b).natAbs ≤ 48000000)

/-- Darkness that a camera line shows at a bar column. -/
def darkness (st : Strip) (k : Nat) (b : Int) : Option Nat := (pixelFor st b).bind fun x => (lumaAt st k x).map (255 - ·)

/-- D of a segment and page column: summed over the camera lines in the segment's middle 16 lines; none where a line of
them is missing. -/
def stripeSum (s : State) (k : Stripe) (g p : Nat) : Option Nat :=
  let b : Int := (p : Int) - k.shift
  let lines := (upTo 16).filterMap fun i => stripeLine k (k.l0 + 24 * g + 4 + i)
  let inside (st : Strip) (q : Int) : Bool := lines.contains (lambdaOf st q / 2 ^ 32)
  (cameraList.find? fun c => camCovers s c b b).bind fun c =>
    let strips := (camOf s c).done_
    let lost := strips.any fun st => (missingPulses st).any fun n => match pulseAt s n with
      | some q => inside st q.pos
      | none => false
    let vals := strips.flatMap fun st =>
      (st.lines.filter fun l => inside st l.q).map fun l => darkness st l.index b
    if lost || vals.isEmpty || vals.any (·.isNone) then none else some (sumNat (vals.filterMap id))

/-- Inserts by a key. -/
def insertKey {α : Type} (key : α → Nat) (a : α) : List α → List α
  | [] => [a]
  | b :: r => if key a < key b then a :: b :: r else b :: insertKey key a r

def sortKey {α : Type} (key : α → Nat) (l : List α) : List α := l.foldl (fun r a => insertKey key a r) []

/-- Twice the median. -/
def median2 (l : List Nat) : Nat :=
  let v := sortNat l
  let n := v.length
  if n % 2 = 1 then 2 * v.getD (n / 2) 0 else v.getD (n / 2 - 1) 0 + v.getD (n / 2) 0

/-- The judgments of one segment: nozzle and 0 OK, 1 OUT, 2 WEAK. -/
def judgeSegment (s : State) (k : Stripe) (g : Nat) : List (Nat × Nat) :=
  let cfg := cfgGet s .compare
  let cols := ((upTo (k.hi + 1 - k.lo)).map (k.lo + ·)).filter fun (p : Nat) => decide (((p : Int) - k.shift) % 6 = (g / 2 : Nat))
  let sums := cols.filterMap fun p => (stripeSum s k g p).map fun d => (p, d)
  sums.filterMap fun x =>
    let near := (sortKey (fun y : Nat × Nat => ((y.1 : Int) - x.1).natAbs) (sums.filter fun y => y.1 ≠ x.1)).take 32
    match k.made.find? fun e => e.1 = (g, x.1) with
    | some (_, some n) =>
      if near.isEmpty then none
      else
        let r := median2 (near.map (·.2))
        some (n, if 200 * x.2 < u8 cfg 12 * r then 1 else if 200 * x.2 < u8 cfg 13 * r then 2 else 0)
    | _ => none

/-- One nozzle's judgment of one stripe: confirm_count bad ones in a row are a detection (R259). -/
def noteJudgment (n st : Nat) (s : State) : State :=
  if st = 0 then { s with ins := { s.ins with bad := terase s.ins.bad n } }
  else
    let b := tget (0, 0) s.ins.bad n
    let count := b.1 + 1
    let bad := worse b.2 st
    if u8 (cfgGet s .compare) 14 ≤ count then
      detectNozzle n bad { s with ins := { s.ins with
        bad := terase s.ins.bad n
        detectOut := if bad = 1 then satInc 16 s.ins.detectOut else s.ins.detectOut
        detectWeak := if bad = 2 then satInc 16 s.ins.detectWeak else s.ins.detectWeak } }
    else { s with ins := { s.ins with bad := tset s.ins.bad n (count, bad) } }

/-- A stripe is judged, or found not to hold the pattern, and removed. -/
def judgeStripe (k : Stripe) (s : State) : State :=
  let marks := if k.bad then [] else (upTo 12).flatMap (judgeSegment s k)
  let nozzles := (marks.map (·.1)).eraseDups
  let result := nozzles.map fun n => (n, (marks.filter fun m => m.1 = n).foldl (fun a m => worse a m.2) 0)
  let count (st : Nat) : Nat := (result.filter fun r => r.2 = st).length
  let s := { s with ins := { s.ins with
    stripes := s.ins.stripes.filter fun x => !(x.page = k.page ∧ x.l0 = k.l0 ∧ x.lo = k.lo ∧ x.hi = k.hi)
    stripesDone := if k.bad then s.ins.stripesDone else s.ins.stripesDone + 1 } }
  let s := each result (fun r s => noteJudgment r.1 r.2 s) s
  raise 0x1A03 0x0A (leBytes 4 k.page ++ leBytes 2 k.l0 ++ leBytes 1 (b2n k.bad) ++ [0] ++ leBytes 2 nozzles.length
    ++ leBytes 2 (count 1) ++ leBytes 2 (count 2)) s

/-- Every line of a stripe has begun, and each camera over its columns has imaged it or does not run. -/
def stripeSeen (s : State) (k : Stripe) : Bool :=
  let b := k.lo - k.shift
  let e := k.hi - k.shift
  let cs := cameraList.filter fun c => camCovers s c b e
  decide (288 ≤ sumNat (k.spans.map fun p => p.2.1)) && (match stripeLine k (k.l0 + 287) with
    | some l => cs.all (fun c => if camRunning s c then imagedTo s c l else momentCome s c l)
        && (!cs.isEmpty || cameraList.any fun c => momentCome s c l)
    | none => false)

def settleStripes (s : State) : State := each (s.ins.stripes.filter (stripeSeen s)) judgeStripe s

def execVerdictMoment (t : Time) (s : State) : Host.Outcome State Fault Refusal :=
  atTime t (fun s => settleStripes (verdictMoment s)) s

/-! Strips (R242 to R244, R249 to R251, R260) -/

/-- Strips kept: the last 16, and those that pending tickets, stripes and the patch in use may still need. -/
def keepStrips (s : State) (l : List Strip) : List Strip :=
  let used := s.cal.laid.filter fun k => s.cal.runs.any fun r => r.patch == some (k.page, k.l0) && r.type == k.type
  let stripes := s.ins.stripes.flatMap fun k => k.spans.map fun p => p.2.2
  let first := (s.ins.tickets.map (·.first) ++ stripes ++ used.map (·.from_)).foldl min (2 ^ 63)
  l.take 16 ++ (l.drop 16).filter fun st => match stripEnd s st with
    | some e => decide (first * 2 ^ 32 ≤ e)
    | none => true

/-- EV_INS_STRIP_LENGTH. -/
def stripLengthEvent (c : Nat) (long : Bool) (st : Strip) (s : State) : State :=
  raise 0x2A01 0x0A (leBytes 1 c ++ leBytes 1 (b2n long) ++ leBytes 2 st.length ++ leBytes 2 st.count ++ zeros 2
    ++ leBytes 4 st.number ++ leBytes 1 st.epoch) s

/-- Lines of a strip up to its last good one. -/
def goodLength (st : Strip) : Nat := (st.lines.filter fun l => !l.raw.isEmpty).foldl (fun n l => max n (l.index + 1)) 0

/-- The strip in progress ends: judged, kept, stored and shown. -/
def endStrip (cut : Bool) (c : Nat) (s : State) : State :=
  let k := camOf s c
  match k.current with
  | none => s
  | some st =>
    let st := if cut then { st with cut := true, count := goodLength st } else st
    let short := decide (st.count < st.length)
    let long := decide (st.length < st.count)
    let st := { st with flags := st.flags ||| b2n short ||| (2 * b2n long) ||| (16 * b2n (camStale s c)) }
    let s := setCam c { k with
      current := none, done_ := keepStrips s (st :: k.done_), trunc := if short then satInc 16 k.trunc else k.trunc } s
    let s := if short || long then stripLengthEvent c long st s else s
    displayStrips (storeStrip c st s)

/-- FRAME_END (R244). -/
def frameEnd (c : Nat) (s : State) : State :=
  if camRunning s c then settleStripes (settleVerdicts (noteDone (fun _ _ => false) (endStrip false c s))) else s

/-- A pipeline leaves RUNNING for STOPPED or FAULTY: the strip ends, the camera is done with its tickets, and its
calibration runs lose their channel (R242, R257, R261, R266). -/
def camLeave (c new : Nat) (s : State) : State :=
  let was := camRunning s c
  let s := if was then endStrip true c s else s
  let s := cameraSource c (camEnter c new s)
  if was then settleStripes (settleVerdicts (noteDone (fun _ d => d == c) s)) else s

/-- The exposure epoch for a new strip: a pending commit takes effect on its strip (R250). -/
def applyExposure (c number : Nat) (s : State) : State :=
  let k := camOf s c
  match k.pending with
  | some (e, n, p) =>
    if n ≤ number then
      raise 0x1A02 0x0A (leBytes 1 c ++ leBytes 1 e ++ zeros 2 ++ leBytes 4 number)
        (setCam c { k with epoch := e, exposure := p, pending := none } s)
    else s
  | none => s

/-- EV_INS_LINE_ERR, at most once per camera per millisecond: `more` line errors have come. -/
def lineErrReport (c cause more : Nat) (s : State) : State :=
  let k := camOf s c
  let n := match k.current with
    | some st => st.number
    | none => k.nextStrip
  let r := rateHit s.now more n cause k.lineRate
  let s := setCam c { k with lineRate := r.2 } s
  match r.1 with
  | some (m, f, q) => raise 0x2A04 0x0A (leBytes 1 c ++ leBytes 1 q ++ leBytes 2 (min 0xFFFF m) ++ leBytes 4 f.toNat) s
  | none => s

/-- An error or an ignored packet: counted and reported. -/
def lineErrEvent (c cause : Nat) (s : State) : State :=
  lineErrReport c cause 1 (setCam c { camOf s c with lineErr := satInc 32 (camOf s c).lineErr } s)

/-- A Frame Start places a strip (R243). -/
def placeStrip (c : Nat) (p : Int) (s : State) : State :=
  let s := endStrip false c s
  let cfg := camCfg s c
  let k := camOf s c
  let start := p - u8 cfg 15
  let number := k.nextStrip
  let s := applyExposure c number s
  let s := camEnter c 2 s
  let k := camOf s c
  let unsynced := match k.expected with
    | some e => decide (e ≠ start)
    | none => false
  let from_ := match k.expected with
    | some e => min e start
    | none => start
  let first := pulseAt s start
  let a := drawInt 9 s
  let b := drawNat 9 a.2
  let st : Strip := {
    number := number, epoch := k.epoch, flags := 8 * b2n unsynced + 16 * b2n (camStale s c), start := start,
    missedFrom := from_, length := u16 cfg 4, setup := cfg, exposure := exposureOf c k, delta := k.delta,
    scale := k.scale, along := k.along, flat := k.flat,
    pos0 := match first with
      | some q => q.pos
      | none => a.1
    t0 := match first with
      | some q => q.t
      | none => b.1 }
  let s := if first.isSome then s else b.2
  let s := setCam c { k with
    current := some st, nextStrip := (number + 1) % 2 ^ 32, expected := some (start + u16 cfg 4),
    lastLine := if k.expected = none then s.now else k.lastLine,
    syncErr := if unsynced then satInc 32 k.syncErr else k.syncErr } s
  if unsynced then
    raise 0x2A02 0x0A (leBytes 1 c ++ zeros 3 ++ leBytes 4 number ++ seBytes 4 (start - k.expected.getD start)) s
  else s

/-- FRAME_START. -/
def frameStart (c channel : Nat) (s : State) : State :=
  let k := camOf s c
  if k.state = 0 then s
  else if channel ≠ 0 then lineErrEvent c 3 s
  else if k.state = 3 then s
  else match s.enc.pulses.find? fun p => decide (p.t < s.now) with
    | some p => placeStrip c p.index s
    | none => s

/-- A line of the strip in progress (R243, R244). -/
def takeLine (c : Nat) (p : CsiPacket) (st : Strip) (s : State) : State :=
  let k := camOf s c
  let n := st.count
  if st.length ≤ n then
    setCam c { k with current := some { st with count := n + 1 }, overlong := satInc 16 k.overlong } s
  else
    let q := pulseAt s (st.start + n)
    let cause := if !p.crcOk then 1 else if p.pixels.length ≠ 4352 then 2 else if q.isNone then 4 else 0
    let raw := if bit (u8 st.setup 1) 1 then p.pixels.reverse else p.pixels
    let line : CamLine := {
      index := n, raw := if cause = 0 then raw else []
      q := match q with
        | some r => r.pos
        | none => 0
      t := match q with
        | some r => r.t
        | none => 0 }
    let st := { st with
      count := n + 1, lines := st.lines ++ [line], flags := if cause = 0 then st.flags else st.flags ||| 4 }
    let s := setCam c { k with current := some st } s
    if cause = 0 then s else lineErrEvent c cause s

/-- CSI_LINE: a packet arrives (R240, R242, R244). -/
def csiLine (c : Nat) (p : CsiPacket) (s : State) : State :=
  let k := camOf s c
  let want : BitVec 6 := if bit (u8 (camCfg s c) 1) 0 then 0x2C else 0x2B
  if k.state = 0 then s
  else if !p.headerOk then
    setCam c { k with headerErrs := (s.now :: k.headerErrs).filter fun u => decide (s.now < u + tpMs) } s
  else if p.channel ≠ 0 then lineErrEvent c 3 s
  else if p.dataType ≠ want then s
  else
    let k := { k with
      lastLine := s.now, lineTimes := (s.now :: k.lineTimes).filter fun u => decide (s.now < u + 100 * tpUs) }
    let s := setCam c k s
    match k.state, k.current with
    | 2, some st => takeLine c p st s
    | _, _ => s

def execCsiLine (t : Time) (c : Fin 4) (p : CsiPacket) (s : State) : Host.Outcome State Fault Refusal :=
  atTime t (csiLine c.val p) s

/-! Faults (R242) -/

/-- What makes a cause real: PHY is what the receiver reports; ECC and OVERRATE follow from the packets; SILENT from the
pulses. -/
def causeHolds (s : State) (c cause : Nat) : Bool :=
  let k := camOf s c
  match cause with
  | 0 => true
  | 1 => decide (4 ≤ k.headerErrs.length)
  | 2 =>
    let since := s.enc.pulses.filter fun p => decide (k.lastLine < p.t) && decide (p.t ≤ s.now)
    match since.head?, since.getLast? with
    | some a, some b => decide (u16 (camCfg s c) 16 * tpMs ≤ a.t - b.t)
    | _, _ => false
  | _ => decide (18 < k.lineTimes.length)

/-- CAMERA_FAULT and CAMERA_SILENT: a cause takes the pipeline to FAULTY, or is seen again there. -/
def cameraFault (c cause : Nat) (s : State) : State :=
  let k := camOf s c
  if !causeHolds s c cause then s
  else if k.state = 3 then
    setCam c { k with causeAt := s.now, causes := if k.causes.contains cause then k.causes else k.causes ++ [cause] } s
  else if k.state ≠ 2 then s
  else
    let s := setCam c { k with causes := [cause], causeAt := s.now } s
    let s := raise 0x3A01 0x0A (leBytes 1 c ++ leBytes 1 (8 + cause) ++ zeros 2 ++ timeBytes s.now) s
    camLeave c 3 s

def execCameraFault (t : Time) (c cause : Fin 4) (s : State) : Host.Outcome State Fault Refusal :=
  atTime t (fun s => if cause.val = 2 then s else cameraFault c.val cause.val s) s

def execCameraSilent (t : Time) (c : Fin 4) (s : State) : Host.Outcome State Fault Refusal :=
  atTime t (cameraFault c.val 2) s

/-- CAMERA_RECOVER: every cause absent for 100 ms. -/
def cameraRecover (c : Nat) (s : State) : State :=
  let k := camOf s c
  if k.state = 3 ∧ k.causeAt + 100 * tpMs ≤ s.now then camEnter c 1 s else s

def execCameraRecover (t : Time) (c : Fin 4) (s : State) : Host.Outcome State Fault Refusal :=
  atTime t (cameraRecover c.val) s

/-! Commands -/

/-- INS_CAMERA_SET (0x0801). The settings of a stopped pipeline take effect at its restart (R28, R37). -/
def insCameraSetSpec : CmdSpec where
  opcode := 0x0801
  modes := setupModes
  len := (· == 24)
  value := fun p _ =>
    within (u8 p 0) 0 3 && within (u8 p 1) 0 3 && (u8 p 2 == 1 || u8 p 2 == 2 || u8 p 2 == 4) && within (u8 p 3) 0 15
      && within (u16 p 4) 64 2048 && u16 p 4 % 4 == 0 && within (u16 p 6) 0 39168 && within (u32 p 8) 1024 1048575
      && within (u16 p 12) 80 2500 && within (u8 p 14) 1 4 && within (u8 p 15) 0 15 && within (u16 p 16) 1 1000
      && zeroAt p 18 6
  check := fun p s => refuseIf (camRun s (u8 p 0)) eBusy
  apply := fun c _ s => done (cfgHold (.camera (Fin.ofNat 4 (u8 c.params 0))) (slice c.params 0 24) s)

def cameraValue (p : Bytes) : Bool := within (u8 p 0) 0 3 && zeroAt p 1 3

/-- INS_CAMERA_START (0x0802). -/
def insCameraStartSpec : CmdSpec where
  opcode := 0x0802
  modes := exceptSafe
  len := (· == 4)
  value := fun p _ => cameraValue p
  apply := fun c _ s =>
    let n := u8 c.params 0
    if camRun s n then done s else done (camEnter n 1 (cfgRelease (.camera (Fin.ofNat 4 n)) s))

/-- INS_CAMERA_STOP (0x0803). -/
def insCameraStopSpec : CmdSpec where
  opcode := 0x0803
  modes := anyMode
  len := (· == 4)
  value := fun p _ => cameraValue p
  apply := fun c _ s => if camRun s (u8 c.params 0) then done (camLeave (u8 c.params 0) 0 s) else done s

/-- EXPOSURE_SET (0x0804) (R250). -/
def exposureSetSpec : CmdSpec where
  opcode := 0x0804
  modes := exceptSafe
  len := (· == 24)
  value := fun p _ =>
    cameraValue p && within (u32 p 4) 1000 1000000 && within (u16 p 8) 256 16383 && within (u16 p 10) 0 4095
      && (upTo 5).all (fun i => decide (1 ≤ u16 p (12 + 2 * i))) && zeroAt p 22 2
  check := fun p s => refuseIf (camOf s (u8 p 0)).pending.isSome eNoResource
  apply := fun c _ s =>
    let n := u8 c.params 0
    let k := camOf s n
    let e := (k.committed + 1) % 256
    let target := if k.state = 0 then 0 else (k.nextStrip + u8 (camCfg s n) 14 - 1) % 2 ^ 32
    withResult (leBytes 1 e ++ zeros 3 ++ leBytes 4 target)
      (setCam n { k with committed := e, pending := some (e, target, slice c.params 0 24) } s)

/-- INS_COMPARE_SET (0x0805). -/
def insCompareSetSpec : CmdSpec where
  opcode := 0x0805
  modes := setupModes
  len := (· == 32)
  feature := fun p s => (!bit (u8 p 0) 0 || inspection s) && (decide (u8 p 1 ≠ 4) || hasFeature s 12)
  value := fun p _ =>
    within (u8 p 0) 0 3 && within (u8 p 1) 0 4 && within (u8 p 2) 0 15 && within (u8 p 3) 1 255 && within (u16 p 4) 0 10000
      && within (u16 p 6) 1 10000 && within (u8 p 11) 1 255 && within (u8 p 12) 5 95 && within (u8 p 13) 6 99
      && within (u8 p 14) 1 8 && zeroAt p 15 17 && decide (u8 p 12 < u8 p 13)
  apply := fun c _ s => done (cfgSet .compare (slice c.params 0 32) s)

/-- INS_DISPLAY_SET (0x0806). -/
def insDisplaySetSpec : CmdSpec where
  opcode := 0x0806
  modes := setupModes
  len := (· == 16)
  value := fun p _ =>
    within (u8 p 0) 0 7 && u8 p 1 == 0 && within (u16 p 2) 64 4096 && within (u16 p 4) 64 4096 && u16 p 2 % 16 == 0
      && u16 p 4 % 16 == 0 && within (u16 p 6) 0 52223 && zeroAt p 8 8
  check := fun _ s => refuseIf (decide (s.view.state ≠ 0) || cameraList.any (camRun s)) eBusy
  apply := fun c _ s => done (cfgSet .display (slice c.params 0 16) s)

/-- INS_OUTPUT_SET (0x0807) (R252). -/
def insOutputSetSpec : CmdSpec where
  opcode := 0x0807
  modes := anyMode
  len := (· == 24)
  feature := fun p s => !bit (u8 p 1) 3 || hasFeature s 12
  value := fun p s =>
    let k := camOf s (u8 p 0)
    within (u8 p 0) 0 3 && decide (u8 p 1 < 32) && zeroAt p 2 2 && within (u32 p 4) 0x02000000 0x40000000
      && u32 p 4 % 4096 == 0 && u64 p 8 % 4096 == 0 && zeroAt p 16 8
      && !(k.enabled && (k.base != u64 p 8 || k.size != u32 p 4))
  apply := fun c _ s =>
    let p := c.params
    let n := u8 p 0
    let k := camOf s n
    let on := bit (u8 p 1) 0
    let k' := { k with base := u64 p 8, size := u32 p 4, mask := u8 p 1 / 2, enabled := on }
    let fresh : Stored → Stored := fun x => { x with frame := none }
    done (setCam n (
      if on && !k.enabled then { k' with offset := 0, phase := true, stored := k.stored.map fresh }
      else if !on then { k' with stored := [] } else k') s)

/-- The delivered strip of a number. -/
def deliveredStrip (k : Camera) (n : Nat) : Bool := k.stored.any fun x => x.frame.isSome && x.strip.number == n

/-- The stored strips left once every delivered frame up to a strip is freed. -/
def freeStored (n : Nat) : List Stored → List Stored
  | [] => []
  | x :: r => if x.frame.isNone then x :: r else if x.strip.number = n then r else freeStored n r

/-- INS_OUTPUT_ACK (0x0808). -/
def insOutputAckSpec : CmdSpec where
  opcode := 0x0808
  modes := anyMode
  len := (· == 8)
  value := fun p s =>
    let k := camOf s (u8 p 0)
    cameraValue p && (deliveredStrip k (u32 p 4) || (match k.acked with
      | some a => decide (u32 p 4 ≤ a)
      | none => false))
  apply := fun c _ s =>
    let n := u8 c.params 0
    let k := camOf s n
    let b := u32 c.params 4
    if deliveredStrip k b then done (setCam n { k with stored := freeStored b k.stored, acked := some b } s) else done s

/-- INS_STRIPE_ADD (0x0809) (R258). -/
def insStripeAddSpec : CmdSpec where
  opcode := 0x0809
  modes := exceptSafe
  len := (· == 16)
  feature := fun _ s => inspection s
  value := fun p s =>
    zeroAt p 6 2 && zeroAt p 12 4 && decide (u16 p 8 ≤ u16 p 10) && decide (u16 p 10 ≤ 52223)
      && (match findPage s (u32 p 0) with
        | some g => (g.state == .loading || (g.state == .resident && g.nextRow == 0))
            && decide (u16 p 4 + 288 ≤ pageRows g * pagePitch g)
        | none => false)
  check := fun _ s => refuseIf (decide (256 ≤ s.ins.stripes.length)) eNoResource
  apply := fun c _ s =>
    let p := c.params
    done { s with ins := { s.ins with stripes :=
      s.ins.stripes ++ [{ page := u32 p 0, l0 := u16 p 4, lo := u16 p 8, hi := u16 p 10 }] } }

/-- The strip whose statistics a read names, among the last 16. -/
def statsStrip (k : Camera) (n : Nat) : Option Strip :=
  if n = 0xFFFFFFFF then k.done_.head? else (k.done_.take 16).find? fun st => st.number = n

/-- INS_STATS_READ (0x080A) (R249). -/
def insStatsReadSpec : CmdSpec where
  opcode := 0x080A
  modes := anyMode
  isRead := true
  len := (· == 8)
  value := fun p s => cameraValue p && (statsStrip (camOf s (u8 p 0)) (u32 p 4)).isSome
  apply := fun c _ s =>
    let n := u8 c.params 0
    match statsStrip (camOf s n) (u32 c.params 4) with
    | none => done s
    | some st =>
      let mean (i : Nat) : Bytes :=
        if i = 4 ∧ !hasFeature s 12 then zeros 2
        else leBytes 2 ((siteMean st i).getD (Config.freeNat 10 (s.freeCtr + i)))
      withResult (leBytes 4 st.number ++ leBytes 1 n ++ leBytes 1 st.epoch ++ leBytes 2 st.flags ++ leBytes 2 st.count
        ++ zeros 2 ++ leBytes 4 (u32 st.exposure 4) ++ leBytes 2 (u16 st.exposure 8) ++ zeros 2 ++ (upTo 5).flatMap mean
        ++ zeros 2 ++ (upTo 5).flatMap (fun i => leBytes 4 (saturated st i)) ++ zeros 4)
        { s with freeCtr := s.freeCtr + 5 }

end Sys2Proof.Machine
end

