-- ==== Sys2Proof/Machine/Motion.lean ====
section
/-! DEFINITION. The jerk-limited profile generator of an axis (R301, R302), one frame of 16 µs at a time. Positions are in
2^-32 counts, velocities in 2^-32 counts/s, accelerations in 2^-32 counts/s². The manual gives the limits and the
trajectory, not the arithmetic of a frame: that is the model's reading (log entry 62). -/
namespace Sys2Proof.Machine

/-- One count in the generator's units. -/
def unit32 : Int := 2 ^ 32

/-- Frames in a second. -/
def framesPerS : Int := 62500

/-- The whole square root. -/
def sqrtNat (n : Nat) : Nat := (upTo 64).foldl (fun r i => if (r + 2 ^ (63 - i)) ^ 2 ≤ n then r + 2 ^ (63 - i) else r) 0

/-- Limits of a move: velocity, acceleration speeding up and slowing down, and jerk, in the generator's units. -/
structure MoveLimits where
  v : Int
  a : Int
  d : Int
  j : Int

/-- The largest change of acceleration in a frame. -/
def jerkStep (m : MoveLimits) : Int := m.j / framesPerS

/-- Distance needed to come to rest from velocity v ≥ 0 and acceleration a: the acceleration is first taken out where it
is positive, then the stop runs at d and j. -/
def stopDistance (m : MoveLimits) (v a : Int) : Int :=
  let lead := if 0 < a then v * a / m.j + a * a / m.j * a / (3 * m.j) else 0
  let v := if 0 < a then v + a * a / (2 * m.j) else v
  let b := if 0 < a then 0 else -a
  let v0 := v + b * b / (2 * m.j)
  let covered := v0 * b / m.j - b * b / m.j * b / (6 * m.j)
  let total := if m.d * m.d ≤ v0 * m.j then v0 * (v0 * unit32 / m.d + m.d * unit32 / m.j) / (2 * unit32)
    else v0 * (sqrtNat (v0 * unit32 / m.j * unit32).toNat : Nat) / unit32
  lead + total - covered

/-- Acceleration within its limits, and within one jerk step of the present one. -/
def limitAcc (m : MoveLimits) (v a want : Int) : Int :=
  let up := if 0 ≤ v then m.a else m.d
  let down := if 0 < v then m.d else m.a
  clampI (a - jerkStep m) (a + jerkStep m) (clampI (-down) up want)

/-- What one frame leaves: the distance moved, the velocity and the acceleration. -/
structure FrameMove where
  x : Int
  v : Int
  a : Int

/-- One frame in which the acceleration goes evenly from a to b. -/
def frameMove (v a b : Int) : FrameMove :=
  { x := v / framesPerS + (2 * a + b) / (6 * framesPerS * framesPerS), v := v + (a + b) / (2 * framesPerS), a := b }

/-- The velocity left once an acceleration has been taken out. -/
def settledVelocity (m : MoveLimits) (f : FrameMove) : Int := f.v + f.a * (f.a.natAbs : Int) / (2 * m.j)

/-- The first of three candidate frames that satisfies a condition, else the last. -/
def pickFrame (ok : FrameMove → Bool) (l : List FrameMove) (last : FrameMove) : FrameMove := (l.find? ok).getD last

/-- One frame toward a velocity. -/
def velocityFrame (m : MoveLimits) (v a want : Int) : FrameMove :=
  let j := jerkStep m
  if (v - want).natAbs ≤ 2 * m.j / (framesPerS * framesPerS) ∧ a.natAbs ≤ j then
    { x := (v + want) / (2 * framesPerS), v := want, a := 0 }
  else
    let c (d : Int) : FrameMove := frameMove v a (limitAcc m v a (a + d))
    if settledVelocity m { x := 0, v := v, a := a } ≤ want then
      pickFrame (fun f => decide (settledVelocity m f ≤ want)) [c j, c 0] (c (-j))
    else pickFrame (fun f => decide (want ≤ settledVelocity m f)) [c (-j), c 0] (c j)

/-- One frame toward a position `dist` ahead. An axis that moves away from it, or cannot stop before it, first comes to
rest (R302). -/
def positionFrame (m : MoveLimits) (v a dist : Int) : FrameMove :=
  let j := jerkStep m
  let tiny := 4 * m.j / (framesPerS * framesPerS)
  if dist.natAbs ≤ unit32 / 16 ∧ v.natAbs ≤ 2 * unit32 + tiny ∧ a.natAbs ≤ j then { x := dist, v := 0, a := 0 }
  else if v < 0 ∨ (v = 0 ∧ a < 0) ∨ dist + unit32 / 16 < stopDistance m v a then velocityFrame m v a 0
  else if m.v + tiny < v then velocityFrame m v a m.v
  else
    let c (d : Int) : FrameMove := frameMove v a (limitAcc m v a (a + d))
    let ok (f : FrameMove) : Bool :=
      decide (f.v + (if 0 < f.a then f.a * f.a / (2 * m.j) else 0) ≤ m.v)
        && decide (stopDistance m (max f.v 0) f.a ≤ dist - f.x)
    let release := frameMove v a (a + j)
    let last := if a < 0 ∧ v ≤ a * a / (2 * m.j) + j / framesPerS then release else c (-j)
    pickFrame ok [c j, c 0, c (-j)] last

/-- One frame from position x to a target. -/
def approachFrame (m : MoveLimits) (x v a target : Int) : FrameMove :=
  if x = target ∧ v = 0 ∧ a = 0 then { x := 0, v := 0, a := 0 }
  else
    let s : Int := if x < target ∨ (x = target ∧ 0 < v) then 1 else -1
    let f := positionFrame m (s * v) (s * a) (s * (target - x))
    { x := s * f.x, v := s * f.v, a := s * f.a }

end Sys2Proof.Machine
end

