-- ==== Sys2Proof/Machine/Axes.lean ====
section
/-! DEFINITION. AXS (15): set-point frames, feedback, axis states, switches and limits, stall, homing, and AXS's
commands. -/
namespace Sys2Proof.Machine

def axisOf (s : State) (a : Nat) : Axis := tget {} s.axs.axes a

def setAxis (a : Nat) (v : Axis) (s : State) : State := { s with axs := { s.axs with axes := tset s.axs.axes a v } }

def axisCfg (s : State) (a : Nat) : Bytes := cfgGet s (.axis (Fin.ofNat 2 a))

def axisRun (s : State) (a : Nat) : Bool := decide ((axisOf s a).state ≠ 0)

/-! Settings in use -/
def ssiFeedback (c : Bytes) : Bool := bit (u8 c 1) 0
def homeMethod (c : Bytes) : Nat := u8 c 13
/-- +1 or -1: the search direction. -/
def searchSign (c : Bytes) : Int := if bit (u8 c 14) 0 then 1 else -1
/-- Stop mode of LIMN (0) or LIMP (1): true ramped. -/
def limitRamped (c : Bytes) (w : Nat) : Bool := bit (u8 c 14) (1 + w)
def switchFilter (c : Bytes) : Time := u8 c 15 * 10 * tpUs
def softNeg (c : Bytes) : Int := s32 c 44
def softPos (c : Bytes) : Int := s32 c 48
def stopDecel (c : Bytes) : Nat := u32 c 40

/-- The axis has started since reset and the feature is accepted: frames are sent (R294). -/
def axisFeature (s : State) : Bool := hasFeature s 11

/-! Feedback position (R297, R298, R303) -/

/-- Position on the line through the last two good reads. -/
def extrapolate (k : Axis) (t : Time) : Int :=
  match k.reads with
  | (t1, p1) :: (t0, p0) :: _ => if t1 = t0 then p1 else p1 + (p1 - p0) * ((t : Int) - t1) / ((t1 : Int) - t0)
  | (_, p1) :: _ => p1
  | [] => k.fb

/-- The feedback position at an instant. -/
def feedbackAt (s : State) (a : Nat) (t : Time) : Int :=
  let k := axisOf s a
  if ssiFeedback (axisCfg s a) then extrapolate k t else k.fb

/-- Commanded position, integer part. -/
def commandedPos (k : Axis) : Int := k.pos / unit32

/-- Following error in counts (R305). -/
def followError (s : State) (a : Nat) : Int := commandedPos (axisOf s a) - (axisOf s a).fb

/-! States (R300) -/

/-- EV_AXS_STATE. -/
def axisEnter (a new : Nat) (s : State) : State :=
  let k := axisOf s a
  if k.state = new then s
  else raise 0x1E03 0x0E (leBytes 1 a ++ leBytes 1 k.state ++ leBytes 1 new) (setAxis a { k with state := new } s)

/-- EV_AXS_MOVE_DONE of a host move that is owed one. -/
def moveDone (a status : Nat) (s : State) : State :=
  let k := axisOf s a
  if !k.owed then s
  else
    raise 0x1E01 0x0E (leBytes 1 a ++ leBytes 1 status ++ zeros 2 ++ seBytes 4 k.fb ++ seBytes 4 (followError s a)
      ++ leBytes 2 k.seq) (setAxis a { k with owed := false } s)

/-- EV_AXS_HOME_DONE: homing ends. -/
def homeDone (a status : Nat) (s : State) : State :=
  let k := axisOf s a
  raise 0x1E02 0x0E (leBytes 1 a ++ leBytes 1 status ++ leBytes 1 (homeMethod (axisCfg s a)) ++ leBytes 1 (min 255 k.chatter)
    ++ seBytes 4 k.bench ++ seBytes 4 k.fb) (setAxis a { k with homing := 0 } s)

/-- Following error beyond the window, and since when without a break (R305). -/
def noteFollow (a : Nat) (s : State) : State :=
  let k := axisOf s a
  let beyond := decide (u16 (axisCfg s a) 68 < (followError s a).natAbs) && decide (k.state ≠ 0)
  setAxis a { k with stallSince := if beyond then some (k.stallSince.getD s.now) else none } s

/-- The velocity drops to zero at once. -/
def hardStop (a : Nat) (s : State) : State :=
  let k := axisOf s a
  setAxis a { k with vel := 0, acc := 0, goal := 2, zeroSince := if k.vel = 0 then k.zeroSince else s.now } s

/-- A ramped stop at stop_decel and j_max. -/
def rampedStop (a : Nat) (s : State) : State :=
  let k := axisOf s a
  setAxis a { k with goal := 2, decel := stopDecel (axisCfg s a) } s

/-- A move of the generator to a position, in counts, within a velocity. -/
def moveTo (a : Nat) (target : Int) (vlim : Nat) (s : State) : State :=
  setAxis a { axisOf s a with goal := 0, target := target, vlim := vlim } s

/-! Set-point frames (R294 to R296) -/

/-- Address part of the commanded position: d × ⌊x × k + 0.5⌋, with the 16-bit fraction x carries. -/
def addressOf (c : Bytes) (pos : Int) : Int :=
  let v := (pos / 2 ^ 16 * (u32 c 20 : Int) + 2 ^ 31) / 2 ^ 32
  if bit (u8 c 1) 2 then -v else v

/-- The 24 bits of a frame (R294). -/
def frameWord (addr scale count : Nat) : Nat :=
  let w := 2 ^ 23 + (if scale = 0 then 0 else 2 ^ 21) + addr % 1024 * 2 ^ 11 + scale % 256 * 2 ^ 3 + count % 4 * 2
  let ones := sumNat ((upTo 24).map fun i => w / 2 ^ i % 2)
  w + ones % 2

/-- The commanded position is taken to the feedback position and φ chosen so that the address becomes `keep` (R295). -/
def alignAxis (a keep : Nat) (s : State) : State :=
  let k := axisOf s a
  let pos := k.fb * unit32
  setAxis a { k with
    pos := pos, vel := 0, acc := 0, addr := keep
    phi := ((keep : Int) - addressOf (axisCfg s a) pos) % 1024 } s

/-- hold_delay after the velocity reached zero the current drops (R296). -/
def settleHold (a : Nat) (s : State) : State :=
  let k := axisOf s a
  if k.vel = 0 ∧ k.zeroSince + u16 (axisCfg s a) 72 * tpMs ≤ s.now then setAxis a { k with holdNow := true } s else s

def execHoldDelayExpiry (t : Time) (a : Fin 2) (s : State) : Host.Outcome State Fault Refusal :=
  atTime t (settleHold a.val) s

/-- Current scale in force. -/
def currentScale (s : State) (a : Nat) : Nat :=
  let k := axisOf s a
  let c := axisCfg s a
  if k.state = 0 ∨ k.state = 5 ∨ k.holdNow then u8 c 12 else u8 c 11

/-- The frame of an axis leaves. -/
def sendFrame (a : Nat) (s : State) : State :=
  let k := axisOf s a
  let addr := if k.state = 5 then k.addr else ((k.phi + addressOf (axisCfg s a) k.pos) % 1024).toNat
  let count := k.frameCount + 1
  send (.setpoint a (frameWord addr (currentScale s a) count.toNat))
    (setAxis a { k with addr := addr, frameCount := count, frameTime := s.now, frameFb := feedbackAt s a s.now } s)

/-! The generator (R301, R302) -/

/-- Limits in force for what the axis is doing. -/
def axisLimits (c : Bytes) (k : Axis) : MoveLimits :=
  { v := k.vlim * unit32, a := u32 c 28 * unit32, d := (if k.goal = 2 then k.decel else u32 c 32) * unit32,
    j := u32 c 36 * unit32 }

/-- What one frame moves an axis. -/
def generate (c : Bytes) (k : Axis) : FrameMove :=
  match k.goal with
  | 0 => approachFrame (axisLimits c k) k.pos k.vel k.acc (k.target * unit32)
  | 1 => velocityFrame (axisLimits c k) k.vel k.acc (k.vgoal * unit32)
  | _ => if k.vel = 0 ∧ k.acc = 0 then { x := 0, v := 0, a := 0 } else velocityFrame (axisLimits c k) k.vel k.acc 0

/-- The frame's motion, with the instants at which the velocity leaves and reaches zero. -/
def advanceAxis (a : Nat) (s : State) : State :=
  let k := axisOf s a
  let f := generate (axisCfg s a) k
  let stopped := decide (f.v = 0) && decide (k.vel ≠ 0)
  setAxis a { k with
    pos := k.pos + f.x, vel := f.v, acc := f.a, holdNow := k.holdNow && decide (f.v = 0)
    zeroSince := if stopped then s.now else k.zeroSince } s

/-- The axis is at rest with nothing left to do. -/
def atRest (k : Axis) : Bool :=
  decide (k.vel = 0) && decide (k.acc = 0) && (match k.goal with
    | 0 => decide (k.pos = k.target * unit32)
    | 1 => decide (k.vgoal = 0)
    | _ => true)

/-- EV_AXS_LIMIT, once the axis rests. -/
def limitEvent (a : Nat) (s : State) : State :=
  let k := axisOf s a
  match k.limitStop with
  | some (w, m, p) =>
    raise 0x2E01 0x0E (leBytes 1 a ++ leBytes 1 w ++ leBytes 1 m ++ [0] ++ seBytes 4 p ++ seBytes 4 k.fb)
      (setAxis a { k with limitStop := none } s)
  | none => s

/-- Where the back-off ends (R306). -/
def backOffTarget (c : Bytes) : Int := s32 c 64 - searchSign c * u32 c 56

/-- The axis has come to rest: what it was doing ends, or goes on to its next part. -/
def axisArrived (a : Nat) (s : State) : State :=
  let k := axisOf s a
  let c := axisCfg s a
  match k.state with
  | 2 =>
    let s := limitEvent a (moveDone a k.endStatus s)
    axisEnter a 1 s
  | 3 =>
    if k.homing = 3 then
      let s := limitEvent a s
      moveTo a (backOffTarget c) (u32 c 24) (setAxis a { axisOf s a with homing := 4 } s)
    else if k.homing = 4 then axisEnter a 1 (homeDone a 0 s)
    else if k.homing = 5 then axisEnter a 1 (homeDone a k.homeFail s)
    else s
  | 4 =>
    let s := limitEvent a s
    let s := if k.homing = 0 then moveDone a 2 s else homeDone a k.homeFail s
    let k := axisOf s a
    axisEnter a (if k.toStopped then 0 else 1) (setAxis a { k with toStopped := false } s)
  | _ => s

/-- One axis's part of a set-point frame. -/
def axisFrame (a : Nat) (s : State) : State :=
  let k := axisOf s a
  if !k.frames then s
  else
    let moving := decide (k.state = 2) || decide (k.state = 3) || decide (k.state = 4)
    let s := if moving then advanceAxis a s else s
    let s := if moving && atRest (axisOf s a) then axisArrived a s else s
    noteFollow a (sendFrame a (settleHold a s))

/-- Frames start at whole multiples of 16 µs (R294). -/
def frameInstant (t : Time) : Bool := decide (t % (16 * tpUs) = 0)

def setpointFrame (s : State) : State := if frameInstant s.now then axisFrame 1 (axisFrame 0 s) else s

/-! Faults, stall (R299, R305) -/

/-- Homing in progress, or a host move, ends with status 3. -/
def endWithFault (a : Nat) (s : State) : State :=
  let k := axisOf s a
  if k.homing ≠ 0 then homeDone a 3 s else moveDone a 3 s

/-- The axis takes a hard stop and enters FAULT with a cause. -/
def axisFault (a cause : Nat) (s : State) : State :=
  let k := axisOf s a
  let s := setAxis a { k with causes := if k.causes.contains cause then k.causes else k.causes ++ [cause] } s
  if k.state = 5 then s
  else axisEnter a 5 (endWithFault a (hardStop a s))

/-- A feedback cause: 8 RECEIVER, 9 QUAD, 10 CRC, 11 ERROR, 12 TIMEOUT. It acts while the axis is in RUN. -/
def feedbackFault (a cause : Nat) (s : State) : State :=
  let k := axisOf s a
  if k.state = 0 then s
  else
    let known := k.present.any fun p => p.1 = cause
    let k := { k with
      present := (k.present.filter fun p => p.1 ≠ cause) ++ [(cause, s.now)]
      ssiGood := 0
      referenced := k.referenced && ssiFeedback (axisCfg s a) && !k.absolute }
    let s := setAxis a k s
    if known then s
    else axisFault a cause (raise 0x3E02 0x0E (leBytes 1 a ++ leBytes 1 cause ++ zeros 2 ++ timeBytes s.now) s)

/-- FEEDBACK_FAULT: what the receivers report. QUAD and the SSI causes need what R299 asks of them. -/
def feedbackFaultRow (a cause : Nat) (s : State) : State :=
  let k := axisOf s a
  let real := match cause with
    | 0 => true
    | 1 => decide (4 ≤ k.quadTimes.length)
    | _ => decide (3 ≤ k.ssiFails) && decide (k.ssiCause = 8 + cause)
  if real then feedbackFault a (8 + cause) s else s

def execFeedbackFault (t : Time) (a : Fin 2) (cause : Fin 5) (s : State) : Host.Outcome State Fault Refusal :=
  atTime t (feedbackFaultRow a.val cause.val) s

/-- A cause clears after 10 ms of valid input, or after 16 good reads in a row. It stays latched (R299). -/
def feedbackClear (a cause : Nat) (s : State) : State :=
  let k := axisOf s a
  match k.present.find? fun p => p.1 = 8 + cause with
  | none => s
  | some p =>
    let gone := if cause ≤ 1 then decide (p.2 + 10 * tpMs ≤ s.now) else decide (16 ≤ k.ssiGood)
    if !gone then s
    else
      let left := k.present.filter fun q => q.1 ≠ 8 + cause
      setAxis a { k with present := left, referenced := k.referenced || (k.absolute && left.isEmpty) } s

def execFeedbackCauseClear (t : Time) (a : Fin 2) (cause : Fin 5) (s : State) : Host.Outcome State Fault Refusal :=
  atTime t (feedbackClear a.val cause.val) s

/-- AXIS_STALL: the error has exceeded the window for stall_time. The axis's calibration run loses its channel. -/
def axisStall (a : Nat) (s : State) : State :=
  let k := axisOf s a
  match k.stallSince with
  | none => s
  | some t0 =>
    if k.state = 0 ∨ k.state = 5 ∨ s.now < t0 + u8 (axisCfg s a) 70 * tpMs then s
    else
      let s := raise 0x3E01 0x0E (leBytes 1 a ++ leBytes 1 k.state ++ zeros 2 ++ seBytes 4 (commandedPos k) ++ seBytes 4 k.fb) s
      axisSource a (axisFault a 13 s)

def execAxisStall (t : Time) (a : Fin 2) (s : State) : Host.Outcome State Fault Refusal := atTime t (axisStall a.val) s

/-! The Benchmark (R306) -/

/-- At the Benchmark, feedback and commanded positions shift together so that it reads home_position. -/
def benchmark (a : Nat) (at_ : Int) (s : State) : State :=
  let k := axisOf s a
  let d := s32 (axisCfg s a) 64 - at_
  setAxis a { k with
    bench := at_, referenced := true, fb := k.fb + d, pos := k.pos + d * unit32, offset := k.offset + d
    reads := k.reads.map fun r => (r.1, r.2 + d) } s

/-- Homing has its Benchmark: the axis stops and then backs off. -/
def benchmarkFound (a : Nat) (at_ : Int) (s : State) : State :=
  let s := benchmark a at_ s
  setAxis a { axisOf s a with homing := 3 } s

/-! Feedback input (R297, R298) -/

/-- Incremental feedback: counts, invalid transitions and the index. -/
def axisFeedback (a : Nat) (e : AxisEdge) (s : State) : State :=
  let k := axisOf s a
  let c := axisCfg s a
  if ssiFeedback c then s
  else match e with
    | .count reverse =>
      let d : Int := if reverse != bit (u8 c 1) 1 then -1 else 1
      noteFollow a (setAxis a { k with fb := k.fb + d } s)
    | .invalid =>
      let ts := (s.now :: k.quadTimes).filter fun u => decide (s.now < u + tpMs)
      let s := setAxis a { k with quadErr := satInc 16 k.quadErr, quadTimes := ts } s
      if 4 ≤ ts.length || (k.present.any fun p => p.1 = 9) then feedbackFault a 9 s else s
    | .index =>
      if k.state = 3 ∧ k.homing = 2 then rampedStop a (benchmarkFound a k.fb s) else s

def execAxisFeedbackCount (t : Time) (a : Fin 2) (e : AxisEdge) (s : State) : Host.Outcome State Fault Refusal :=
  atTime t (axisFeedback a.val e) s

/-- The number whose bits come most significant first. -/
def msbFirst (l : List Bool) : Nat := l.foldl (fun n b => 2 * n + b2n b) 0

/-- Gray code to binary, most significant bit first. -/
def fromGray (l : List Bool) : List Bool :=
  (l.foldl (fun (a : List Bool × Bool) b => let v := a.2 != b; (a.1 ++ [v], v)) ([], false)).1

/-- CRC of C bits with a polynomial whose top term is implicit and an initial value of 0 (R298). -/
def ssiCrc (c poly : Nat) (l : List Bool) : Nat :=
  l.foldl (fun r b =>
    let top := bit r (c - 1) != b
    let r := 2 * r % 2 ^ c
    if top then r ^^^ (poly % 2 ^ c) else r) 0

/-- Raw position of a read, or the bit of the cause with which it fails (R298). -/
def ssiResult (c : Bytes) (lineOk : Bool) (l : List Bool) : Except Nat Int :=
  let f := u8 c 3
  let p := u8 c 4
  let e := u8 c 5
  let n := u8 c 6
  let l := (l ++ List.replicate f false).take f
  if !lineOk then .error 12
  else if e ≠ 0xFF && l.getD e false then .error 11
  else
    let crc := ssiCrc n (u16 c 8) (l.take (f - n))
    let want := if bit (u8 c 1) 4 then 2 ^ n - 1 - crc else crc
    if n ≠ 0 && decide (msbFirst (l.drop (f - n)) ≠ want) then .error 10
    else
      let v : Int := msbFirst (if bit (u8 c 1) 3 then fromGray (l.take p) else l.take p)
      .ok (if bit (u8 c 1) 1 then -v else v)

/-- SSI_READ_DONE. -/
def ssiRead (a : Nat) (lineOk : Bool) (l : List Bool) (s : State) : State :=
  let k := axisOf s a
  let c := axisCfg s a
  if !ssiFeedback c then s
  else match ssiResult c lineOk l with
    | .ok v =>
      let p := v + k.offset
      noteFollow a (setAxis a { k with
        fb := p, reads := ((s.now, p) :: k.reads).take 2, ssiFails := 0, ssiGood := k.ssiGood + 1 } s)
    | .error cause =>
      let n := if k.ssiCause = cause then k.ssiFails + 1 else 1
      let s := noteFollow a (setAxis a { k with
        fb := extrapolate k s.now, ssiErr := satInc 16 k.ssiErr, ssiFails := n, ssiCause := cause, ssiGood := 0 } s)
      if 3 ≤ n then feedbackFault a cause s else s

def execSsiReadDone (t : Time) (a : Fin 2) (lineOk : Bool) (bits : List Bool) (s : State) : Host.Outcome State Fault Refusal :=
  atTime t (ssiRead a.val lineOk bits) s

/-! Switches and limits (R303, R304, R307) -/

/-- LIMN 0, LIMP 1, HOME 2. -/
def switchOf (k : Axis) (w : Nat) : Switch := if w = 0 then k.limN else if w = 1 then k.limP else k.home

def setSwitch (w : Nat) (v : Switch) (k : Axis) : Axis :=
  if w = 0 then { k with limN := v } else if w = 1 then { k with limP := v } else { k with home := v }

/-- SWITCH_EDGE: an edge into the active level starts a candidate; one out of it discards a candidate as chatter. -/
def switchEdge (a w : Nat) (high : Bool) (s : State) : State :=
  let k := axisOf s a
  let active := high != bit (u8 (axisCfg s a) 14) (if w = 2 then 3 else 4)
  let v := switchOf k w
  if active = v.level then s
  else if active then
    setAxis a (setSwitch w { v with level := true, candidate := if v.confirmed then none else some (s.now, feedbackAt s a s.now) } k) s
  else
    let k := { k with chatter := k.chatter + b2n v.candidate.isSome }
    setAxis a (setSwitch w { v with level := false, candidate := none, inactive := s.now } k) s

def execSwitchEdge (t : Time) (a : Fin 2) (w : Fin 3) (high : Bool) (s : State) : Host.Outcome State Fault Refusal :=
  atTime t (switchEdge a.val w.val high) s

/-- Homing fails on a limit: the stop is that limit's (R307). -/
def homeLimit (a w : Nat) (p : Int) (s : State) : State :=
  let c := axisCfg s a
  let k := axisOf s a
  let s := raise 0x2E02 0x0E (leBytes 1 a ++ leBytes 1 w ++ leBytes 1 (homeMethod c) ++ [0] ++ seBytes 4 p)
    (setAxis a { k with homing := 5, homeFail := 4, referenced := false } s)
  if limitRamped c w then rampedStop a s else axisArrived a (hardStop a s)

/-- A confirmed limit stops a moving axis (R304). A calibration run on it loses its channel. -/
def limitStop (a w : Nat) (p : Int) (s : State) : State :=
  let c := axisCfg s a
  let ramped := limitRamped c w
  let k := axisOf s a
  let s := setAxis a { k with limitStop := some (w, b2n ramped, p), endStatus := 2 } s
  let s := axisSource a s
  if ramped then axisEnter a 4 (rampedStop a s)
  else
    let s := hardStop a s
    axisArrived a s

/-- A confirmed limit during homing: the Benchmark of method 3, nothing on its way back, else a failure. -/
def limitInHoming (a w : Nat) (p : Int) (s : State) : State :=
  let c := axisCfg s a
  let k := axisOf s a
  let ahead := decide (w = if searchSign c = 1 then 1 else 0)
  if homeMethod c = 3 && ahead then
    if k.homing = 1 then
      let s := benchmarkFound a p s
      let s := setAxis a { axisOf s a with limitStop := some (w, b2n (limitRamped c w), p) } s
      if limitRamped c w then rampedStop a s else axisArrived a (hardStop a s)
    else s
  else if k.homing = 5 then s
  else homeLimit a w p s

/-- SWITCH_CONFIRM: a candidate held for switch_filter acts. -/
def switchConfirm (a w : Nat) (s : State) : State :=
  let k := axisOf s a
  let c := axisCfg s a
  let v := switchOf k w
  match v.candidate with
  | none => s
  | some (t0, p) =>
    if s.now < t0 + switchFilter c then s
    else
      let s := setAxis a (setSwitch w { v with candidate := none, confirmed := true } k) s
      if w = 2 then
        if k.state = 3 ∧ k.homing = 1 then
          if homeMethod c = 1 then rampedStop a (benchmarkFound a p s)
          else if homeMethod c = 2 then setAxis a { axisOf s a with homing := 2 } s
          else s
        else s
      else if k.state = 3 then limitInHoming a w p s
      else if k.state = 2 then limitStop a w p s
      else if k.state = 4 ∧ k.limitStop.isNone ∧ !limitRamped c w then
        let s := setAxis a { axisOf s a with limitStop := some (w, 0, p) } s
        axisArrived a (hardStop a s)
      else s

def execSwitchConfirm (t : Time) (a : Fin 2) (w : Fin 3) (s : State) : Host.Outcome State Fault Refusal :=
  atTime t (switchConfirm a.val w.val) s

/-- SWITCH_RELEASE: a switch that has stayed inactive for switch_filter. -/
def switchRelease (a w : Nat) (s : State) : State :=
  let k := axisOf s a
  let v := switchOf k w
  if v.confirmed && !v.level && decide (v.inactive + switchFilter (axisCfg s a) ≤ s.now) then
    setAxis a (setSwitch w { v with confirmed := false } k) s
  else s

def execSwitchRelease (t : Time) (a : Fin 2) (w : Fin 3) (s : State) : Host.Outcome State Fault Refusal :=
  atTime t (switchRelease a.val w.val) s

/-- HOMING_SEARCH_LIMIT: search_limit counts travelled with no Benchmark (R307). -/
def homingSearchLimit (a : Nat) (s : State) : State :=
  let k := axisOf s a
  if k.state = 3 ∧ (k.homing = 1 ∨ k.homing = 2) ∧
      (u32 (axisCfg s a) 60 : Int) * unit32 ≤ ((k.pos - k.searchFrom).natAbs : Int) then
    rampedStop a (setAxis a { k with homing := 5, homeFail := 1, referenced := false } s)
  else s

def execHomingSearchLimit (t : Time) (a : Fin 2) (s : State) : Host.Outcome State Fault Refusal :=
  atTime t (homingSearchLimit a.val) s

/-! Entry to SAFE (R309) -/

/-- A moving axis begins a ramped stop; homing in progress fails with status 2. -/
def beginStop (a : Nat) (toStopped : Bool) (s : State) : State :=
  let k := axisOf s a
  if k.state = 2 ∨ k.state = 3 then
    let s := setAxis a { k with
      toStopped := toStopped, endStatus := 2, homeFail := if k.homing = 5 then k.homeFail else 2 } s
    axisEnter a 4 (rampedStop a s)
  else if k.state = 4 then setAxis a { k with toStopped := k.toStopped || toStopped } s
  else s

def axesSafe (s : State) : State := each [0, 1] (fun a s =>
  if (axisOf s a).state = 2 ∨ (axisOf s a).state = 3 then beginStop a false s else s) s

/-! Commands -/

/-- Checks of the SSI fields that do not depend on another field. -/
def ssiRanges (p : Bytes) : Bool :=
  within (u8 p 2) 0 3 && within (u8 p 3) 8 40 && within (u8 p 4) 8 32 && (u8 p 6 == 0 || within (u8 p 6) 4 16)
    && within (u8 p 7) 1 16 && within (u8 p 10) 1 63

/-- Checks of the SSI fields in full (R298). Times in µs, with clocks of 0.5 × 2^n MHz. -/
def ssiOk (p : Bytes) : Bool :=
  let f := u8 p 3
  let e := u8 p 5
  let c := u8 p 6
  decide (u8 p 4 + c + (if e = 0xFF then 0 else 1) ≤ f) && (e == 0xFF || (decide (u8 p 4 ≤ e) && decide (e + c + 1 ≤ f)))
    && (c == 0 || u16 p 8 != 0)
    && decide ((f + 1) * 2 + u8 p 10 * 2 ^ u8 p 2 ≤ u8 p 7 * 16 * 2 ^ u8 p 2)

/-- At most 255 addresses a frame (R295). -/
def addressRateOk (p : Bytes) : Bool := decide (u32 p 24 * 16 * u32 p 20 ≤ 255 * 1000000 * 2 ^ 16)

/-- AXS_CONFIG_SET (0x0B01). -/
def axsConfigSetSpec : CmdSpec where
  opcode := 0x0B01
  modes := setupModes
  len := (· == 80)
  feature := fun _ s => axisFeature s
  value := fun p _ =>
    within (u8 p 0) 0 1 && within (u8 p 1) 0 31 && ssiRanges p && within (u8 p 13) 0 4 && within (u8 p 14) 0 31
      && within (u8 p 15) 1 255 && within (u32 p 16) 1 1000000 && within (u32 p 20) 0x100 0x400000
      && within (u32 p 24) 1 10000000 && within (u32 p 28) 1 100000000 && within (u32 p 32) 1 100000000
      && within (u32 p 36) 1 2000000000 && within (u32 p 40) 1 100000000 && decide (s32 p 44 < s32 p 48)
      && within (u32 p 52) 1 (u32 p 24) && within (u32 p 56) 0 1000000 && within (u32 p 60) 1 0x7FFFFFFF
      && within (u16 p 68) 1 65535 && within (u8 p 70) 1 255 && u8 p 71 == 0 && within (u16 p 72) 0 10000 && zeroAt p 74 6
      && addressRateOk p && (if ssiFeedback p then ssiOk p && homeMethod p != 2 else homeMethod p != 0)
  check := fun p s => refuseIf (axisRun s (u8 p 0)) eBusy
  apply := fun c _ s =>
    let a := u8 c.params 0
    let s := setAxis a { axisOf s a with referenced := false, absolute := false } s
    done (cfgHold (.axis (Fin.ofNat 2 a)) (slice c.params 0 80) s)

def axisValue (p : Bytes) : Bool := within (u8 p 0) 0 1 && zeroAt p 1 3

/-- AXS_START (0x0B02): the settings held take effect; the first start since reset begins the frames (R294, R295). -/
def axsStartSpec : CmdSpec where
  opcode := 0x0B02
  modes := exceptSafe
  len := (· == 4)
  feature := fun _ s => axisFeature s
  value := fun p _ => axisValue p
  apply := fun c _ s =>
    let a := u8 c.params 0
    if axisRun s a then done s
    else
      let s := cfgRelease (.axis (Fin.ofNat 2 a)) s
      let s := if (axisOf s a).frames then s else
        let s := alignAxis a 0 s
        setAxis a { axisOf s a with frames := true } s
      done (axisEnter a 1 (setAxis a { axisOf s a with stallSince := none } s))

/-- AXS_STOP (0x0B03). -/
def axsStopSpec : CmdSpec where
  opcode := 0x0B03
  modes := anyMode
  len := (· == 4)
  feature := fun _ s => axisFeature s
  value := fun p _ => within (u8 p 0) 0 1 && within (u8 p 1) 0 1 && zeroAt p 2 2
  check := fun p s => refuseIf (axisRun s (u8 p 0) && (axisOf s (u8 p 0)).owner.isSome) eBadMode
  apply := fun c _ s =>
    let a := u8 c.params 0
    let keep := u8 c.params 1 == 1
    let k := axisOf s a
    if k.state = 0 then done s
    else if k.state = 1 ∨ k.state = 5 then (if keep then done s else done (axisEnter a 0 s))
    else done (beginStop a (!keep) s)

/-- The position a move's target names, and the direction in which it goes (R302). -/
def moveTarget (p : Bytes) (k : Axis) : Int := if u8 p 1 = 1 then commandedPos k + s32 p 4 else s32 p 4

def moveForward (p : Bytes) (k : Axis) : Bool :=
  if u8 p 1 = 2 then decide (0 < s32 p 4) else decide (k.pos < moveTarget p k * unit32)

def moveBackward (p : Bytes) (k : Axis) : Bool :=
  if u8 p 1 = 2 then decide (s32 p 4 < 0) else decide (moveTarget p k * unit32 < k.pos)

/-- AXS_MOVE's E_BAD_MODE bits. -/
def moveUnmet (p : Bytes) (s : State) : Nat :=
  let k := axisOf s (u8 p 0)
  maskOf 4 fun i => match i with
    | 0 => decide (k.state ≠ 1) && decide (k.state ≠ 2)
    | 1 => decide (u8 p 1 ≠ 2) && !k.referenced
    | 2 => (k.limP.confirmed && moveForward p k) || (k.limN.confirmed && moveBackward p k)
    | _ => k.owner.isSome

/-- Where the axis would come to rest if it began to stop now. -/
def restPoint (m : MoveLimits) (k : Axis) : Int :=
  if k.vel < 0 then k.pos - stopDistance m (-k.vel) (-k.acc) else k.pos + stopDistance m k.vel k.acc

/-- Every position of the planned trajectory lies within the soft limits (R302). The reversal passes through the rest
point where the target cannot be reached without it. -/
def trajectoryOk (p : Bytes) (s : State) : Bool :=
  let a := u8 p 0
  let k := axisOf s a
  let c := axisCfg s a
  let m := axisLimits c { k with goal := 0 }
  let inside (x : Int) : Bool := decide (softNeg c * unit32 ≤ x) && decide (x ≤ softPos c * unit32)
  if !k.referenced then true
  else
    let rest := restPoint m k
    let target := moveTarget p k * unit32
    if u8 p 1 = 2 then inside k.pos && inside rest
    else
      let through := if 0 < k.vel then decide (target < rest) else if k.vel < 0 then decide (rest < target) else false
      inside target && inside k.pos && (!through || inside rest)

/-- The move itself: to a position, or to a velocity that a referenced axis holds up to the soft limit ahead. -/
def startMove (p : Bytes) (seq : Nat) (s : State) : State :=
  let a := u8 p 0
  let c := axisCfg s a
  let k := axisOf s a
  let lim := u32 c 24 * u8 p 2 / 100
  let v := s32 p 4
  let k := { k with owed := true, seq := seq, endStatus := 0, limitStop := none }
  let k := if u8 p 1 ≠ 2 then { k with goal := 0, target := moveTarget p k, vlim := lim }
    else if k.referenced ∧ v ≠ 0 then
      { k with goal := 0, target := if 0 < v then softPos c else softNeg c, vlim := min lim v.natAbs }
    else { k with goal := 1, vgoal := clampI (-(lim : Int)) lim v, vlim := lim }
  axisEnter a 2 (setAxis a k s)

/-- AXS_MOVE (0x0B04). -/
def axsMoveSpec : CmdSpec where
  opcode := 0x0B04
  modes := oneOf [.service]
  len := (· == 16)
  feature := fun _ s => axisFeature s
  value := fun p s =>
    within (u8 p 0) 0 1 && within (u8 p 1) 0 2 && within (u8 p 2) 1 100 && u8 p 3 == 0 && zeroAt p 8 8
      && (u8 p 1 != 2 || decide ((s32 p 4).natAbs ≤ u32 (axisCfg s (u8 p 0)) 24))
  check := fun p s =>
    let b := moveUnmet p s
    if b ≠ 0 then some (eBadMode, leBytes 4 b) else refuseIf (!trajectoryOk p s) eBadValue
  apply := fun c _ s => pendingDone (startMove c.params c.seq.toNat (moveDone (u8 c.params 0) 1 s))

/-- AXS_HOME (0x0B05) (R306). -/
def axsHomeSpec : CmdSpec where
  opcode := 0x0B05
  modes := oneOf [.service]
  len := (· == 4)
  feature := fun _ s => axisFeature s
  value := fun p _ => axisValue p
  check := fun p s => refuseIf (decide ((axisOf s (u8 p 0)).state ≠ 1) || (axisOf s (u8 p 0)).owner.isSome) eBadMode
  apply := fun c _ s =>
    let a := u8 c.params 0
    let cfg := axisCfg s a
    let k := { axisOf s a with chatter := 0, homeFail := 0 }
    match homeMethod cfg with
    | 0 =>
      let d := s32 cfg 64 - k.offset
      let k := { k with
        fb := k.fb + d, pos := k.pos + d * unit32, offset := s32 cfg 64, reads := k.reads.map fun r => (r.1, r.2 + d)
        bench := k.fb, absolute := true, referenced := k.present.isEmpty }
      done (homeDone a 0 (setAxis a k s))
    | 4 =>
      let s := setAxis a k s
      done (homeDone a 0 (benchmark a k.fb s))
    | _ =>
      let k := { k with
        homing := 1, goal := 1, vgoal := searchSign cfg * u32 cfg 52, vlim := u32 cfg 52, searchFrom := k.pos, limitStop := none }
      pendingDone (axisEnter a 3 (setAxis a k s))

/-- AXS_FAULT_CLEAR (0x0B06) (R295, R305). -/
def axsFaultClearSpec : CmdSpec where
  opcode := 0x0B06
  modes := anyMode
  len := (· == 4)
  feature := fun _ s => axisFeature s
  value := fun p _ => axisValue p
  check := fun p s =>
    let k := axisOf s (u8 p 0)
    refuseIf (decide (k.state ≠ 5) || !k.present.isEmpty) eBadMode
  apply := fun c _ s =>
    let a := u8 c.params 0
    let s := alignAxis a (axisOf s a).addr s
    done (axisEnter a 1 (setAxis a { axisOf s a with causes := [], stallSince := none } s))

end Sys2Proof.Machine
end

