-- ==== Sys2Proof/Machine/Mss.lean ====
section
/-! DEFINITION. MSS, the management subsystem (17): firmware update and activation, the journal and the event log,
supplies, random numbers, sealing and attestation. -/
namespace Sys2Proof.Machine

/-! Image slots -/

def slotOf (s : State) (b : Bool) : ImageSlot := if b then s.nvm.slotB else s.nvm.slotA

def setSlot (b : Bool) (v : ImageSlot) (s : State) : State :=
  if b then { s with nvm := { s.nvm with slotB := v } } else { s with nvm := { s.nvm with slotA := v } }

/-- The active and the inactive slot's image. -/
def activeImage (s : State) : ImageSlot := slotOf s s.mss.activeB
def otherImage (s : State) : ImageSlot := slotOf s (!s.mss.activeB)

/-- The byte string that chunks of written data spell from offset 0; unwritten bytes read as erased flash, 0xFF. -/
def assembled (chunks : List (Nat × Bytes)) (len : Nat) : Bytes :=
  (upTo len).map fun i =>
    match chunks.find? (fun c => c.1 ≤ i ∧ i < c.1 + c.2.length) with
    | some c => c.2.getD (i - c.1) 0xFF
    | none => 0xFF

/-- Every header field of an Ahnermum image is in range and its reserved fields are 0 (R334). -/
def headerInRange (h : Bytes) : Bool :=
  u32 h 0 == 0x4D4E4841 && u16 h 4 == 1 && u16 h 6 == 256 && within (u16 h 12) 0 64 && within (u8 h 14) 0 3
    && within (u8 h 15) 0 1 && within (u32 h 16) 64 393216 && u32 h 16 % 64 == 0
    && decide (u32 h 20 + 4 ≤ u32 h 16) && (u8 h 15 == 1 || zeroAt h 24 28) && zeroAt h 52 12 && zeroAt h 96 64

/-- The result of verifying written data: 0, or the reason of R335. The signature, the NVM reads and the GCM
authentication are what the hardware finds. -/
def verifyReason (s : State) (signatureOk readOk decryptOk : Bool) : Nat :=
  let h := assembled s.mss.written 256
  if !headerInRange h then 1
  else if bit s.nvm.rootRevoke.toNat (u8 h 14) || decide (u16 h 12 < s.nvm.minSecurity) then 1
  else if !signatureOk then 1
  else if !readOk then 3
  else if sha256 ((assembled s.mss.written (256 + u32 h 16)).drop 256) ≠ slice h 64 32 then 2
  else if u8 h 15 == 1 && !decryptOk then 2
  else 0

/-- What a verified image's header says of it. -/
def imageOf (h : Bytes) : ImageSlot :=
  { present := true, verifies := true, fwVersion := BitVec.ofNat 32 (u32 h 8), security := u16 h 12, root := u8 h 14,
    measurement := sha256 (h.take 160) }

/-- An image still passes R335's checks of the one-time-programmable store. -/
def passesOtp (minSecurity : Nat) (revoke : Nat) (i : ImageSlot) : Bool :=
  decide (minSecurity ≤ i.security) && !bit revoke i.root

/-- EV_MSS_UPDATE_DONE (0x1F02). -/
def updateDone (status : Nat) (version : BitVec 32) (s : State) : State :=
  raise 0x1F02 0x0F (leBytes 1 (b2n s.mss.activeB) ++ leBytes 1 status ++ zeros 2 ++ leBytes 4 version.toNat
    ++ leBytes 8 s.mss.beginSlot) s

/-! Commands -/

def exceptBoot : Mode → Bool := anyMode

/-- MSS_CONFIG_SET (0x0E01) (R348). -/
def mssConfigSetSpec : CmdSpec where
  opcode := 0x0E01
  modes := setupModes
  len := (· == 8)
  value := fun p _ => within (u8 p 0) 0 3 && within (u8 p 1) 1 10 && zeroAt p 2 6
  apply := fun c _ s => done (cfgSet .mss (slice c.params 0 8) s)

/-- key_id: the first 8 bytes of SHA-256 over the public key (R331). -/
def keyId : Bytes := (sha256 Config.devicePublicKey).take 8

/-- MSS_KEY_READ (0x0E02) (R331). -/
def mssKeyReadSpec : CmdSpec where
  opcode := 0x0E02
  modes := exceptBoot
  isRead := true
  len := (· == 0)
  apply := fun _ _ s => withResult (leBytes 8 Config.deviceSerial.toNat ++ keyId
    ++ padTo 97 Config.devicePublicKey ++ zeros 3 ++ padTo 100 Config.endorsement) s

/-- MSS_UPDATE_BEGIN (0x0E03): starts the erase of the inactive slot (R341). -/
def mssUpdateBeginSpec : CmdSpec where
  opcode := 0x0E03
  modes := exceptSafe
  len := (· == 4)
  value := fun p _ => zeroAt p 0 4
  check := fun _ s => refuseIf (s.mss.update = .pending || s.mss.trial.isSome) eBadMode
  apply := fun _ _ s => pendingDone { s with mss := { s.mss with erasing := true } }

/-- Two byte ranges overlap. -/
def overlaps (a la b lb : Nat) : Bool := decide (a < b + lb) && decide (b < a + la)

/-- MSS_UPDATE_WRITE (0x0E04) (R341). -/
def mssUpdateWriteSpec : CmdSpec where
  opcode := 0x0E04
  modes := exceptSafe
  len := fun n => within n 72 1000 && (n - 8) % 64 == 0
  value := fun p _ =>
    u32 p 0 % 64 == 0 && within (u32 p 0) 0 0x3FFFC0 && zeroAt p 4 4
      && decide (u32 p 0 + (p.length - 8) ≤ 0x400000)
  check := fun p s => firstOf [
    refuseIf (s.mss.update ≠ .writing) eBadMode,
    refuseIf (s.mss.written.any fun w => overlaps w.1 w.2.length (u32 p 0) (p.length - 8)) eBadValue]
  apply := fun c _ s => done (setSlot (!s.mss.activeB) { otherImage s with present := true }
    { s with mss := { s.mss with written := s.mss.written ++ [(u32 c.params 0, c.params.drop 8)] } })

/-- MSS_UPDATE_VERIFY (0x0E05) (R341). -/
def mssUpdateVerifySpec : CmdSpec where
  opcode := 0x0E05
  modes := exceptSafe
  len := (· == 0)
  check := fun _ s => refuseIf (s.mss.update ≠ .writing) eBadMode
  apply := fun _ _ s => pendingDone { s with mss := { s.mss with verifying := true } }

/-- MSS_UPDATE_ACTIVATE (0x0E06): in PRINT and DRAIN a live activation waits for a row that begins at least 128 slots
after validation; elsewhere T_a is the first whole millisecond at least 1 ms ahead (R342). -/
def mssUpdateActivateSpec : CmdSpec where
  opcode := 0x0E06
  modes := exceptSafe
  len := (· == 4)
  feature := fun p s => u8 p 0 ≠ 1 || hasFeature s 9
  value := fun p _ => within (u8 p 0) 0 1 && zeroAt p 1 3
  check := fun _ s => refuseIf (s.mss.update ≠ .verified) eBadMode
  apply := fun c _ s =>
    let live := u8 c.params 0 == 1
    let firing := s.hub.mode = .print ∨ s.hub.mode = .drain
    pendingDone { s with mss := { s.mss with
      update := .pending
      activation := some {
        live := live
        notBefore := if live ∧ firing then some (presentSlot s + 128) else none
        t := if live ∧ ¬firing then some (ceilTo tpMs (s.now + tpMs)) else none } } }

/-- MSS_ROLLBACK_FENCE (0x0E07) (R330). -/
def mssRollbackFenceSpec : CmdSpec where
  opcode := 0x0E07
  modes := oneOf [.standby, .service]
  len := (· == 8)
  value := fun p s => u32 p 0 == 0x0000F3CE && within (u32 p 4) 0 15 && !bit (u32 p 4) (activeImage s).root
  check := fun p s =>
    let m := max s.nvm.minSecurity (activeImage s).security
    refuseIf ((otherImage s).present
      && !passesOtp m (s.nvm.rootRevoke.toNat ||| u32 p 4) (otherImage s)) eBadMode
  apply := fun c _ s => done { s with nvm := { s.nvm with
    minSecurity := max s.nvm.minSecurity (activeImage s).security
    rootRevoke := s.nvm.rootRevoke ||| BitVec.ofNat 4 (u32 c.params 4) } }

/-- MSS_SEAL (0x0E08) (R345). -/
def mssSealSpec : CmdSpec where
  opcode := 0x0E08
  modes := oneOf [.standby, .service]
  len := (· == 4)
  value := fun p _ => u32 p 0 == 0x5EA10D1E
  apply := fun _ _ s => done { s with nvm := { s.nvm with sealed_ := true } }

/-- Index of the oldest retained log entry. -/
def logFirst (s : State) : Nat := s.nvm.logCount - s.nvm.log.length

/-- MSS_LOG_READ (0x0E09) (R340). -/
def mssLogReadSpec : CmdSpec where
  opcode := 0x0E09
  modes := exceptBoot
  isRead := true
  len := (· == 12)
  value := fun p s => within (u8 p 8) 1 15 && zeroAt p 9 3
    && decide (logFirst s ≤ u64 p 0) && decide (u64 p 0 < s.nvm.logCount)
  apply := fun c _ s =>
    let es := (s.nvm.log.drop (u64 c.params 0 - logFirst s)).take (u8 c.params 8)
    withResult (s.nvm.anchor ++ leBytes 8 (logFirst s) ++ leBytes 8 s.nvm.logCount
      ++ es.flatMap fun e => e.event ++ e.h) s

/-- Bytes 0 to 255 of the attestation report, every field taken at validation (R346). -/
def attestBody (nonce : Bytes) (s : State) : Bytes :=
  let a := activeImage s
  let o := otherImage s
  leBytes 2 1 ++ leBytes 2 352 ++ leBytes 1 s.rng.address.toNat ++ leBytes 1 (b2n s.mss.activeB)
    ++ leBytes 2 (b2n s.nvm.sealed_ + 2 * b2n s.mss.activation.isSome + 4 * b2n s.mss.trial.isSome
      + 8 * b2n (hasFeature s 5))
    ++ leBytes 8 Config.deviceSerial.toNat ++ leBytes 4 s.nvm.bootCount.toNat ++ leBytes 4 a.fwVersion.toNat
    ++ leBytes 4 (if o.verifies then o.fwVersion.toNat else 0) ++ leBytes 1 a.security ++ leBytes 1 s.nvm.minSecurity
    ++ zeros 2 ++ padTo 32 nonce ++ padTo 32 a.measurement ++ (if o.verifies then padTo 32 o.measurement else zeros 32)
    ++ cfgDigest s ++ leBytes 8 (cfgEpoch s) ++ leBytes 8 (lastSealedBlock s) ++ padTo 32 (chainHead s)
    ++ padTo 32 s.nvm.logHead ++ timeBytes s.now ++ leBytes 4 Config.romVersion.toNat

/-- ATTEST (0x0E10) (R346), refused after a random number generator failure (R333). -/
def attestSpec : CmdSpec where
  opcode := 0x0E10
  modes := exceptBoot
  isRead := true
  len := (· == 32)
  check := fun _ s => refuseIf s.mss.trngFailed eInternal
  apply := fun c _ s =>
    let b := attestBody c.params s
    withResult (b ++ padTo 96 (Config.sign (sha256 b))) s

/-! Time-driven steps -/

/-- SLOT_ERASE_DONE: the inactive slot is erased and the update enters WRITING (R341). -/
def slotEraseDone (ok0 ok1 : Bool) (s : State) : State :=
  if !s.mss.erasing then s
  else
    let r := onBothDevices ok0 ok1 3 { s with mss := { s.mss with erasing := false } }
    let s := r.2
    let s := if r.1 then setSlot (!s.mss.activeB) {} { s with mss := { s.mss with update := .writing, written := [] } }
      else s
    raise 0x1F03 0x0F (leBytes 1 1 ++ leBytes 1 (b2n (!r.1))) s

def execSlotEraseDone (t : Time) (ok0 ok1 : Bool) (s : State) : Host.Outcome State Fault Refusal :=
  atTime t (slotEraseDone ok0 ok1) s

/-- UPDATE_VERIFY_DONE: VERIFIED, or still WRITING with the reason (R341). -/
def updateVerifyDone (signatureOk readOk decryptOk : Bool) (s : State) : State :=
  if !s.mss.verifying then s
  else
    let reason := verifyReason s signatureOk readOk decryptOk
    let img := imageOf (assembled s.mss.written 256)
    let s := { s with mss := { s.mss with verifying := false } }
    let s := if reason = 0 then setSlot (!s.mss.activeB) img { s with mss := { s.mss with update := .verified } } else s
    raise 0x1F01 0x0F (leBytes 1 (b2n (!s.mss.activeB)) ++ leBytes 1 reason ++ zeros 2
      ++ leBytes 4 img.fwVersion.toNat) s

def execUpdateVerifyDone (t : Time) (signatureOk readOk decryptOk : Bool) (s : State) :
    Host.Outcome State Fault Refusal :=
  atTime t (updateVerifyDone signatureOk readOk decryptOk) s

/-- A pending activation is cancelled by a SAFE cause at T_a: back to VERIFIED, status 2 (R347). -/
def cancelActivation (s : State) : State :=
  updateDone 2 (otherImage s).fwVersion { s with mss := { s.mss with update := .verified, activation := none } }

/-- The activation may take place now: at the begin slot it waits for, at the end of the drain, or at its instant. -/
def activationDue (a : Activation) (begin : Option Int) (s : State) : Bool :=
  if !a.live then true
  else match a.notBefore, a.t with
    | some n, _ =>
      match begin with
      | some b => decide (n ≤ b)
      | none => !(s.hub.mode = .print) && !(s.hub.mode = .drain)
    | none, some t => decide (t ≤ s.now)
    | none, none => false

/-- ACTIVATION: at T_a the open ledger block closes and the cores switch bank; or the new slot becomes preferred for
the next reset (R342). -/
def activation (begin : Option Int) (s : State) : State :=
  match s.mss.activation with
  | none => s
  | some a =>
    if !activationDue a begin s then s
    else if s.hub.safe.any (fun c => c.t = s.now) then cancelActivation s
    else if a.live then
      let s := closeBlock 4 s
      { s with mss := { s.mss with
        activeB := !s.mss.activeB, update := .idle, activation := none, activateTime := s.now,
        beginSlot := (begin.getD 0).toNat, trialOver := false,
        trial := some (s.now + u8 (cfgGet s .mss) 1 * tpS) } }
    else
      let v := (otherImage s).fwVersion
      updateDone 3 v { s with mss := { s.mss with
        update := .idle, activation := none, beginSlot := 0, journal := s.mss.journal ++ [.preferred (!s.mss.activeB)] } }

def execActivation (t : Time) (begin : Option Int) (s : State) : Host.Outcome State Fault Refusal :=
  atTime t (activation begin) s

/-- IMAGE_CONFIRM: the trial image becomes preferred (R343). -/
def imageConfirm (s : State) : State :=
  match s.mss.trial with
  | some d =>
    if s.now ≤ d ∧ !s.mss.trialOver then
      updateDone 0 (activeImage s).fwVersion { s with mss := { s.mss with
        trial := none, journal := s.mss.journal ++ [.preferred s.mss.activeB] } }
    else s
  | none => s

def execImageConfirm (t : Time) (s : State) : Host.Outcome State Fault Refusal := atTime t imageConfirm s

/-- The cores switch back to the old bank: the open ledger block closes, status 1 (R343). -/
def revertTrial (s : State) : State :=
  let s := closeBlock 4 s
  let s := { s with mss := { s.mss with activeB := !s.mss.activeB, trial := none, trialOver := false } }
  updateDone 1 (activeImage s).fwVersion s

/-- TRIAL_TIMEOUT: without confirmation the old bank comes back, at once outside PRINT and DRAIN (R343). -/
def trialTimeout (s : State) : State :=
  match s.mss.trial with
  | some d =>
    if d ≤ s.now then
      if s.hub.mode = .print ∨ s.hub.mode = .drain then { s with mss := { s.mss with trialOver := true } }
      else revertTrial s
    else s
  | none => s

def execTrialTimeout (t : Time) (s : State) : Host.Outcome State Fault Refusal := atTime t trialTimeout s

/-- TRIAL_REVERT: at the next row's begin slot, or once printing is over, the old bank comes back (R343). -/
def trialRevert (begin : Option Int) (s : State) : State :=
  if s.mss.trialOver ∧ (begin.isSome ∨ ¬(s.hub.mode = .print ∨ s.hub.mode = .drain)) then revertTrial s else s

def execTrialRevert (t : Time) (begin : Option Int) (s : State) : Host.Outcome State Fault Refusal :=
  atTime t (trialRevert begin) s

/-- Puts a committed journal record in force (R338). -/
def commitRecord (r : JournalRec) (s : State) : State :=
  match r with
  | .preferred b => { s with nvm := { s.nvm with preferredB := b } }
  | .delaySets d => { s with nvm := { s.nvm with delaySets := d } }
  | .correction ty tg v => { s with nvm := { s.nvm with corrections := tset s.nvm.corrections (ty, tg) v } }

/-- JOURNAL_COMMIT: the oldest waiting record commits on a device that works, or is absent; EV_MSS_NVM_LOST once both
devices have failed for the journal (R338, R339). -/
def journalCommit (ok0 ok1 : Bool) (s : State) : State :=
  match s.mss.journal with
  | [] => s
  | r :: rest =>
    let lostBefore := s.nvm.failed0 && s.nvm.failed1
    let g := onBothDevices ok0 ok1 2 { s with mss := { s.mss with journal := rest, programming := false } }
    let s := if g.1 then commitRecord r g.2 else g.2
    when_ (!lostBefore && s.nvm.failed0 && s.nvm.failed1) (raise 0x3F03 0x0F (leBytes 1 0)) s

def execJournalCommit (t : Time) (ok0 ok1 : Bool) (s : State) : Host.Outcome State Fault Refusal :=
  atTime t (journalCommit ok0 ok1) s

/-- Log entries that 48 MiB hold, and entries of one 4 KiB sector (R337, R340). -/
def logCapacity : Nat := 786432
def logSector : Nat := 64

/-- Programs one entry with its chain value; before the log overwrites its oldest sector, that sector's last chain
value becomes the anchor (R340). -/
def appendLog (event : Bytes) (s : State) : State :=
  let n := s.nvm
  let n := if n.log.length < logCapacity then n
    else { n with anchor := match n.log[logSector - 1]? with
                    | some e => e.h
                    | none => n.anchor,
                  log := n.log.drop logSector }
  let h := sha256 (n.logHead ++ event)
  { s with nvm := { n with log := n.log ++ [{ event := event, h := h }], logHead := h, logCount := n.logCount + 1 } }

/-- EVENT_LOG_APPEND: the waiting entries are programmed to the devices that work (R340, R339). -/
def eventLogAppend (ok0 ok1 : Bool) (s : State) : State :=
  if s.mss.logQueue.isEmpty then s
  else
    let lostBefore := s.nvm.failed0 && s.nvm.failed1
    let q := s.mss.logQueue
    let g := onBothDevices ok0 ok1 2 { s with mss := { s.mss with logQueue := [] } }
    let s := if g.1 then each q appendLog g.2 else g.2
    when_ (!lostBefore && s.nvm.failed0 && s.nvm.failed1) (raise 0x3F03 0x0F (leBytes 1 1)) s

def execEventLogAppend (t : Time) (ok0 ok1 : Bool) (s : State) : Host.Outcome State Fault Refusal :=
  atTime t (eventLogAppend ok0 ok1) s

/-- TRNG_HEALTH_FAILURE: MSS_STATE [8] until the next reset; in ROM the boot fails (R333). -/
def trngHealthFailure (test : Nat) (s : State) : State :=
  let s := raise 0x3F02 0x0F (leBytes 1 test) { s with mss := { s.mss with trngFailed := true } }
  if s.hub.mode = .boot ∧ s.hub.bootState = .rom then { s with hub := { s.hub with bootState := .failed } } else s

def execTrngHealthFailure (t : Time) (test : Nat) (s : State) : Host.Outcome State Fault Refusal :=
  atTime t (trngHealthFailure test) s

/-! Supplies (R344) -/

/-- Nominal voltage of each supply in mV. -/
def nominalMv : Nat → Nat
  | 0 => 750 | 1 => 800 | 2 => 1100 | 3 => 900 | 4 => 1200 | 5 => 1800 | _ => 3300

/-- A reading lies outside ± `pct` per cent of nominal. -/
def outsideMv (supply mv pct : Nat) : Bool :=
  let n := nominalMv supply
  decide (mv * 100 < n * (100 - pct)) || decide (n * (100 + pct) < mv * 100)

def readSupply (supply mv : Nat) (s : State) : State :=
  { s with mss := { s.mss with supplyMv := tset s.mss.supplyMv supply mv } }

/-- The detail of the supply events: supply, low or high, reading. -/
def supplyDetail (supply mv : Nat) : Bytes :=
  leBytes 1 supply ++ leBytes 1 (b2n (decide (nominalMv supply < mv))) ++ leBytes 2 mv

/-- SUPPLY_WARNING: outside ±3 % for 100 µs. -/
def supplyWarning (supply mv : Nat) (s : State) : State :=
  let s := readSupply supply mv s
  if outsideMv supply mv 3 && !bit s.mss.warn.toNat supply then
    raise 0x2F01 0x0F (supplyDetail supply mv)
      { s with mss := { s.mss with warn := s.mss.warn ||| BitVec.ofNat 7 (2 ^ supply) } }
  else s

def execSupplyWarning (t : Time) (supply : Fin 7) (mv : Nat) (s : State) : Host.Outcome State Fault Refusal :=
  atTime t (supplyWarning supply.val mv) s

/-- SUPPLY_FAULT: outside ±5 % for 10 µs sets the SAFE cause supply monitor. -/
def supplyFault (supply mv : Nat) (s : State) : State :=
  let s := readSupply supply mv s
  if outsideMv supply mv 5 && !bit s.mss.fault.toNat supply then
    raiseSafe 3 0x0F (raise 0x3F01 0x0F (supplyDetail supply mv)
      { s with mss := { s.mss with fault := s.mss.fault ||| BitVec.ofNat 7 (2 ^ supply) } })
  else s

def execSupplyFault (t : Time) (supply : Fin 7) (mv : Nat) (s : State) : Host.Outcome State Fault Refusal :=
  atTime t (supplyFault supply.val mv) s

/-- SUPPLY_COLLAPSE: the core or SRAM supply below −8 % for 2 µs starts the sequence of R288 with cause 2. -/
def supplyCollapse (supply mv : Nat) (s : State) : State :=
  let s := readSupply supply mv s
  if decide (mv * 100 < nominalMv supply * 92) then startShutdown 2 s.now (supplyFault supply mv s) else s

def execSupplyCollapse (t : Time) (supply : Fin 2) (mv : Nat) (s : State) : Host.Outcome State Fault Refusal :=
  atTime t (supplyCollapse supply.val mv) s

/-- SUPPLY_CLEAR: within ±3 % for 100 ms clears the supply's warning and fault, and with the last fault the SAFE
cause. -/
def supplyClear (supply mv : Nat) (s : State) : State :=
  let s := readSupply supply mv s
  if outsideMv supply mv 3 then s
  else
    let off := ~~~BitVec.ofNat 7 (2 ^ supply)
    let s := { s with mss := { s.mss with warn := s.mss.warn &&& off, fault := s.mss.fault &&& off } }
    if s.mss.fault = 0 then clearSafe 3 0x0F s else s

def execSupplyClear (t : Time) (supply : Fin 7) (mv : Nat) (s : State) : Host.Outcome State Fault Refusal :=
  atTime t (supplyClear supply.val mv) s

/-! Lockstep and watchdog (R328, R329) -/

/-- LOCKSTEP_MISMATCH: SAFE cause lockstep mismatch at t0 and the reset sequence with cause 3. -/
def lockstepMismatch (s : State) : State := startShutdown 3 s.now (raiseSafe 2 0x0F s)

def execLockstepMismatch (t : Time) (s : State) : Host.Outcome State Fault Refusal := atTime t lockstepMismatch s

/-- MSS_WATCHDOG_EXPIRY: the same sequence with cause 4 and the SAFE cause internal fault; the watchdog is stopped
where no firmware runs (R329, R336). -/
def mssWatchdogExpiry (s : State) : State :=
  if s.hub.bootState = .failed then s else startShutdown 4 s.now (internalFault 0x0F s)

def execMssWatchdogExpiry (t : Time) (s : State) : Host.Outcome State Fault Refusal := atTime t mssWatchdogExpiry s

end Sys2Proof.Machine
end

