-- ==== Sys2Proof/Machine/Calib.lean ====
section
/-! DEFINITION. CAL (13), the corrections and their measurement: where each correction lives, what a pass measures,
agreement, quality and evaluation. -/
namespace Sys2Proof.Machine

/-! Corrections as lists (R264, R269, R270) -/

/-- Sensors of a TEMP_OFFSET target. -/
def offsetSensors (target : Nat) : List Nat := if target = 0xFE then upTo 16 else [16 + 2 * target, 17 + 2 * target]

/-- Nozzles of a module. -/
def moduleNozzles (m : Nat) : List Nat := (upTo 4352).map (m * 4352 + ·)

/-- The 28 entries of trim tables 1 to 7, by table and code. -/
def trimEntries : List (Nat × Nat) := (upTo 7).flatMap fun k => (upTo 4).map fun c => (k + 1, c)

/-- The correction in force of a type and target, listed. -/
def correctionOf (s : State) (type target : Nat) : List Int :=
  match type with
  | 1 => [(encOf s target).scale]
  | 2 => [(camOf s target).delta, (camOf s target).scale, (camOf s target).along]
  | 3 =>
    let k := camOf s target
    (upTo 4352).map (fun x => ((k.flat.getD x 4096 : Nat) : Int))
      ++ (upTo 1280).map fun i => ((tget (i % 256) k.xfer (i / 256, i % 256) : Nat) : Int)
  | 4 => [(axisOf s target).sigma]
  | 5 => (offsetSensors target).map (tget 0 s.thm.offsets)
  | 6 => rowList.map fun r => tget 0 (mapNow s).timing (target, r)
  | 7 => [tget 0 (mapNow s).column (target + 1)]
  | 8 => (moduleNozzles target).map (fun n => ((tget 0 (mapNow s).trimClass n : Nat) : Int))
      ++ trimEntries.map fun e => ((tget e.2 (mapNow s).trim (8 * target + e.1, e.2) : Nat) : Int)
  | 9 => [(laneOf s target).phase, (laneOf s target).volt]
  | _ => rowList.map fun q => tget 0 (encOf s target).interp q

/-- The defaults of a type: 0, and the identity (R270). -/
def correctionDefault (type target : Nat) : List Int :=
  match type with
  | 2 => [0, 0, 0]
  | 3 => List.replicate 4352 4096 ++ (upTo 1280).map fun i => ((i % 256 : Nat) : Int)
  | 5 => (offsetSensors target).map fun _ => 0
  | 6 => [0, 0, 0, 0]
  | 8 => List.replicate 4352 0 ++ trimEntries.map fun e => ((e.2 : Nat) : Int)
  | 9 => [0, 0]
  | 10 => [0, 0, 0, 0]
  | _ => [0]

/-- The change of the line-bound state that types 6 to 8 make. -/
def correctionChange (type target : Nat) (v : List Int) : LineChange :=
  match type with
  | 6 => .timing target v
  | 7 => .column (target + 1) (v.getD 0 0)
  | _ => .trim ((moduleNozzles target).zip (v.map Int.toNat))
      ((trimEntries.map fun e => (8 * target + e.1, e.2)).zip ((v.drop 4352).map Int.toNat))

/-- From here on the web scale differs: counts so far keep the position they were given (R269). -/
def putScale (x : Nat) (v : Int) (s : State) : State :=
  let e := encOf s x
  setEnc x { e with posBase := e.posBase + (e.count - e.countBase) * ratioNow s x, countBase := e.count, scale := v } s

/-- Writes a correction into the block that uses it. -/
def putCorrection (type target : Nat) (v : List Int) (s : State) : State :=
  let at_ (i : Nat) : Int := v.getD i 0
  match type with
  | 1 => putScale target (at_ 0) s
  | 2 => setCam target { camOf s target with delta := at_ 0, scale := at_ 1, along := at_ 2 } s
  | 3 =>
    let table := (upTo 1280).map fun i => ((i / 256, i % 256), (at_ (4352 + i)).toNat)
    setCam target { camOf s target with flat := (v.take 4352).map Int.toNat, xfer := table } s
  | 4 => setAxis target { axisOf s target with sigma := at_ 0 } s
  | 5 =>
    let l := (offsetSensors target).zip v
    { s with thm := { s.thm with offsets := l.foldl (fun t e => tset t e.1 e.2) s.thm.offsets } }
  | 9 => setLane target { laneOf s target with phase := at_ 0, volt := at_ 1 } s
  | 10 => setEnc target { encOf s target with interp := rowList.map fun q => (q, at_ q) } s
  | _ => settleChange (correctionChange type target v) s

/-- The corrections that NVM holds come back: the NVM step of BOOT (R270, R338). -/
def restoreCorrections (s : State) : State :=
  each s.nvm.corrections (fun e s =>
    match e.2 with
    | temp :: a :: b :: v =>
      let s := putCorrection e.1.1 e.1.2 v s
      let sers := (serialModules e.1.1 e.1.2).zip [BitVec.ofInt 32 a, BitVec.ofInt 32 b]
      { s with cal := { s.cal with
        temps := tset s.cal.temps e.1 temp, serials := sers.foldl (fun t x => tset t x.1 x.2) s.cal.serials } }
    | _ => s) s

/-! Runs and policy (R264, R266, R271) -/

def setRun (r : CalRun) (s : State) : State :=
  { s with cal := { s.cal with runs := s.cal.runs.map fun x => if x.id = r.id then r else x } }

def findRun (s : State) (id : Nat) : Option CalRun := s.cal.runs.find? fun r => r.id = id

/-- In PASS1 or PASS2. -/
def inPass (r : CalRun) : Bool := r.state == 2 || r.state == 3

def runFinal (r : CalRun) : Bool := decide (6 ≤ r.state)

/-- Class X. -/
def classX (type : Nat) : Bool := decide (type ≤ 5)

/-- Types whose passes measure patches. -/
def printBased (type : Nat) : Bool := type == 3 || type == 6 || type == 7 || type == 8

/-- Types that take a CAL_REFERENCE. -/
def wantsReference (type : Nat) : Bool := classX type

/-- The mode lets a run of a type begin a pass (R264). -/
def modeAdmits (s : State) (type : Nat) : Bool :=
  match s.hub.mode with
  | .calibrate => true
  | .print => type == 1 || decide (6 ≤ type)
  | _ => false

/-- The tolerance of a run, in the units of R264. -/
def tolerance (r : CalRun) : Nat := u16 r.policy (4 + 2 * (r.type - 1))

/-- The spare channel of R271 is there at PASS1. -/
def spareAvailable (s : State) (r : CalRun) : Bool :=
  if r.type = 1 ∨ r.type = 10 then
    let y := 1 - r.target
    decide (r.target = activeEnc s) && encHealthy s y && regReady s y && s.enc.latched && s.enc.agree
  else if r.type = 6 ∨ r.type = 8 then !interleaved s r.target
  else false

/-- Rows whose nozzles the present pass of a FIRE_TIMING run measures: under SPARE those of the set that is not printing
(R271). -/
def measuredRows (s : State) (r : CalRun) : List Nat :=
  if r.spare then
    let v := mapNow s
    rowList.filter fun q => [0, 1].any fun c => decide (partnerRow (nominalRow s v r.target c 0) = q)
  else rowList

/-! Fixed-point helpers. Measured elements are in 2^-16 of their unit. -/
def fine : Nat := 65536

/-- Quotient rounded to the nearest, halves away from zero (R265). A quotient by zero is not stated: it is free (log
entry 63). -/
def roundDiv (a b : Int) : Int :=
  if b = 0 then Config.freeInt 20 a.natAbs
  else
    let q : Int := ((2 * a.natAbs + b.natAbs) / (2 * b.natAbs) : Nat)
    if (a < 0) = (b < 0) then q else -q

/-- The value at rank ⌈0.95 n⌉ in ascending order (R267). -/
def rank95 (l : List Nat) : Nat := (sortNat l).getD ((95 * l.length + 99) / 100 - 1) 0

/-- Differences between the passes, element by element. -/
def passDiffs (r : CalRun) : List Nat := (r.pass1.zip r.pass2).map fun p => (p.1 - p.2).natAbs

/-- Half of a difference in another unit: d × num / den, rounded. -/
def halfIn (num den d : Nat) : Nat := (roundDiv ((d * num : Nat) : Int) ((2 * den : Nat) : Int)).toNat

/-! Geometry units in nm -/

/-- One bar column is 25,400,000 / 1,200 nm and one line 25,400,000 / lpi nm. -/
def nmInch : Nat := 25400000

/-- Element i of a run in tolerance units of R264: multiply and divide. -/
def toleranceUnit (s : State) (r : CalRun) (i : Nat) : Nat × Nat :=
  match r.type with
  | 1 => (1000000, 2 ^ 32 * fine)
  | 2 =>
    if i = 0 then (nmInch, 19200 * fine)
    else if i = 1 then (13056 * nmInch, 1200 * 1000000 * fine)
    else (nmInch, lpi s * 65536 * fine)
  | 4 => (1000000, 2 ^ 32 * fine)
  | 5 => (1, 10 * fine)
  | 10 => (1000, 65536 * fine)
  | _ => (1, fine)

/-- Element i agrees (R265): the along-web element of CAMERA_GEOMETRY within twice the tolerance. -/
def elementAgrees (s : State) (r : CalRun) (i d : Nat) : Bool :=
  let u := toleranceUnit s r i
  let tol := if r.type = 2 ∧ i = 2 then 2 * tolerance r else tolerance r
  decide (d * u.1 ≤ tol * u.2)

/-! What a pass measures -/

/-- WEB_SCALE: the multiplier that makes the counted distance the gauge length, in 2^-32 (R264). -/
def scaleElement (s : State) (r : CalRun) (ref : Bytes) : Int :=
  let count (t : Time) : Int := ((r.snaps.find? fun p => p.1 = t).map (·.2)).getD 0
  let n : Int := ((count (timeAt ref 12) - count (timeAt ref 0)).natAbs : Nat)
  let len : Int := u64 ref 24
  roundDiv (len * 2 ^ 64 * lpi s * fine) (n * encRatio s r.target * nmInch) - 2 ^ 32 * fine

/-- CAMERA_GEOMETRY: the correction that puts the two edges seen and the cross edge where the reference has them. The
reading gives pixel positions and a line position in 2^-16. -/
def geometryElements (s : State) (r : CalRun) (ref : Bytes) : List Int :=
  let x1 := 3 * r.reading.getD 0 0 + fine
  let x2 := 3 * r.reading.getD 1 0 + fine
  let e1 := s32 ref 0
  let e2 := s32 ref 4
  let span := (x2 - x1) * nmInch
  let scale := roundDiv ((e2 - e1) * 1200 * fine * 1000000 * fine) span - 1000000 * fine
  let left := roundDiv (e1 * 1200 * 16 * fine) nmInch - 16 * fine * u16 (camCfg s r.target) 6
  let delta := left - 16 * x1 - roundDiv (16 * x1 * scale) (1000000 * fine)
  let along := roundDiv (s32 ref 8 * lpi s * 65536 * fine) nmInch - r.reading.getD 2 0 * fine
  [delta, scale, along]

/-- AXIS_SCALE: d / ((f_b - f_a) × nm_per_count) - 1 in 2^-32 (R308). -/
def axisElement (s : State) (r : CalRun) (ref : Bytes) : Int :=
  let span := r.sumB * r.numA - r.sumA * r.numB
  roundDiv (s64 ref 0 * 2 ^ 32 * r.numA * r.numB * fine) (span * u32 (axisCfg s r.target) 16) - 2 ^ 32 * fine

/-- TEMP_OFFSET: reference less reading, in 0.01 °C. -/
def offsetElements (s : State) (r : CalRun) (ref : Bytes) : List Int :=
  (offsetSensors r.target).map fun i => (s16 ref 0 - 10 * (sensorOf s i).raw.getD 0) * fine

/-- Every sensor of the target has given a reading since the pass began. -/
def offsetsRead (s : State) (r : CalRun) : Bool :=
  (offsetSensors r.target).all fun i => (sensorOf s i).raw.isSome && decide (r.passFrom ≤ (sensorOf s i).time)

/-- `n` free values: what the device's own images and signals show is not stated (log entry 63). -/
def drawList : Nat → State → List Int × State
  | 0, s => ([], s)
  | n + 1, s =>
    let a := drawInt 21 s
    let b := drawList n a.2
    (a.1 :: b.1, b.2)

/-! Patches (R272) -/

/-- The parts of the patch in use, in line order. -/
def patchParts (s : State) (r : CalRun) : List LaidPatch :=
  match r.patch with
  | none => []
  | some (page, l0) => s.cal.laid.filter fun k => k.type == r.type && k.target == r.target && k.page == page && k.l0 == l0

/-- The bar line of line d of a patch. -/
def patchLine (parts : List LaidPatch) (d : Int) : Option Int :=
  (parts.find? fun k => decide (k.from_ ≤ k.line + d) && decide (k.line + d < k.to_)).map fun k => k.line + d

/-- The last line of the patch is laid and has been imaged by every camera over its columns. -/
def patchSeen (s : State) (r : CalRun) : Bool :=
  let parts := patchParts s r
  match parts.head?, patchLine parts ((patchLines r.type : Nat) - 1) with
  | some k, some l =>
    let w := patchColumns s (mapNow s) k
    let cs := cameraList.filter fun c => camCovers s c w.1 w.2
    decide (l < s.mem.begunTo) && !cs.isEmpty && cs.all fun c => imagedTo s c l
  | _, _ => false

/-- A stripe of a DENSITY patch as R258 sees it. -/
def densityStripe (s : State) (k : LaidPatch) (parts : List LaidPatch) (v : Nat) : Stripe :=
  let w := patchColumns s (mapNow s) k
  { page := k.page, l0 := k.l0 + 288 * v, lo := (w.1 + pageShift s).toNat, hi := (w.2 + pageShift s).toNat
    spans := parts.map fun q => (((q.l0 : Int) + (q.from_ - q.line)).toNat, (q.to_ - q.from_).toNat, q.from_)
    shift := pageShift s }

/-- D and twice R of one segment of a stripe, with the nozzle that printed each column (R259, R272). -/
def densitySegment (s : State) (k : LaidPatch) (q : Stripe) (v g : Nat) : Tab (Nat × Nat) (Nat × Nat) :=
  let view := mapNow s
  let o := originIn s view k.target
  let cols := ((upTo (q.hi + 1 - q.lo)).map (q.lo + ·)).filter fun (p : Nat) => decide (((p : Int) - q.shift) % 6 = (g / 2 : Nat))
  let sums := cols.filterMap fun p => (stripeSum s q g p).map fun d => (p, d)
  sums.filterMap fun x =>
    let b : Int := (x.1 : Int) - q.shift
    let near := (sortKey (fun y : Nat × Nat => ((y.1 : Int) - x.1).natAbs) (sums.filter fun y => y.1 ≠ x.1)).take 32
    let line := (stripeLine q (q.l0 + 24 * g + g % 2)).getD 0
    let c := (b - o).toNat
    match selected s view b line, patchRow s view k k.target c line with
    | some (m, _), some row =>
      if m = k.target ∧ ¬near.isEmpty then some ((nozzleOf m row c, v + 1), (x.2, median2 (near.map (·.2)))) else none
    | _, _ => none

/-- The densities of a DENSITY patch: nozzle and code, D and twice R. -/
def densities (s : State) (r : CalRun) : Tab (Nat × Nat) (Nat × Nat) :=
  let parts := patchParts s r
  match parts.head? with
  | none => []
  | some k => (upTo 3).flatMap fun v => (upTo 12).flatMap fun g => densitySegment s k (densityStripe s k parts v) v g

/-- Density of an entry relative to its neighbours, in 2^-16 of 0.01 %. -/
def ratioFine (e : Nat × Nat) : Int := roundDiv ((20000 * e.1 * fine : Nat) : Int) ((e.2 : Nat) : Int)

/-- The ratios of the nozzles and codes that both passes measured. -/
def densityElements (r : CalRun) : List Int × List Int :=
  let both := r.dens1.filter fun e => r.dens2.any fun f => f.1 = e.1
  (both.map fun e => ratioFine e.2, both.map fun e => ratioFine (tget (0, 0) r.dens2 e.1))

/-! The density run's classes and tables (R273) -/

/-- One measured nozzle: D for codes 1 to 3 and R for codes 1 to 3, each summed over the two passes and doubled. -/
structure NozzleDensity where
  nozzle : Nat
  d : List Nat
  r : List Nat
  deriving Repr

/-- Nozzles measured at all three codes by both passes. -/
def nozzleDensities (r : CalRun) : List NozzleDensity :=
  let nozzles := ((r.dens1.map fun e => e.1.1).eraseDups).filter fun n =>
    [1, 2, 3].all fun v => (r.dens1.any fun e => e.1 = (n, v)) && r.dens2.any fun e => e.1 = (n, v)
  nozzles.map fun n =>
    let at_ (v : Nat) : Nat × Nat :=
      let a := tget (0, 0) r.dens1 (n, v)
      let b := tget (0, 0) r.dens2 (n, v)
      (2 * (a.1 + b.1), a.2 + b.2)
    { nozzle := n, d := [1, 2, 3].map fun v => (at_ v).1, r := [1, 2, 3].map fun v => (at_ v).2 }

/-- Code-3 ratio in 0.01 %. -/
def ratio3 (n : NozzleDensity) : Int := roundDiv ((10000 * n.d.getD 2 0 : Nat) : Int) ((n.r.getD 2 0 : Nat) : Int)

/-- The 20 monotonic tables for codes 1 to 3 in order of their entries. -/
def monotonic : List (List Nat) :=
  (upTo 4).flatMap fun a => (upTo 4).flatMap fun b => (upTo 4).filterMap fun c => if a ≤ b ∧ b ≤ c then some [a, b, c] else none

/-- Density error of a table over a class. -/
def tableError (l : List NozzleDensity) (t : List Nat) : Nat :=
  sumNat (l.map fun n => sumNat ((upTo 3).map fun v =>
    let code := t.getD v 0
    let d := if code = 0 then 0 else n.d.getD (code - 1) 0
    ((d : Int) - n.r.getD v 0).natAbs))

/-- The best table: the first of least error. -/
def bestTable (l : List NozzleDensity) : List Nat :=
  monotonic.foldl (fun a t => if tableError l t < tableError l a then t else a) [0, 0, 0]

/-- Class of a ratio among those outside the band: at most 7 of equal width. -/
def classOf (lo hi q : Int) : Nat :=
  if hi ≤ lo then 1 else 1 + min 6 ((q - lo) * 7 / (hi - lo)).toNat

/-- The new classes and tables of a module (R273). A nozzle that R259 judges OUT, and one not measured, keeps class 0. -/
def densityValue (s : State) (r : CalRun) : List Int :=
  let band : Int := 100 * u8 r.policy 1
  let all := (nozzleDensities r).filter fun n => decide (u8 (cfgGet s .compare) 12 * 100 ≤ ratio3 n)
  let off := all.filter fun n => !withinI (ratio3 n) (10000 - band) (10000 + band)
  let qs := off.map ratio3
  let lo := qs.foldl min (qs.headD 0)
  let hi := qs.foldl max (qs.headD 0)
  let classed := off.map fun n => (n.nozzle, classOf lo hi (ratio3 n), n)
  let kept := if r.spare then (moduleNozzles r.target).filter fun n => !(r.dens1.any fun e => e.1.1 = n) else []
  let old := correctionOf s 8 r.target
  let classes := (moduleNozzles r.target).map fun n =>
    if kept.contains n then old.getD (n - r.target * 4352) 0
    else match classed.find? fun c => c.1 = n with
      | some c => ((c.2.1 : Nat) : Int)
      | none => 0
  let table (k : Nat) : List Nat :=
    let l := (classed.filter fun c => c.2.1 = k).map fun c => c.2.2
    if l.isEmpty then [0, 1, 2, 3] else 0 :: bestTable l
  classes ++ (upTo 7).flatMap fun k => (table (k + 1)).map fun x => ((x : Nat) : Int)

/-! Evaluation (R265, R267) -/

/-- Mean of the two passes of element i, rounded to the unit. -/
def passMean (r : CalRun) (i : Nat) : Int := roundDiv (r.pass1.getD i 0 + r.pass2.getD i 0) (2 * fine)

/-- The change in c: the mean of δ / V over the two passes, in ps (R267). -/
def timingChange (s : State) (r : CalRun) (i row : Nat) : Int × Int :=
  let v1 := tget 0 r.vels1 row
  let v2 := tget 0 r.vels2 row
  ((r.pass1.getD i 0 * v2 + r.pass2.getD i 0 * v1) * 10 ^ 12 * 2 ^ 32 * lpi s, 2 * fine * nmInch * v1 * v2)

/-- The new correction, listed. -/
def newValue (s : State) (r : CalRun) : List Int :=
  match r.type with
  | 3 => r.value
  | 6 =>
    let rows := measuredRows s r
    let old := correctionOf s 6 r.target
    rowList.map fun q =>
      if rows.contains q then
        let c := timingChange s r (rows.idxOf q) q
        roundDiv (old.getD q 0 * c.2 + c.1) c.2
      else old.getD q 0
  | 7 =>
    let m := r.pass1.getD 0 0 + r.pass2.getD 0 0
    [(correctionOf s 7 r.target).getD 0 0 + roundDiv (m * 1200) (2 * fine * nmInch)]
  | 8 => densityValue s r
  | _ => (upTo r.pass1.length).map (passMean r)

/-- The range of R264. -/
def rangeOk (r : CalRun) (v : List Int) : Bool :=
  let ppm (n : Int) (x : Int) : Bool := withinI (x * 1000000) (-n * 2 ^ 32) (n * 2 ^ 32)
  match r.type with
  | 1 => v.all (ppm 2000)
  | 2 => withinI (v.getD 0 0) (-2048) 2048 && withinI (v.getD 1 0) (-5000) 5000
      && withinI (v.getD 2 0) (-4096 * 65536) (4096 * 65536)
  | 3 => (v.take 4352).all (fun x => withinI x 1 65535) && (v.drop 4352).all fun x => withinI x 0 255
  | 4 => v.all (ppm 5000)
  | 5 => v.all fun x => withinI x (-1000) 1000
  | 6 => v.all fun x => withinI x (-2000000) 2000000
  | 7 => v.all fun x => withinI x (-128) 127
  | 8 => (v.take 4352).all fun x => withinI x 0 7
  | 9 => withinI (v.getD 0 0) (-32) 32 && withinI (v.getD 1 0) (-64) 64
  | _ => v.all fun x => withinI x (-16384) 16384

/-- A column correction that would make the geometry invalid, with every pending change applied (R146, R153). -/
def geometryBad (s : State) (r : CalRun) (v : List Int) : Bool :=
  let last := s.grt.changes.foldl (fun a c => applyChange a c.change) (mapBase s)
  r.type == 7 && invalidIn s (applyChange last (correctionChange 7 r.target v)) % 8 != 0

/-- The two quality figures (R267). -/
def quality (s : State) (r : CalRun) : Nat × Nat :=
  let d := passDiffs r
  let at_ (i : Nat) : Nat := d.getD i 0
  match r.type with
  | 1 => (halfIn 1000000 (2 ^ 32 * fine) (rank95 d), 0)
  | 2 =>
    let across := [at_ 0 * 1000000, at_ 1 * 13056 * 16]
    (halfIn nmInch (19200 * fine * 1000000 * 1000) (rank95 across), halfIn nmInch (lpi s * 65536 * fine * 1000) (at_ 2))
  | 3 => (r.q1, 0)
  | 4 =>
    let travel := (r.posB - r.posA).natAbs * u32 (axisCfg s r.target) 16
    (halfIn travel (2 ^ 32 * fine * 1000) (rank95 d), 0)
  | 9 => (r.q1, r.q2)
  | 10 => (halfIn (encRatio s r.target * nmInch) (65536 * fine * 2 ^ 32 * lpi s) (rank95 d), 0)
  | _ => (halfIn 1 fine (rank95 d), 0)

/-- The passes agree (R265). -/
def passesAgree (s : State) (r : CalRun) (q1 : Nat) : Bool :=
  if r.type = 3 ∨ r.type = 8 then decide (2 * q1 ≤ tolerance r)
  else
    let d := passDiffs r
    (upTo d.length).all fun i => elementAgrees s r i (d.getD i 0)

/-- The temperature of R268 for a type and target, with THM's substitutions. -/
def calTemp (s : State) (type target : Nat) : Option Int :=
  match type with
  | 6 | 8 => (moduleTemp s target).map (·.1)
  | 7 => (hottest s [16 + 2 * target, 17 + 2 * target, 18 + 2 * target, 19 + 2 * target]).map (·.1)
  | 9 => (hottest s (upTo 16)).map (·.1)
  | _ => none

end Sys2Proof.Machine
end

