-- ==== Sys2Proof/Machine/Calibrate.lean ====
section
/-! DEFINITION. CAL (13), the sequencing of runs: passes, acceptance and application, triggers, and CAL's commands. -/
namespace Sys2Proof.Machine

/-! Application (R269) -/

/-- A correction takes effect now; `line` is its bar line B, 0 if it applies at once. -/
def applyRun (line : Int) (r : CalRun) (s : State) : State :=
  let shown := if line = 0 then presentSlot s else line
  calApplied r.id line shown (putCorrection r.type r.target r.value s)

/-- ACCEPTED runs that satisfy a condition. -/
def acceptedRuns (s : State) (sel : CalRun → Bool) : List CalRun := s.cal.runs.filter fun r => r.state == 5 && sel r

/-- First lines of pages in a plan, from a bar line on, and the line behind them. -/
def planStarts (s : State) (a : List Int × Int) : PlanItem → List Int × Int
  | .gap _ p => (a.1, a.2 + (p : Int))
  | .page id => match findPage s id with
    | some p => (a.1 ++ [a.2], (rowLines a.2 p p.nextRow).2)
    | none => a

/-- First bar lines of the pages decided to start and not begun. -/
def pageStarts (s : State) : List Int :=
  let placed := (s.mem.pitches.reverse.filter fun q => !q.begun).filterMap fun q => match q.kind with
    | .row _ r => if r = 0 then some q.first else none
    | _ => none
  let cur := match s.mem.placing.bind (findPage s) with
    | some p => (if s.mem.placeRow = 0 then [s.mem.next] else [], (rowLines s.mem.next p s.mem.placeRow).2)
    | none => ([], s.mem.next)
  placed ++ (s.mem.plan.foldl (planStarts s) cur).1

/-- The bar line from which an encoder correction applies: S of R269, or B of R153. -/
def encoderLine (s : State) (r : CalRun) : Option Int :=
  if r.type = 1 then (pageStarts s).find? fun l => decide (r.since + 128 ≤ l - maxSkew s) else changeLine s r.since

/-- Encoder corrections that wait for a decided line take it. -/
def fixBoundaries (s : State) : State :=
  each (acceptedRuns s fun r => (r.type == 1 || r.type == 10) && r.boundary.isNone)
    (fun r s => setRun { r with boundary := encoderLine s r } s) s

/-- Slot n's boundary: encoder corrections whose slot has come apply. -/
def calBoundary (n : Int) (s : State) : State :=
  each (acceptedRuns (fixBoundaries s) fun r => match r.boundary with
    | some b => decide (b - maxSkew s ≤ n)
    | none => false) (fun r => applyRun (r.boundary.getD 0) r) (fixBoundaries s)

/-- What still waits applies: DRAIN completes, or SAFE is entered (R269). The lane sampler keeps to its IDLE block. -/
def calRelease (s : State) : State :=
  each (acceptedRuns s fun r => r.type == 1 || r.type == 10 || r.type == 2 || r.type == 3) (applyRun 0) s

/-- A run is ACCEPTED: EV_CAL_RUN_DONE, and its correction goes to its boundary (R265, R269, R271). -/
def acceptRun (r : CalRun) (s : State) : State :=
  let r := { r with state := 5, since := presentSlot s, boundary := none }
  let s := raise 0x1C01 0x0C (runDetail r 0) (setRun r s)
  let moving := s.hub.mode = .print ∨ s.hub.mode = .drain
  match r.type with
  | 2 | 3 => s
  | 4 | 5 => applyRun 0 r s
  | 9 => setLane r.target { laneOf s r.target with nextSampler := some (r.value.getD 0 0, r.value.getD 1 0) } s
  | 1 | 10 => if moving then fixBoundaries s else applyRun 0 r s
  | t =>
    let s := if r.spare then makeChange (.spareSet r.target) 2 0 s else s
    makeChange (correctionChange t r.target r.value) 2 r.id s

/-! Passes (R265, R266) -/

/-- EV_CAL_REFERENCE_WANTED. -/
def wantReference (r : CalRun) (s : State) : State :=
  raise 0x1C03 0x0C (leBytes 2 r.id ++ leBytes 1 r.type ++ leBytes 1 r.target ++ leBytes 1 (r.state - 1)) s

/-- A pass begins, from its beginning. -/
def passBegin (pass : Nat) (r : CalRun) (s : State) : State :=
  let r := { r with
    state := 1 + pass, passFrom := s.now, since := s.mem.begunTo, ref := none, seen := false, reading := [], snaps := [],
    counts := 0, vels := [], step := 0, stepAt := s.now, sumA := 0, numA := 0, sumB := 0, numB := 0, patch := none }
  let s := setRun r s
  if r.type = 1 ∨ r.type = 5 then wantReference r s else s

/-- PASS1 begins: the policy is taken, and a spare channel takes over where there is one (R271). -/
def runStart (r : CalRun) (s : State) : State :=
  let policy := cfgGet s .calPolicy
  let want := bit (u8 policy 0) (if classX r.type then 0 else 1)
  let spare := want && spareAvailable s r
  let r := { r with started := s.now, policy := policy, spare := spare, hold := r.type != 9 && !spare }
  let s := passBegin 1 r s
  if spare ∧ (r.type = 1 ∨ r.type = 10) then
    switchTo (1 - r.target) 0xFE (nextLine s) { s with cal := { s.cal with spareHome := some (r.id, r.target) } }
  else s

/-- The measured encoder becomes active again once its SPARE run is final (R271). -/
def spareSettle (s : State) : State :=
  match s.cal.spareHome with
  | none => s
  | some (id, x) =>
    if s.cal.runs.any (fun r => r.id = id ∧ r.state ≤ 5) then s
    else
      let s := { s with cal := { s.cal with spareHome := none } }
      if decide (activeEnc s ≠ x) && encHealthy s x && regReady s x then switchTo x 0xFE (nextLine s) s else s

/-- A photometry run's tables: free values in the channel it measures (log entry 63). -/
def photometry (r : CalRun) (s : State) : CalRun × State :=
  let a := drawList (4352 + 256) s
  let q := drawNat 22 a.2
  let old := (correctionOf s 3 r.target).drop 4352
  let xfer := (upTo 1280).map fun i => if i / 256 = r.ink then a.1.getD (4352 + i % 256) 0 else old.getD i 0
  ({ r with value := a.1.take 4352 ++ xfer, q1 := q.1 }, q.2)

/-- Pass 2 has ended: the run is ACCEPTED or REJECTED (R265). -/
def evaluateRun (r : CalRun) (s : State) : State :=
  let r := { r with state := 4, temp := (calTemp s r.type r.target).getD 0 }
  let p := if r.type = 3 then photometry r s else (r, s)
  let s := p.2
  let r := p.1
  let d := if r.type = 8 then densityElements r else (r.pass1, r.pass2)
  let r := { r with pass1 := d.1, pass2 := d.2 }
  let q := quality s r
  let v := newValue s r
  let r := { r with q1 := q.1, q2 := q.2 }
  let s := setRun r s
  if !passesAgree s r q.1 then failRun 7 1 r s
  else if !rangeOk r v then failRun 7 2 r s
  else if geometryBad s r v then failRun 7 3 r s
  else acceptRun { r with value := v } s

/-- A pass ends with its elements. -/
def passDone (elements : List Int) (dens : Tab (Nat × Nat) (Nat × Nat)) (r : CalRun) (s : State) : State :=
  if r.state = 2 then passBegin 2 { r with pass1 := elements, dens1 := dens, vels1 := r.vels } s
  else evaluateRun { r with pass2 := elements, dens2 := dens, vels2 := r.vels } s

/-- EV_CAL_PATCH: the patch is used (0) or does not hold its pattern (1), and is removed. -/
def patchGone (status : Nat) (r : CalRun) (page l0 : Nat) (s : State) : State :=
  let s := { s with cal := { s.cal with
    patches := s.cal.patches.filter fun k => !(k.page = page ∧ k.l0 = l0 ∧ k.type = r.type ∧ k.target = r.target) } }
  raise 0x2C03 0x0C (leBytes 4 page ++ leBytes 2 l0 ++ leBytes 1 status ++ leBytes 1 r.type ++ leBytes 1 r.target) s

/-- The first patch for a run whose first line has begun since the pass started (R272). -/
def patchFor (s : State) (r : CalRun) : Option LaidPatch :=
  let l := s.cal.laid.filter fun k => k.type == r.type && k.target == r.target && decide (k.from_ = k.line)
    && decide (r.since ≤ k.line) && decide (k.line < s.mem.begunTo)
    && s.cal.patches.any fun q => q.page = k.page ∧ q.l0 = k.l0 ∧ q.type = k.type ∧ q.target = k.target
  l.foldl (fun a k => match a with
    | some b => if k.line < b.line then some k else some b
    | none => some k) none

/-- The elements that a patch gives: free where the manual does not state how images give them (log entry 63). -/
def patchElements (r : CalRun) (s : State) : List Int × State :=
  match r.type with
  | 6 => drawList (measuredRows s r).length s
  | 7 => drawList 1 s
  | _ => ([], s)

/-- Progress of a print-based pass. -/
def patchProgress (r : CalRun) (s : State) : State :=
  let r := if r.patch.isSome then r else { r with patch := (patchFor s r).map fun k => (k.page, k.l0) }
  let s := setRun r s
  match r.patch with
  | none => s
  | some (page, l0) =>
    if (patchParts s r).any (·.bad) then patchGone 1 r page l0 (setRun { r with patch := none } s)
    else if !patchSeen s r then s
    else if r.type = 3 then
      if r.seen then s
      else
        let r := { r with seen := true }
        wantReference r (patchGone 0 r page l0 (setRun r s))
    else
      let dens := if r.type = 8 then densities s r else []
      let e := patchElements r (patchGone 0 r page l0 s)
      passDone e.1 dens r e.2

/-- AXIS_SCALE: the axis, at rest, sets out for a position (R308). -/
def scaleMove (r : CalRun) (target : Int) (s : State) : State :=
  let k := axisOf s r.target
  let k := { k with owner := some r.id, goal := 0, target := target, vlim := u32 (axisCfg s r.target) 24, owed := false,
                    endStatus := 0, limitStop := none }
  axisEnter r.target 2 (setAxis r.target k (setRun { r with step := r.step + 1 } s))

/-- AXIS_SCALE: moves begin from rest and end at rest. -/
def scaleProgress (r : CalRun) (s : State) : State :=
  if (axisOf s r.target).state ≠ 1 then s
  else if r.step = 0 then scaleMove r r.posA s
  else if r.step = 3 then scaleMove r r.posB s
  else if r.step = 1 ∨ r.step = 4 then setRun { r with step := r.step + 1, stepAt := s.now } s
  else s

/-- What the run in a pass can do now. -/
def runProgress (r : CalRun) (s : State) : State :=
  match r.type, r.ref with
  | 1, some b => passDone [scaleElement s r b] [] r s
  | 2, some b => passDone (geometryElements s r b) [] r s
  | 3, some _ => passDone [] [] r s
  | 4, some b => passDone [axisElement s r b] [] r s
  | 4, none => scaleProgress r s
  | 5, some b => if offsetsRead s r then passDone (offsetElements s r b) [] r s else s
  | 9, _ =>
    let v := laneOf s r.target
    if laneReceives s r.target && v.scan.isNone then setLane r.target { v with scan := some (8, r.id) } s else s
  | t, _ => if printBased t then patchProgress r s else s

/-- Runs make progress in CALIBRATE, PRINT and DRAIN (R264). -/
def calRuns (s : State) : Bool :=
  match s.hub.mode with
  | .calibrate | .print | .drain => true
  | _ => false

def progressOnce (s : State) : State :=
  match s.cal.runs.find? inPass with
  | some r => if calRuns s then runProgress r s else s
  | none => s

/-- No run is active, and the first run that the mode admits starts (R265, R266). -/
def startNext (s : State) : State :=
  if calActive s then s
  else match s.cal.runs.find? fun r => decide (r.state ≤ 1) && modeAdmits s r.type with
    | some r => runStart r s
    | none => s

/-- CAL goes as far as it can. -/
def calStep (s : State) : State := progressOnce (startNext (spareSettle (fixBoundaries (progressOnce s))))

/-- A print-path step after which CAL goes on. -/
def atCal (t : Time) (f : State → State) (s : State) : Host.Outcome State Fault Refusal :=
  atPrint t (fun s => calStep (f s)) s

/-! Modes (R264, R266) -/

/-- A run is held, its pass discarded. -/
def holdRun (r : CalRun) (s : State) : State :=
  freeTarget r (setRun { r with state := 1, pass1 := [], pass2 := [], patch := none, ref := none } s)

/-- What a mode entered does to the runs. -/
def calEnter (new : Mode) (s : State) : State :=
  match new with
  | .armed => spareSettle (each (s.cal.runs.filter fun r => decide (r.state ≤ 4)) holdRun s)
  | .standby => spareSettle (abortRuns 6 (fun _ => true) s)
  | .safe => spareSettle (calRelease (abortRuns 7 (fun _ => true) s))
  | _ => calStep s

/-! The rows whose happenings CAL follows -/

/-- FRAME_START: a camera correction accepted takes effect with the strip (R260, R269). -/
def calFrameStart (c channel : Nat) (s : State) : State :=
  let k := camOf s c
  let s := if channel = 0 ∧ (k.state = 1 ∨ k.state = 2) then
      each (acceptedRuns s fun r => (r.type == 2 || r.type == 3) && r.target == c) (applyRun 0) s
    else s
  frameStart c channel s

def execFrameStart (t : Time) (c channel : Fin 4) (s : State) : Host.Outcome State Fault Refusal :=
  atTime t (calFrameStart c.val channel.val) s

/-- A geometry pass sees its target in a strip, or not: what the image shows is free (log entry 63). -/
def targetSeen (c : Nat) (s : State) : State :=
  match s.cal.runs.find? fun r => inPass r && r.type == 2 && r.target == c && !r.seen with
  | none => s
  | some r =>
    let b := drawBool 23 s
    if b.1 then
      let l := drawList 3 b.2
      let r := { r with seen := true, reading := l.1 }
      wantReference r (setRun r l.2)
    else b.2

/-- FRAME_END (R244): a packet on another virtual channel is ignored and counted. -/
def calFrameEnd (c channel : Nat) (s : State) : State :=
  if !camRun s c then s
  else if channel ≠ 0 then lineErrEvent c 3 s
  else if camRunning s c then targetSeen c (frameEnd c s)
  else s

def execFrameEnd (t : Time) (c channel : Fin 4) (s : State) : Host.Outcome State Fault Refusal :=
  atCal t (calFrameEnd c.val channel.val) s

/-- The velocity at which a FIRE_TIMING patch's rows fire in a slot (R267). -/
def noteVelocity (f : FixedSlot) (s : State) : State :=
  match s.cal.runs.find? fun r => inPass r && r.type == 6 && r.patch.isSome, f.modules with
  | some r, ms =>
    match ms.find? fun x => x.module_ = r.target with
    | none => s
    | some x =>
      let parts := patchParts s r
      let fires (q : Nat) : Bool := parts.any fun k =>
        let l := f.n + upstream s r.target q
        decide (k.from_ ≤ l) && decide (l < k.to_) && decide ((l - k.line).toNat / 24 = q)
      let rows := rowList.filter fun q => fires q && !(r.vels.any fun e => e.1 = q)
      setRun { r with vels := r.vels ++ rows.map fun q => (q, webVel s (x.rows.getD q s.now)) } s
  | none, _ => s

/-- SLOT_FIRED, with the patch velocities. -/
def execSlotFired (t : Time) (n : Int) (s : State) : Host.Outcome State Fault Refusal :=
  atCal t (fun s => slotFired n (match findSlot s n with
    | some f => noteVelocity f s
    | none => s)) s

/-- SETPOINT_FRAME: the frames of R294, and the feedback that an AXIS_SCALE pass averages (R308). -/
def noteFeedback (s : State) : State :=
  match s.cal.runs.find? fun r => inPass r && r.type == 4 with
  | none => s
  | some r =>
    if (r.step = 2 ∨ r.step = 5) ∧ r.stepAt + 100 * tpMs ≤ s.now ∧ s.now < r.stepAt + 110 * tpMs then
      let p := feedbackAt s r.target s.now
      setRun (if r.step = 2 then { r with sumA := r.sumA + p, numA := r.numA + 1 }
        else { r with sumB := r.sumB + p, numB := r.numB + 1 }) s
    else s

def execSetpointFrame (t : Time) (s : State) : Host.Outcome State Fault Refusal :=
  atCal t (fun s => if frameInstant s.now then noteFeedback (setpointFrame s) else s) s

/-- AXIS_SCALE_SETTLE: the wait and the average of a position have elapsed (R308). With no frame in the interval the
position at its end stands for the average. -/
def scaleSettle (a : Nat) (s : State) : State :=
  match s.cal.runs.find? fun r => inPass r && r.type == 4 && r.target == a with
  | none => s
  | some r =>
    if (r.step = 2 ∨ r.step = 5) ∧ r.stepAt + 110 * tpMs ≤ s.now then
      let p := feedbackAt s a s.now
      let r := if r.step = 2 ∧ r.numA = 0 then { r with sumA := p, numA := 1 }
        else if r.step = 5 ∧ r.numB = 0 then { r with sumB := p, numB := 1 } else r
      let r := { r with step := r.step + 1, seen := decide (r.step = 5) }
      let s := setRun r s
      if r.seen then wantReference r s else s
    else s

def execAxisScaleSettle (t : Time) (a : Fin 2) (s : State) : Host.Outcome State Fault Refusal :=
  atCal t (scaleSettle a.val) s

/-- EYE_SCAN_DONE: the result of HLK_EYE_SCAN, or a pass of LANE_SAMPLER (R211, R266). -/
def eyeScanDone (n left right upper lower : Nat) (s : State) : State :=
  let v := laneOf s n
  match v.scan with
  | none => s
  | some (_, 0) => eyeDone n left right upper lower s
  | some (_, run) =>
    let s := setLane n { v with scan := none } s
    match s.cal.runs.find? fun r => r.id = run ∧ inPass r = true with
    | none => s
    | some r =>
      let phase := roundDiv ((2 * v.phase + ((right : Int) - left)) * fine) 2
      let volt := roundDiv ((10 * v.volt + ((upper : Int) - lower)) * fine) 10
      passDone [phase, volt] [] { r with q1 := left + right, q2 := upper + lower } s

def execEyeScanDone (t : Time) (lane : Fin 48) (left right upper lower : Nat) (s : State) : Host.Outcome State Fault Refusal :=
  atCal t (eyeScanDone lane.val left right upper lower) s

/-- One count of an ENCODER_INTERP pass: a pass whose velocity leaves ±1 % or whose web reverses starts again. What the
four states show is free (log entry 63). -/
def calCount (x : Nat) (s : State) : State :=
  match s.cal.runs.find? fun r => inPass r && r.type == 10 && r.target == x with
  | none => s
  | some r =>
    let e := encOf s x
    let steady := !e.reverse && decide ((e.vel - r.velocity).natAbs * 100 ≤ r.velocity.natAbs)
    if !calRuns s then s
    else if e.reverse then setRun { r with counts := 0 } s
    else if r.counts = 0 ∨ !steady then setRun { r with counts := 1, velocity := e.vel } s
    else if r.counts + 1 < 65536 then setRun { r with counts := r.counts + 1 } s
    else
      let l := drawList 4 s
      passDone l.1 [] { r with counts := 65536 } l.2

/-- A snapshot while a WEB_SCALE pass waits (13, CAL_REFERENCE). -/
def calSnapshot (t : Time) (s : State) : State :=
  each (s.cal.runs.filter fun r => inPass r && r.type == 1 && r.ref.isNone)
    (fun r s => setRun { r with snaps := r.snaps ++ [(t, (encOf s r.target).count)] } s) s

/-- Sensor readings may end a TEMP_OFFSET pass. -/
def execDieSensorReading (t : Time) (readings : List Int) (s : State) : Host.Outcome State Fault Refusal :=
  atCal t (dieSensorReading readings) s

def execStatusReceived (t : Time) (lane : Fin 48) (st : HeadStatus) (s : State) : Host.Outcome State Fault Refusal :=
  atCal t (statusReceived lane.val st) s

/-- A correction goes to its default at once, or from its bar line. -/
def defaultCorrection (type target : Nat) (s : State) : State :=
  let v := correctionDefault type target
  if type = 6 ∨ type = 7 ∨ type = 8 then makeChange (correctionChange type target v) 2 0 s else putCorrection type target v s

/-- A journal record of a correction as it stands. -/
def journalCorrection (type target : Nat) (v : List Int) (s : State) : State :=
  { s with mss := { s.mss with journal := s.mss.journal ++ [.correction type target v] } }

/-- The type and target are measured no more. -/
def forgetCorrection (s : State) (e : Nat × Nat) : State :=
  let s := journalCorrection e.1 e.2 [] (defaultCorrection e.1 e.2 s)
  { s with cal := { s.cal with temps := terase s.cal.temps e } }

/-- IDENT reports a serial other than the one a module's corrections were measured with (R270). -/
def serialCheck (m : Nat) (s : State) : State :=
  match s.cal.serials.find? fun e => e.1 = m with
  | none => s
  | some (_, old) =>
    if (moduleOf s m).ident.isNone ∨ identSerial s m = old then s
    else
      let joins := (if 0 < m then [m - 1] else []) ++ (if m < 23 then [m] else [])
      let s := ([(6, m), (8, m)] ++ joins.map fun j => (7, j)).foldl forgetCorrection s
      { s with cal := { s.cal with serials := terase s.cal.serials m } }

def execIdentReceived (t : Time) (lane : Fin 48) (id : Ident) (s : State) : Host.Outcome State Fault Refusal :=
  atCal t (fun s => serialCheck (lane.val / 2) (identReceived lane.val id s)) s

/-- NEXT_IDLE_BLOCK. -/
def execNextIdleBlock (t : Time) (lane : Fin 48) (s : State) : Host.Outcome State Fault Refusal :=
  atCal t (nextIdleBlock lane.val) s

/-! Triggers and the timeout (R266, R268) -/

/-- Targets of a type on this unit. -/
def calTargets (s : State) (type : Nat) : List Nat :=
  match type with
  | 1 | 4 | 10 => [0, 1]
  | 2 | 3 => [0, 1, 2, 3]
  | 5 => presentModules s ++ [0xFE]
  | 7 => upTo (moduleCount s - 1)
  | 9 => upTo (2 * moduleCount s)
  | _ => presentModules s

/-- Runs of the table that are not final. -/
def openRuns (s : State) : List CalRun := s.cal.runs.filter fun r => !runFinal r

def hasOpenRun (s : State) (type target : Nat) : Bool := (openRuns s).any fun r => r.type == type && r.target == target

/-- The oldest final run leaves the table. -/
def evictRun (s : State) : State :=
  let finals := s.cal.runs.filter runFinal
  match finals.foldl (fun a r => match a with
      | some b => if r.final < b.final then some r else some b
      | none => some r) (none : Option CalRun) with
  | some r => { s with cal := { s.cal with runs := s.cal.runs.filter fun x => x.id ≠ r.id } }
  | none => s

/-- A run enters the table QUEUED. -/
def queueRun (r : CalRun) (s : State) : State :=
  let s := if s.cal.runs.length < 64 then s else evictRun s
  let n := s.cal.nextId
  { s with cal := { s.cal with runs := s.cal.runs ++ [{ r with id := n }], nextId := if n = 65535 then 1 else n + 1 } }

/-- The trigger of a type, in 0.1 °C. -/
def triggerOf (s : State) (type : Nat) : Nat :=
  let p := cfgGet s .calPolicy
  match type with
  | 6 => u8 p 24
  | 7 => u8 p 25
  | 8 => u8 p 26
  | _ => u8 p 27

/-- A type and target are due: how far the temperature moved. -/
def dueMoved (s : State) (type target : Nat) : Option Int :=
  let trigger : Int := triggerOf s type
  match calTemp s type target with
  | none => none
  | some now =>
    if trigger = 0 then none
    else match s.cal.temps.find? fun e => e.1 = (type, target) with
      | none => some 0
      | some (_, was) => if trigger < (now - was).natAbs then some (now - was) else none

/-- One type and target at a trigger check. -/
def triggerOne (s : State) (e : Nat × Nat) : State :=
  match dueMoved s e.1 e.2 with
  | none => { s with cal := { s.cal with due := s.cal.due.filter fun d => d ≠ e } }
  | some moved =>
    let fresh := !s.cal.due.contains e
    let s := if fresh then { s with cal := { s.cal with due := s.cal.due ++ [e] } } else s
    let s := if fresh && !hasOpenRun s e.1 e.2 then
        raise 0x2C01 0x0C (leBytes 1 e.1 ++ leBytes 1 e.2 ++ seBytes 2 moved) s
      else s
    if hasOpenRun s e.1 e.2 || decide (64 ≤ (openRuns s).length) then s
    else queueRun { id := 0, type := e.1, target := e.2 } s

/-- CAL_TRIGGER_CHECK: every 100 ms, in CALIBRATE, ARMED and PRINT, with auto trigger set. -/
def triggerCheck (s : State) : State :=
  let on := bit (u8 (cfgGet s .calPolicy) 0) 2
  if on ∧ (s.hub.mode = .calibrate ∨ s.hub.mode = .armed ∨ s.hub.mode = .print) then
    ([6, 7, 8, 9].flatMap fun t => (calTargets s t).map fun x => (t, x)).foldl triggerOne s
  else s

/-- In ARMED a run that is queued waits in HELD (R266). -/
def holdQueued (s : State) : State :=
  if s.hub.mode = .armed then each (s.cal.runs.filter fun r => r.state == 0) (fun r => setRun { r with state := 1 }) s else s

def execCalTriggerCheck (t : Time) (s : State) : Host.Outcome State Fault Refusal :=
  atCal t (fun s => holdQueued (triggerCheck s)) s

/-- CAL_RUN_TIMEOUT: run_timeout has elapsed since an active run's pass 1 began. -/
def runTimeout (s : State) : State :=
  each (s.cal.runs.filter fun r => decide (2 ≤ r.state) && decide (r.state ≤ 4) && decide (r.started + u16 r.policy 2 * tpS ≤ s.now))
    (failRun 8 4) s

def execCalRunTimeout (t : Time) (s : State) : Host.Outcome State Fault Refusal := atCal t runTimeout s

/-! Commands -/

/-- CAL_POLICY_SET (0x0A01) (R271, R275). -/
def calPolicySetSpec : CmdSpec where
  opcode := 0x0A01
  modes := setupModes
  len := (· == 32)
  value := fun p _ =>
    bits (u8 p 0) 7 3 == 0 && within (u8 p 1) 1 20 && within (u16 p 2) 10 3600
      && (upTo 10).all (fun i => within (u16 p (4 + 2 * i)) 1 65535) && zeroAt p 28 4
  apply := fun c _ s => done (cfgSet .calPolicy (slice c.params 0 32) s)

/-- The targets a CAL_RUN or CAL_CLEAR names. -/
def namedTargets (s : State) (type target : Nat) : List Nat := if target = 0xFF then calTargets s type else [target]

/-- A target's channel is ready for CAL_RUN. -/
def channelReady (s : State) (type target : Nat) : Bool :=
  match type with
  | 2 | 3 => camRun s target
  | 9 => laneReceives s target
  | 4 => (axisOf s target).referenced && decide ((axisOf s target).state = 1)
  | _ => true

/-- The features a run needs. -/
def runFeatures (p : Bytes) (s : State) : Bool :=
  let type := u8 p 0
  let target := u8 p 1
  let second := (type == 1 || type == 10) && (target == 1 || target == 0xFF)
  (!printBased type || inspection s)
    && (type != 9 || !(decide (s.hub.mode = .armed) || decide (s.hub.mode = .print)) || hasFeature s 15)
    && (!second || hasFeature s 10) && (type != 4 || hasFeature s 11) && (u8 p 2 != 4 || hasFeature s 12)

/-- Positions a and b of AXIS_SCALE. -/
def positionsOk (p : Bytes) (s : State) (a : Nat) : Bool :=
  let c := axisCfg s a
  s32 p 4 != s32 p 8 && withinI (s32 p 4) (softNeg c) (softPos c) && withinI (s32 p 8) (softNeg c) (softPos c)

/-- The type runs in the present mode, ARMED standing for PRINT (R264). -/
def modeTakes (s : State) (type : Nat) : Bool := decide (s.hub.mode = .calibrate) || type == 1 || decide (6 ≤ type)

/-- CAL_RUN (0x0A02). -/
def calRunSpec : CmdSpec where
  opcode := 0x0A02
  modes := oneOf [.calibrate, .armed, .print]
  len := (· == 16)
  feature := runFeatures
  value := fun p s =>
    let type := u8 p 0
    within type 1 10 && (u8 p 1 == 0xFF || (calTargets s type).contains (u8 p 1))
      && (if type = 3 then within (u8 p 2) 0 4 else u8 p 2 == 0) && u8 p 3 == 0 && zeroAt p 12 4
      && (if type = 4 then (namedTargets s type (u8 p 1)).all (positionsOk p s) else zeroAt p 4 8)
  check := fun p s =>
    let type := u8 p 0
    let l := namedTargets s type (u8 p 1)
    firstOf [refuseIf (!modeTakes s type || !l.all (channelReady s type)) eBadMode,
      refuseIf (decide (64 < (openRuns s).length + l.length)) eNoResource]
  apply := fun c _ s =>
    let p := c.params
    let l := namedTargets s (u8 p 0) (u8 p 1)
    let first := s.cal.nextId
    let s := each l (fun x => queueRun { id := 0, type := u8 p 0, target := x, ink := u8 p 2, posA := s32 p 4, posB := s32 p 8 }) s
    ((ePending, leBytes 2 first ++ leBytes 2 l.length), calStep (holdQueued s))

/-- Bytes that a type's reading takes (CAL_REFERENCE). -/
def readingBytes (type : Nat) : Nat := [0, 32, 12, 32, 8, 2].getD type 0

/-- The device is ready for the reference: it has seen the target, or averaged at b. -/
def referenceReady (r : CalRun) : Bool := r.seen || r.type == 1 || r.type == 5

/-- What a WEB_SCALE reading must say: two recorded instants, the end later than the start. -/
def scaleReading (p : Bytes) (r : CalRun) : Bool :=
  let known (t : Time) : Bool := r.snaps.any fun e => e.1 = t
  timeOk p 4 && timeOk p 16 && known (timeAt p 4) && known (timeAt p 16) && decide (timeAt p 4 < timeAt p 16)

/-- CAL_REFERENCE (0x0A03). -/
def calReferenceSpec : CmdSpec where
  opcode := 0x0A03
  modes := ledgerModes
  len := (· == 40)
  value := fun p s => match findRun s (u16 p 0) with
    | none => false
    | some r =>
      within (u8 p 2) 1 2 && u8 p 3 == 0 && inPass r && wantsReference r.type && r.ref.isNone && u8 p 2 + 1 == r.state
        && referenceReady r && zeroAt p (4 + readingBytes r.type) (36 - readingBytes r.type)
        && (r.type != 1 || scaleReading p r)
  apply := fun c _ s => match findRun s (u16 c.params 0) with
    | none => done s
    | some r => done (calStep (setRun { r with ref := some (slice c.params 4 36) } s))

/-- CAL_PATCH_ADD (0x0A04) (R272). -/
def calPatchAddSpec : CmdSpec where
  opcode := 0x0A04
  modes := ledgerModes
  len := (· == 12)
  value := fun p s =>
    let type := u8 p 6
    zeroAt p 8 4 && printBased type && (calTargets s type).contains (u8 p 7) && (match findPage s (u32 p 0) with
      | some g => (g.state = .loading || g.state = .resident) && g.nextRow == 0
          && decide (u16 p 4 + patchLines type ≤ pageRows g * pagePitch g)
      | none => false)
  check := fun _ s => refuseIf (decide (64 ≤ s.cal.patches.length)) eNoResource
  apply := fun c _ s =>
    let p := c.params
    done { s with cal := { s.cal with
      patches := s.cal.patches ++ [{ page := u32 p 0, l0 := u16 p 4, type := u8 p 6, target := u8 p 7 }] } }

/-- The runs that a CAL_ABORT names. -/
def abortNames (p : Bytes) (r : CalRun) : Bool := decide (r.state ≤ 4) && (u16 p 0 == 0xFFFF || r.id == u16 p 0)

/-- CAL_ABORT (0x0A05). -/
def calAbortSpec : CmdSpec where
  opcode := 0x0A05
  modes := ledgerModes
  len := (· == 4)
  value := fun p s => zeroAt p 2 2 && (u16 p 0 == 0xFFFF || s.cal.runs.any (abortNames p))
  apply := fun c _ s => done (calStep (abortRuns 5 (abortNames c.params) s))

/-- The scalar of CAL_RESULT_READ: types 1, 4 and 9. -/
def scalarBytes (s : State) (type target : Nat) : Bytes :=
  match type with
  | 1 | 4 => seBytes 4 ((correctionOf s type target).getD 0 0)
  | 9 => seBytes 2 (laneOf s target).phase ++ seBytes 2 (laneOf s target).volt
  | _ => zeros 4

/-- The 48 bytes of CAL_RESULT_READ. -/
def calResult (s : State) (type target : Nat) : Bytes :=
  match (s.cal.runs.filter fun r => r.type = type ∧ r.target = target).getLast? with
  | none => zeros 48
  | some r =>
    let last := tget (0, 0) s.cal.last (type, target)
    leBytes 2 r.id ++ leBytes 1 r.state ++ leBytes 1 r.reason ++ leBytes 1 type ++ leBytes 1 target
      ++ leBytes 1 (b2n r.hold + 2 * b2n r.spare) ++ [0] ++ leBytes 4 r.q1 ++ leBytes 4 r.q2
      ++ seBytes 2 (tget 0 s.cal.temps (type, target)) ++ zeros 2 ++ scalarBytes s type target ++ timeBytes last.1
      ++ seBytes 8 last.2 ++ zeros 4

/-- CAL_RESULT_READ (0x0A06) (R267). -/
def calResultReadSpec : CmdSpec where
  opcode := 0x0A06
  modes := anyMode
  isRead := true
  len := (· == 4)
  value := fun p s => within (u8 p 0) 1 10 && (calTargets s (u8 p 0)).contains (u8 p 1) && zeroAt p 2 2
  apply := fun c _ s => withResult (calResult s (u8 c.params 0) (u8 c.params 1)) s

/-- One target's correction to its default, kept in NVM with the temperature of its last run. -/
def clearTarget (type target : Nat) (s : State) : State :=
  let s := defaultCorrection type target s
  let ser (i : Nat) : Int := ((tget 0 s.cal.serials (target + i) : BitVec 32).toNat : Int)
  match s.cal.temps.find? fun e => e.1 = (type, target) with
  | some (_, temp) => journalCorrection type target (temp :: ser 0 :: ser 1 :: correctionDefault type target) s
  | none => journalCorrection type target [] s

/-- CAL_CLEAR (0x0A07) (R270). -/
def calClearSpec : CmdSpec where
  opcode := 0x0A07
  modes := setupModes
  len := (· == 4)
  value := fun p s =>
    within (u8 p 0) 1 10 && (u8 p 1 == 0xFF || (calTargets s (u8 p 0)).contains (u8 p 1)) && zeroAt p 2 2
  check := fun p s =>
    refuseIf ((namedTargets s (u8 p 0) (u8 p 1)).any (hasOpenRun s (u8 p 0))) eBadMode
  apply := fun c _ s => done (each (namedTargets s (u8 c.params 0) (u8 c.params 1)) (clearTarget (u8 c.params 0)) s)

end Sys2Proof.Machine
end

