-- ==== Sys2Proof/Machine/ViewOut.lean ====
section
/-! DEFINITION. VIEW (16): modes and timings, frames and latch points, commits of frame addresses, scan-out with its colour
conversion and LVDS mapping, underrun, and pin read-back. -/
namespace Sys2Proof.Machine

/-! Modes (R314) -/

/-- One row of the mode table: pixel clock in kHz, dual link, the four horizontal and the four vertical figures, and the
sync polarities. -/
structure ViewMode where
  kHz : Nat
  dual : Bool
  hActive : Nat
  hFront : Nat
  hSync : Nat
  hTotal : Nat
  vActive : Nat
  vFront : Nat
  vSync : Nat
  vTotal : Nat
  hPos : Bool
  vPos : Bool

def viewModes : List ViewMode := [
  ⟨65000, false, 1024, 24, 136, 1344, 768, 3, 6, 806, false, false⟩,
  ⟨108000, false, 1280, 48, 112, 1688, 1024, 1, 3, 1066, true, true⟩,
  ⟨85500, false, 1366, 70, 143, 1792, 768, 3, 3, 798, true, true⟩,
  ⟨148500, true, 1920, 88, 44, 2200, 1080, 4, 5, 1125, true, true⟩,
  ⟨154000, true, 1920, 48, 32, 2080, 1200, 3, 6, 1235, true, false⟩]

def viewCfg (s : State) : Bytes := cfgGet s .view
def viewModeCode (s : State) : Nat := u8 (viewCfg s) 0
def viewMode (s : State) : ViewMode := viewModes.getD (viewModeCode s) ⟨148500, true, 1920, 88, 44, 2200, 1080, 4, 5, 1125, true, true⟩
def viewJeida (s : State) : Bool := bit (u8 (viewCfg s) 1) 0
def viewSwap (s : State) : Bool := bit (u8 (viewCfg s) 1) 1

/-- STARTING, RUNNING or STOPPING. -/
def viewRun (s : State) : Bool := decide (s.view.state ≠ 0)

def viewFeature (s : State) : Bool := hasFeature s 7

/-- The links in use (R316). -/
def viewLinks (s : State) : List Nat := if (viewMode s).dual then [0, 1] else if viewSwap s then [1] else [0]

/-! States and frames (R317 to R319) -/

/-- EV_VIEW_STATE. -/
def viewEnter (new status : Nat) (s : State) : State :=
  let old := s.view.state
  raise 0x1B01 0x0B (leBytes 1 old ++ leBytes 1 new ++ leBytes 1 status ++ leBytes 1 (viewModeCode s) ++ leBytes 8 s.view.frame)
    { s with view := { s.view with state := new } }

/-- y0 that auto_follow gives (R321). -/
def followRow (s : State) (height : Nat) : Nat :=
  let d := s.ins.displayRow
  let v := (viewMode s).vActive
  if v ≤ d then (d - v) % height else 0

/-- The set in force for a frame: y0 replaced where it follows. -/
def withFollow (s : State) (b : Bytes) : Bytes :=
  if bit (u8 b 0) 1 then b.take 18 ++ leBytes 2 (followRow s (u16 b 14)) else b

/-- The transfer at a latch point: the first shadow's set comes into force, and the late slot moves up. -/
def viewTransfer (s : State) : State :=
  let w := s.view
  let w := match w.shadow with
    | some (b, _) => { w with cur := b, shadow := w.late, late := none }
    | none => { w with shadow := w.late, late := none }
  { s with view := { w with cur := withFollow s w.cur } }

/-- Frame f begins. -/
def frameBegins (f : Nat) (s : State) : State :=
  viewTransfer { s with view := { s.view with
    frame := f, line := 0, latchTime := s.now, frameUnder := 0, run0 := 0xFFFFFFFF, run1 := 0xFFFFFFFF } }

/-! Read-back (R324) -/

/-- The CRC of a link's active pixels in the frame; frame 0 has none and its CRCs are 0. -/
def frameCrc (s : State) (link : Nat) : Nat :=
  if s.view.frame = 0 then 0 else Nat.xor (if link = 0 then s.view.run0 else s.view.run1) 0xFFFFFFFF

/-- One link's comparison. `pad` is the CRC of the pixels recovered from the pads where they differ from those sent. -/
def readBack (link : Nat) (pad : Option (BitVec 32)) (s : State) : State :=
  if !(viewLinks s).contains link then s
  else
    let sent := frameCrc s link
    let back := match pad with
      | some c => if s.view.frame = 0 then 0 else c.toNat
      | none => sent
    let s := { s with view := if link = 0 then { s.view with crc0 := back } else { s.view with crc1 := back } }
    if back = sent then s
    else
      let s := { s with view := if link = 0 then { s.view with readErr0 := satInc 16 s.view.readErr0 }
        else { s.view with readErr1 := satInc 16 s.view.readErr1 } }
      raise 0x2B02 0x0B (leBytes 1 link ++ zeros 3 ++ leBytes 4 sent ++ leBytes 4 back ++ leBytes 4 s.view.frame) s

/-- The output stops: what is held waits for the next start's frame 0 (R325). -/
def viewStopped (status : Nat) (s : State) : State :=
  let w := s.view
  let held : Option (Bytes × Nat) × Option (Bytes × Nat) := match w.shadow, w.late with
    | some a, l => (some (a.1, 0), l.map fun (b : Bytes × Nat) => (b.1, 1))
    | none, some b => (some (b.1, 0), none)
    | none, none => (none, none)
  viewEnter 0 status { s with view := { w with shadow := held.1, late := held.2 } }

/-! From surface to screen (R315, R320, R322) -/

/-- A component: nearest value, halves up, clamped; the argument is in millionths. -/
def component (v : Int) : Nat := (clampI 0 255 ((v + 500000) / 1000000)).toNat

/-- Red, green and blue (R322). -/
def toRgb (y cb cr : Nat) : Nat × Nat × Nat :=
  let l : Int := 1000000 * y
  let b : Int := (cb : Int) - 128
  let r : Int := (cr : Int) - 128
  (component (l + 1402000 * r), component (l - 344136 * b - 714136 * r), component (l + 1772000 * b))

/-- The border colour. -/
def borderRgb (s : State) : Nat × Nat × Nat := (u8 (viewCfg s) 6, u8 (viewCfg s) 5, u8 (viewCfg s) 4)

def surfaceByte (s : State) (off : Nat) : Nat := (memRead s.ins.surface off).toNat

/-- Output pixel X of active line Y by the set in force (R320). -/
def viewPixel (s : State) (y x : Nat) : Nat × Nat × Nat :=
  let b := s.view.cur
  let height := u16 b 14
  let px := u16 b 16 + x
  if u16 b 12 ≤ px ∨ height ≤ y then borderRgb s
  else
    let r := (u16 b 18 + y) % height
    let stride := u16 b 2
    let chroma := u32 b 8 + (if bit (u8 b 0) 0 then r else r / 2) * stride + px / 2 * 2
    toRgb (surfaceByte s (u32 b 4 + r * stride + px)) (surfaceByte s chroma) (surfaceByte s (chroma + 1))

/-- The pixels of an active line: from the first whose data is missing on, the border colour (R323). -/
def viewLine (s : State) (y : Nat) (dataTo : Option Nat) : List (Nat × Nat × Nat) :=
  (upTo (viewMode s).hActive).map fun x =>
    match dataTo with
    | some k => if k ≤ x then borderRgb s else viewPixel s y x
    | none => viewPixel s y x

/-- Bits of a component in the slots of a pair. -/
def compBits (v : Nat) (l : List Nat) : List Bool := l.map (bit v)

/-- One link clock: seven slots of D0 to D3 (R315). -/
def lvdsClock (jeida : Bool) (p : Nat × Nat × Nat) (hs vs de : Bool) : List (List Bool) :=
  let r := p.1
  let g := p.2.1
  let b := p.2.2
  if jeida then
    [compBits r [2, 3, 4, 5, 6, 7] ++ compBits g [2], compBits g [3, 4, 5, 6, 7] ++ compBits b [2, 3],
     compBits b [4, 5, 6, 7] ++ [hs, vs, de], compBits r [0, 1] ++ compBits g [0, 1] ++ compBits b [0, 1] ++ [false]]
  else
    [compBits r [0, 1, 2, 3, 4, 5] ++ compBits g [0], compBits g [1, 2, 3, 4, 5] ++ compBits b [0, 1],
     compBits b [2, 3, 4, 5] ++ [hs, vs, de], compBits r [6, 7] ++ compBits g [6, 7] ++ compBits b [6, 7] ++ [false]]

/-- Pixels of a line that a link carries: all, or those of its parity (R316). -/
def linkShare (s : State) (link : Nat) : Nat → Bool :=
  let odd := (link == 1) != viewSwap s
  fun x => !(viewMode s).dual || decide (x % 2 = b2n odd)

/-- HS or VS at a place in its interval: active level during sync. -/
def syncLevel (positive invert active : Bool) : Bool := (active == positive) != invert

/-- A whole line on a link. `pixels` is empty on a blanking line. -/
def linkLine (s : State) (link line : Nat) (pixels : List (Nat × Nat × Nat)) : List (List (List Bool)) :=
  let m := viewMode s
  let f := u8 (viewCfg s) 1
  let vs := syncLevel m.vPos (bit f 3) (decide (m.vFront ≤ line) && decide (line < m.vFront + m.vSync))
  let from_ := m.hActive + m.hFront
  ((upTo m.hTotal).filter (linkShare s link)).map fun x =>
    let hs := syncLevel m.hPos (bit f 2) (decide (from_ ≤ x) && decide (x < from_ + m.hSync))
    lvdsClock (viewJeida s) (pixels.getD x (0, 0, 0)) hs vs (decide (x < pixels.length))

/-- Extends a running CRC. -/
def crcRun (c : Nat) (b : Bytes) : Nat := b.foldl (fun c x => crcBits 0xEDB88320 8 (Nat.xor c x.toNat)) c

/-- The bytes of a link's active pixels: red, green, blue. -/
def linkBytes (s : State) (link : Nat) (pixels : List (Nat × Nat × Nat)) : Bytes :=
  ((upTo pixels.length).filter (linkShare s link)).flatMap fun x =>
    let p := pixels.getD x (0, 0, 0)
    leBytes 1 p.1 ++ leBytes 1 p.2.1 ++ leBytes 1 p.2.2

/-- A line leaves on the links in use. -/
def sendLine (line : Nat) (pixels : List (Nat × Nat × Nat)) (s : State) : State :=
  let links := viewLinks s
  let w := s.view
  let w := { w with
    run0 := if links.contains 0 then crcRun w.run0 (linkBytes s 0 pixels) else w.run0
    run1 := if links.contains 1 then crcRun w.run1 (linkBytes s 1 pixels) else w.run1 }
  each links (fun k s => send (.view k line (linkLine s k line pixels)) s) { s with view := w }

/-- Bytes that VIEW_FETCH reads for an active line: luma and chroma of the pixels that show the surface (R323). -/
def viewFetchBytes (s : State) (y : Nat) : Nat :=
  let b := s.view.cur
  if u16 b 14 ≤ y then 0 else let n := min (viewMode s).hActive (u16 b 12 - u16 b 16); n + (n + 1) / 2 * 2

/-- Active line Y, with its underrun (R323): counted by line, and reported once per frame. -/
def activeLine (line y : Nat) (dataTo : Option Nat) (s : State) : State :=
  let under : Bool := match dataTo with
    | some k => decide (k < (viewMode s).hActive)
    | none => false
  let s := sendLine line (viewLine s y dataTo) (countPort 4 (viewFetchBytes s y) s)
  if !under then s
  else
    let first := s.view.frameUnder = 0
    let s := { s with view := { s.view with
      frameUnder := s.view.frameUnder + 1, underrun := satInc 32 s.view.underrun } }
    if first then raise 0x2B01 0x0B (leBytes 8 s.view.frame ++ leBytes 2 line ++ leBytes 2 s.view.frameUnder) s else s

/-- VIEW_LINE_START: line n of the frame in progress. The data of its pixels from `dataTo` on is not in the buffer, which
holds `level` bytes. -/
def viewLineStart (n : Nat) (dataTo : Option Nat) (level : Nat) (s : State) : State :=
  let m := viewMode s
  if (s.view.state ≠ 2 ∧ s.view.state ≠ 3) ∨ n ≠ s.view.line + 1 ∨ m.vTotal ≤ n then s
  else
    let s := { s with view := { s.view with line := n, buffered := min level 32768 } }
    let blank := m.vTotal - m.vActive
    if n < blank ∨ s.view.frame = 0 then sendLine n [] s else activeLine n (n - blank) dataTo s

def execViewLineStart (t : Time) (n : Nat) (dataTo : Option Nat) (level : BitVec 16) (s : State) :
    Host.Outcome State Fault Refusal :=
  atTime t (viewLineStart n dataTo level.toNat) s

/-- LATCH_POINT: the frame ends with its read-back comparison; the next begins, or the output stops. -/
def latchPoint (pad0 pad1 : Option (BitVec 32)) (s : State) : State :=
  if s.view.state = 2 then
    sendLine 0 [] (frameBegins (s.view.frame + 1) (readBack 1 pad1 (readBack 0 pad0 s)))
  else if s.view.state = 3 then viewStopped 0 (readBack 1 pad1 (readBack 0 pad0 s))
  else s

def execLatchPoint (t : Time) (pad0 pad1 : Option (BitVec 32)) (s : State) : Host.Outcome State Fault Refusal :=
  atTime t (latchPoint pad0 pad1) s

/-- PIXEL_CLOCK_LOCK, within 5 ms of VIEW_START: frame 0 begins. -/
def pixelClockLock (s : State) : State :=
  if s.view.state = 1 ∧ s.now ≤ s.view.startedAt + 5 * tpMs then sendLine 0 [] (frameBegins 0 (viewEnter 2 0
    { s with view := { s.view with frame := 0 } })) else s

def execPixelClockLock (t : Time) (s : State) : Host.Outcome State Fault Refusal := atTime t pixelClockLock s

/-- PIXEL_CLOCK_TIMEOUT: no lock within 5 ms. -/
def pixelClockTimeout (s : State) : State :=
  if s.view.state = 1 ∧ s.view.startedAt + 5 * tpMs ≤ s.now then viewStopped 1 s else s

def execPixelClockTimeout (t : Time) (s : State) : Host.Outcome State Fault Refusal := atTime t pixelClockTimeout s

/-! Commands -/

/-- VIEW_MODE_SET (0x0901) (R326). The values take effect at VIEW_START (R37). -/
def viewModeSetSpec : CmdSpec where
  opcode := 0x0901
  modes := setupModes
  len := (· == 16)
  feature := fun _ s => viewFeature s
  value := fun p _ =>
    within (u8 p 0) 0 4 && bits (u8 p 1) 7 4 == 0 && within (u8 p 2) 4 28 && u8 p 3 == 0 && u8 p 7 == 0 && zeroAt p 8 8
  check := fun _ s => refuseIf (viewRun s) eBusy
  apply := fun c _ s => done (cfgHold .view (slice c.params 0 16) s)

/-- Bytes of the INS region in force. -/
def insRegionBytes (s : State) : Nat := insRegionGib s * 2 ^ 30

/-- Ends of the luma and chroma planes of a set. -/
def lumaEnd (b : Bytes) : Nat := u32 b 4 + u16 b 14 * u16 b 2
def chromaEnd (b : Bytes) : Nat := u32 b 8 + (if bit (u8 b 0) 0 then u16 b 14 else u16 b 14 / 2) * u16 b 2

/-- Both planes lie within the INS region. -/
def planesInside (s : State) (b : Bytes) : Bool := decide (max (lumaEnd b) (chromaEnd b) ≤ insRegionBytes s)

/-- VIEW_START (0x0902). -/
def viewStartSpec : CmdSpec where
  opcode := 0x0902
  modes := exceptSafe
  len := (· == 4)
  feature := fun _ s => viewFeature s
  value := fun p s => zeroAt p 0 4 && (viewRun s || (match s.view.shadow with
    | some (b, _) => planesInside s b
    | none => true))
  apply := fun _ _ s =>
    if viewRun s then done s
    else
      let s := cfgRelease .view s
      pendingDone (viewEnter 1 0 { s with view := { s.view with startedAt := s.now } })

/-- VIEW_STOP (0x0903). -/
def viewStopSpec : CmdSpec where
  opcode := 0x0903
  modes := anyMode
  len := (· == 4)
  feature := fun _ s => viewFeature s
  value := fun p _ => zeroAt p 0 4
  apply := fun _ _ s =>
    match s.view.state with
    | 0 => done s
    | 2 => pendingDone (viewEnter 3 0 s)
    | _ => pendingDone s
  after := fun s => if s.view.state = 1 then viewStopped 0 s else s

/-- A commit that lands now is in time for the next latch point: at least two pixel clocks before it (R319). -/
def commitInTime (s : State) : Bool :=
  let m := viewMode s
  decide ((s.now - s.view.latchTime) * m.kHz ≤ (m.hTotal * m.vTotal - 2) * 1000000 * tpNs)

/-- The frame on which a set committed now takes effect, and whether the first shadow holds it. -/
def commitTarget (s : State) : Nat × Bool :=
  if s.view.state = 0 ∨ s.view.state = 1 then (0, true)
  else if commitInTime s then (s.view.frame + 1, true)
  else (s.view.frame + 2, false)

/-- VIEW_FRAME_SET (0x0904) (R319, R320). -/
def viewFrameSetSpec : CmdSpec where
  opcode := 0x0904
  modes := exceptSafe
  len := (· == 32)
  feature := fun _ s => viewFeature s
  value := fun p s =>
    bits (u8 p 0) 7 2 == 0 && u8 p 1 == 0 && within (u16 p 2) 64 4096 && u16 p 2 % 16 == 0 && u32 p 4 % 16 == 0
      && u32 p 8 % 16 == 0 && within (u16 p 12) 64 (u16 p 2) && within (u16 p 14) 64 4096 && decide (u16 p 16 < u16 p 12)
      && (bit (u8 p 0) 1 || decide (u16 p 18 < u16 p 14)) && zeroAt p 20 12
      && (bit (u8 p 0) 0 || u16 p 14 % 2 == 0) && planesInside s p
      && (decide (lumaEnd p ≤ u32 p 8) || decide (chromaEnd p ≤ u32 p 4))
  apply := fun c _ s =>
    let b := slice c.params 0 20
    let f := commitTarget s
    let w := if f.2 then { s.view with shadow := some (b, f.1) } else { s.view with late := some (b, f.1) }
    withResult (leBytes 8 f.1) { s with view := w }

end Sys2Proof.Machine
end

