-- ==== Sys2Proof/Machine/Hub.lean ====
section
/-! DEFINITION. HUB's own commands (02, 03): identity, feature negotiation, mode control, configuration read-out and
the host watchdog setting. -/
namespace Sys2Proof.Machine

/-! IDENTIFY -/

/-- The 40-byte reply of IDENTIFY. -/
def identifyReply (s : State) : Bytes :=
  let fw (i : ImageSlot) : Nat := if i.present then i.fwVersion.toNat else 0
  leBytes 2 0x2448 ++ [0xB0] ++ leBytes 1 (modeCode s.hub.mode) ++ leBytes 1 (bootCode s.hub.bootState)
    ++ leBytes 1 s.rng.address.toNat ++ leBytes 1 (b2n s.mss.activeB) ++ [0]
    ++ leBytes 8 Config.deviceSerial.toNat ++ leBytes 4 s.nvm.bootCount.toNat ++ leBytes 4 Config.romVersion.toNat
    ++ leBytes 4 (fw s.nvm.slotA) ++ leBytes 4 (fw s.nvm.slotB) ++ leBytes 2 (dramGib s)
    ++ leBytes 2 s.hub.bootFaults.toNat ++ leBytes 2 s.nvm.shutdownCause.toNat ++ leBytes 2 s.hub.bistFailed.toNat

/-- IDENTIFY (0x0001), in every mode and boot state (R1, R31). -/
def identifySpec : CmdSpec where
  opcode := 0x0001
  modes := anyMode
  boot := fun _ => true
  isRead := true
  len := (· == 0)
  apply := fun _ _ s => withResult (identifyReply s) s

/-! FEATURE_QUERY and FEATURE_ACCEPT -/

/-- Word 0 as offered: bits 0 to 15, less the product options' bits (R32). -/
def offerWord (s : State) : BitVec 32 := 0xFFFF &&& ~~~(s.nvm.options.zeroExtend 32 &&& 0xFFFE)

/-- FEATURE_QUERY (0x0002) (R32). -/
def featureQuerySpec : CmdSpec where
  opcode := 0x0002
  modes := anyMode
  boot := (· = .ready)
  isRead := true
  len := (· == 0)
  apply := fun _ _ s => withResult (leBytes 4 (offerWord s).toNat ++ zeros 12) s

/-- The state with a feature set in force: what the epoch and the digest of FEATURE_ACCEPT are formed over (R33). -/
def withFeatures (w : BitVec 32) (s : State) : State :=
  { s with hub := { s.hub with features := w, cfgCount := 1 } }

/-- Where FEATURE_ACCEPT leads: STANDBY, or SAFE with a boot fault (R23). -/
def bootExit (s : State) : Mode := if s.hub.bootFaults = 0 then .standby else .safe

/-- FEATURE_ACCEPT (0x0003) (R33). -/
def featureAcceptSpec : CmdSpec where
  opcode := 0x0003
  modes := fun _ => false
  boot := (· = .ready)
  len := (· == 16)
  value := fun p s =>
    let w := BitVec.ofNat 32 (u32 p 0)
    (w &&& ~~~(offerWord s)) == 0 && bit w.toNat 0 && zeroAt p 4 12
  check := fun _ s => refuseIf (transPending s) eBadMode
  apply := fun c a s =>
    let w := BitVec.ofNat 32 (u32 c.params 0)
    let f := withFeatures w s
    let s' := { s with hub := { s.hub with accepted := some w, trans := some {
      target := bootExit s, due := .instant (hostInstant s.now), cause := 1, origin := a.origin,
      seq := c.seq.toNat, since := s.now } } }
    withResult (leBytes 8 (cfgEpoch f) ++ cfgDigest f ++ leBytes 1 (modeCode (bootExit s)) ++ zeros 3) s'

/-! MODE_SET -/

/-- The print queue is committed (R131). -/
def queueCommitted (s : State) : Bool := s.mem.committed

/-- The first page of the queue is RESIDENT. -/
def firstResident (s : State) : Bool :=
  match s.mem.queue.head?.bind (findPage s) with
  | some p => decide (p.state = .resident)
  | none => false

/-- The unmet conditions of a transition, in the bit layout of R34 (R23). -/
def unmet (s : State) (target : Mode) : Nat :=
  let m := s.hub.mode
  (if transPending s then 2 ^ 9 else 0) +
  (if target = .safe then (if m = .boot ∨ m = .safe then 2 ^ 10 else 0)
   else match m, target with
    | .standby, .service | .standby, .calibrate => 0
    | .service, .standby | .calibrate, .standby => 2 ^ 5 * b2n (axisMoving s) + 2 ^ 6 * b2n (calActive s)
    | .standby, .armed =>
      b2n (!queueCommitted s) + 2 * b2n (!firstResident s) + 4 * b2n (!regLocked s) + 8 * b2n (!geometryValid s)
        + 16 * b2n s.hub.interlockOpen
    | .armed, .standby => 0
    | .armed, .print =>
      2 ^ 7 * b2n (!webForward s) + 2 ^ 8 * b2n (!rateOk s) + 16 * b2n s.hub.interlockOpen
    | .print, .drain => 0
    | _, _ => 2 ^ 10)

/-- Asks for a transition, as MODE_SET, the host watchdog and HLK do (R23, R27, R34, R68, R208). In DRAIN the target
STANDBY is always taken (R24; log entry 74). -/
def requestMode (target : Mode) (autoResume : Bool) (start : Time) (origin seq : Nat) (s : State) : Verdict × State :=
  if s.hub.mode = .drain ∧ target = .standby then
    done { s with hub := { s.hub with drainStandby := true } }
  else
    let u := unmet s target
    if u ≠ 0 then ((eBadMode, leBytes 4 u), s)
    else
      let at_ := hostInstant s.now
      let due := if target = .print then Due.print (max at_ start) else .instant at_
      pendingDone { s with hub := { s.hub with trans := some {
        target := target, due := due, cause := 0, origin := origin, seq := seq, autoResume := autoResume,
        since := s.now } } }

/-- MODE_SET (0x0004) (R34). -/
def modeSetSpec : CmdSpec where
  opcode := 0x0004
  modes := anyMode
  modeResult := leBytes 4 (2 ^ 10)
  len := (· == 16)
  value := fun p _ =>
    let target := u8 p 0
    within target 1 7 && within (u8 p 1) 0 1 && zeroAt p 2 2 && timeOk p 4
      && (target == 5 || (u8 p 1 == 0 && zeroAt p 4 12))
  check := fun p s =>
    let start := timeAt p 4
    if start ≠ 0 ∧ start < s.now + 2 * tpUs then some (eTimePast, [])
    else
      let target := modeOf (u8 p 0)
      let u := unmet s target
      if u ≠ 0 ∧ !(s.hub.mode = .drain ∧ target = .standby) then some (eBadMode, leBytes 4 u)
      else none
  apply := fun c a s =>
    requestMode (modeOf (u8 c.params 0)) (u8 c.params 1 == 1) (timeAt c.params 4) a.origin c.seq.toNat s

/-! SAFE_CLEAR, DEVICE_RESET -/

/-- The causes that SAFE_CLEAR does not clear: all but host request and boot fault. -/
def standingCauses (s : State) : Nat := safeWord s - 2 * b2n (bit (safeWord s) 1) - 64 * b2n (bit (safeWord s) 6)

/-- SAFE_CLEAR (0x0005) (R23, R27). -/
def safeClearSpec : CmdSpec where
  opcode := 0x0005
  modes := oneOf [.safe]
  modeResult := zeros 4
  len := (· == 0)
  check := fun _ s =>
    if transPending s then some (eBadMode, zeros 4)
    else if standingCauses s ≠ 0 then some (eBadMode, leBytes 4 (standingCauses s)) else none
  apply := fun c a s => pendingDone { s with hub := { s.hub with
    safe := s.hub.safe.filter (fun r => r.bit ≠ 1 ∧ r.bit ≠ 6)
    trans := some { target := .standby, due := .instant (hostInstant s.now), cause := 0, origin := a.origin,
                    seq := c.seq.toNat, since := s.now } } }

/-- DEVICE_RESET (0x0006): the reset follows 1 ms after the reply (R23). -/
def deviceResetSpec : CmdSpec where
  opcode := 0x0006
  modes := oneOf [.standby, .service, .calibrate, .safe]
  boot := fun b => decide (2 ≤ bootCode b)
  len := (· == 4)
  value := fun p _ => u32 p 0 == 0x0000A55A
  apply := fun _ _ s => done { s with hub := { s.hub with resetAt := some (s.now + tpMs) } }

/-! CONFIG_READ, HOST_WATCHDOG_SET -/

/-- CONFIG_READ (0x0007): at most 512 record bytes from an offset, with the epoch (R36). -/
def configReadSpec : CmdSpec where
  opcode := 0x0007
  modes := anyMode
  isRead := true
  len := (· == 4)
  value := fun p s =>
    let n := (blockRecord s (u8 p 0)).length
    within (u8 p 0) 1 15 && u8 p 1 == 0 && (decide (u16 p 2 < n) || (n == 0 && u16 p 2 == 0))
  apply := fun c _ s =>
    let r := blockRecord s (u8 c.params 0)
    let part := slice r (u16 c.params 2) 512
    withResult (leBytes 2 r.length ++ leBytes 2 part.length ++ zeros 4 ++ leBytes 8 (cfgEpoch s) ++ part) s

/-- HOST_WATCHDOG_SET (0x0008) (R68). -/
def hostWatchdogSetSpec : CmdSpec where
  opcode := 0x0008
  modes := setupModes
  len := (· == 8)
  value := fun p _ =>
    let period := u16 p 0
    (period == 0 || within period 10 60000) && within (u8 p 2) 0 2 && !(u8 p 2 != 0 && period == 0)
      && zeroAt p 3 5
  apply := fun c _ s =>
    let period := u16 c.params 0
    done (cfgSet .hub (slice c.params 0 8) { s with hub := { s.hub with
      wdDeadline := if period = 0 then none else some (s.now + period * tpMs), wdLast := s.now } })

end Sys2Proof.Machine
end

