-- ==== Sys2Proof/Machine/Ring.lean ====
section
/-! DEFINITION. RNG, the unit ring (04): ports, the ring map and ring state, re-routing, forwarding and discarding of
packets, enumeration, ring time, ring snapshots, and the ring commands. Relays and two-phase commits are in Relay. -/
namespace Sys2Proof.Machine

def ringCfg (s : State) : Bytes := cfgGet s .ringConfig
def voteTimeoutUs (s : State) : Nat := u16 (ringCfg s) 0
def commitTimeoutMs (s : State) : Nat := u16 (ringCfg s) 2
def commitLeadUs (s : State) : Nat := u16 (ringCfg s) 4
def relayTimeoutUs (s : State) : Nat := u16 (ringCfg s) 6

/-- The slot of a port's settings. -/
def ringPortSlot (p : RingPort) : CfgSlot := match p with
  | .east => .ringPort 0
  | .west => .ringPort 1

def portOf (n : Nat) : RingPort := if n = 0 then .east else .west

/-! The ring map (R75, R78) -/

/-- Addresses of the enumerated units, in ring order going east. -/
def ringAddrs (s : State) : List (BitVec 5) := s.rng.order.map (·.address)

/-- The port states of the unit with an address: this unit's own, or what its LINK_STATE said. -/
def linksOf (s : State) (a : BitVec 5) : UnitLinks :=
  if a = s.rng.address then { eastUp := portUp s .east, westUp := portUp s .west } else tget {} s.rng.links a

/-- Address at a place of the ring, counted round it. -/
def addrAt (l : List (BitVec 5)) (i : Nat) : BitVec 5 := l.getD (i % l.length) 0

/-- The link from the unit at a place to the next unit east of it carries traffic. -/
def linkIntact (s : State) (i : Nat) : Bool :=
  let l := ringAddrs s
  (linksOf s (addrAt l i)).eastUp && (linksOf s (addrAt l (i + 1))).westUp

/-- Places whose link to the east is a break. -/
def brokenLinks (s : State) : List Nat := (upTo s.rng.order.length).filter fun i => !linkIntact s i

/-- This unit's place in the ring. -/
def ownPlace (s : State) : Option Nat :=
  if s.rng.address = 0 then none else (ringAddrs s).findIdx? (· = s.rng.address)

/-- The `n` links going east from a place are intact. -/
def linksIntact (s : State) (place n : Nat) : Bool :=
  (upTo n).all fun j => linkIntact s ((place + j) % s.rng.order.length)

/-- The map entry of the unit at place `j` as seen from place `k`. -/
def mapEntryAt (s : State) (k j : Nat) (u : Assigned) : MapEntry :=
  let n := s.rng.order.length
  let e := (j + n - k) % n
  let w := (k + n - j) % n
  let has := (linksOf s u.address).addressed
  { tget {} s.rng.map u.address with
    serial := u.serial, hopsE := e, hopsW := w,
    reachE := has && linksIntact s k e, reachW := has && linksIntact s j w }

/-- RNG_MAP built again. An address that no enumerated unit holds keeps its serial and is unreachable (R78). -/
def buildMap (s : State) : Tab (BitVec 5) MapEntry :=
  let old := s.rng.map.map fun e => (e.1, { e.2 with reachE := false, reachW := false })
  match ownPlace s with
  | none => old
  | some k => s.rng.order.zipIdx.foldl (fun m u => tset m u.1.address (mapEntryAt s k u.2 u.1)) old

/-- An enumerated address is reachable. -/
def reachable (s : State) (a : BitVec 5) : Bool :=
  let e := tget {} s.rng.map a
  e.reachE || e.reachW

/-- The enumerated addresses that are unreachable. -/
def unreachables (s : State) : List (BitVec 5) := (ringAddrs s).filter fun a => !reachable s a

/-- A mask with bit n for address n. -/
def addrMask (l : List (BitVec 5)) : Nat := maskOf 31 fun i => l.any fun a => a.toNat = i

/-- RNG_ADDR_MASK. -/
def reachMask (s : State) : Nat := addrMask ((ringAddrs s).filter (reachable s))

/-- The ring state that ports, map and enumeration give (R75; a unit that no enumeration has reached is UNENUMERATED
while a port of its own is UP, log entry 70). -/
def ringStateOf (s : State) : RingState :=
  if !portUp s .east && !portUp s .west then .isolated
  else if s.rng.enum.isSome then .enumerating
  else if (ownPlace s).isNone then .unenumerated
  else if !(unreachables s).isEmpty then .split
  else if (brokenLinks s).isEmpty then .closed
  else .broken

def ringCode : RingState → Nat
  | .unenumerated => 0 | .enumerating => 1 | .closed => 2 | .broken => 3 | .split => 4 | .isolated => 5

/-! LINK_STATE -/

/-- Tells every unit this unit's port states (R74, R76). -/
def sendLinkState (announced : Bool) (lastValid : Time) (s : State) : State :=
  if (routes s 31).any (portUp s) then
    sendRing 31 (.linkState (portUp s .east) (portUp s .west) announced (BitVec.ofNat 3 (modeCode s.hub.mode))
      lastValid) s
  else s

/-- The mode of this unit has changed: its neighbours' maps follow (RNG_MAP byte 11; log entry 71). -/
def ringModeChanged (s : State) : State := if s.hub.mode = .boot then s else sendLinkState false 0 s

/-! Re-routing (R76) -/

/-- The re-route in progress has ended: EV_RING_REROUTE and RNG_REROUTE_COUNT. -/
def finishReroute (s : State) : State :=
  match s.rng.reroute with
  | none => s
  | some r =>
    let port : Nat := match r.port with
      | none => 0xFF
      | some p => portCode p
    raise 0x2801 0x08 (leBytes 1 port ++ leBytes 1 r.eastOf.toNat ++ leBytes 1 r.westOf.toNat
        ++ leBytes 1 (ringCode s.rng.state) ++ timeBytes r.last)
      { s with rng := { s.rng with reroute := none, rerouteCount := s.rng.rerouteCount + 1 } }

/-- Ports, links or enumeration have changed: the map and the ring state are built again, with the events of R75 and
R76, the choice of the ring time master (R93) and the recovery broadcast. `before` is the state before the change,
`port` the failed port of this unit, `last` the last valid block. -/
def refreshRing (before : State) (port : Option RingPort) (last : Time) (announced : Bool) (s : State) : State :=
  let was := before.rng.state
  let oldBreaks := brokenLinks before
  let breaks := (brokenLinks s).filter fun i => !oldBreaks.contains i
  let s := { s with rng := { s.rng with map := buildMap s } }
  let s := { s with rng := { s.rng with state := ringStateOf s } }
  let l := ringAddrs s
  let isNew := decide (before.rng.order = s.rng.order) && decide (s.rng.state ≠ .isolated)
  let s := match breaks with
    | i :: _ =>
      if isNew then
        let r : Reroute := { port := port, eastOf := addrAt l (i + 1), westOf := addrAt l i, last := last }
        { s with rng := { s.rng with lastBreak := last, reroute := some r } }
      else s
    | [] => s
  let s := when_ announced finishReroute s
  let gained := (unreachables s).any fun a => !(unreachables before).contains a
  let s := if s.rng.state = .split ∧ (was ≠ .split ∨ gained) then
      raise 0x3801 0x08 (leBytes 4 (addrMask (unreachables s)) ++ zeros 12) s
    else s
  let s := if s.rng.state = .closed ∧ (was = .broken ∨ was = .split) then
      raise 0x1803 0x08 (leBytes 1 (ringCode s.rng.state) ++ zeros 3 ++ leBytes 4 (reachMask s) ++ zeros 8) s
    else s
  let s := if before.rng.map = s.rng.map ∧ was = s.rng.state then s else reselect s
  recoveryBroadcast s

/-! Ports (R74) -/

/-- Sends the copies that a port still keeps, by that port or wrapped by the other (R72, R76). -/
def resendCopies (p : RingPort) (s : State) : State :=
  let st := ringPort s p
  if !portUp s p && !portUp s (otherPort p) then s
  else
    let s := setRingPort p { st with copies := [] } s
    each st.copies (fun k s =>
      if !portUp s p && k.hdr.wrapped then s
      else sendOn p k { s with rng := { s.rng with retxCount := s.rng.retxCount + 1 } }) s

/-- VOID packets held for want of a port leave and are counted (R85). -/
def releaseVoids (s : State) : State :=
  each s.rng.heldVoids sendVoid { s with rng := { s.rng with heldVoids := [] } }

/-- RING_PORT_FAILED: an UP port loses its neighbour; the unit wraps, resends and says so (R74, R76). -/
def ringPortFailed (p : RingPort) (last : Time) (s : State) : State :=
  if !portUp s p then s
  else
    let s1 := setRingPort p { ringPort s p with state := .failed } s
    let s1 := { s1 with rng := { s1.rng with lastBreak := last } }
    sendLinkState false last (resendCopies p (refreshRing s (some p) last false s1))

/-- RING_PORT_UP: a hunting port has held lock and exchanged LINK_STATE for 10 ms (R74). -/
def ringPortUp (p : RingPort) (s : State) : State :=
  let st := (ringPort s p).state
  if st = .hunt ∨ st = .failed then
    let s1 := setRingPort p { ringPort s p with state := .up } s
    let s1 := raise 0x1802 0x08 (leBytes 1 (portCode p) ++ zeros 15) s1
    releaseVoids (resendCopies p (sendLinkState false 0 (refreshRing s none 0 false s1)))
  else s

/-- Starts a port (R28). -/
def ringPortStart (p : RingPort) (s : State) : State :=
  if (ringPort s p).state = .stopped then
    cfgRelease (ringPortSlot p) (setRingPort p { ringPort s p with state := .hunt } s)
  else s

/-- Stops a port as an announced break (R76). -/
def ringPortStop (p : RingPort) (s : State) : State :=
  let st := ringPort s p
  if st.state = .stopped then s
  else
    let down (q : RingPort) : Bool := portUp s q && decide (q ≠ p)
    let s1 := if (routes s 31).any (portUp s) ∧ st.state = .up then
        sendRing 31 (.linkState (down .east) (down .west) true (BitVec.ofNat 3 (modeCode s.hub.mode)) s.now) s
      else s
    let s2 := setRingPort p { ringPort s1 p with state := .stopped, copies := [] } s1
    if st.state = .up then
      refreshRing s (some p) s.now true { s2 with rng := { s2.rng with lastBreak := s.now } }
    else refreshRing s none 0 false s2

/-! Receiving and forwarding (R71, R72, R76) -/

/-- The ring sequence of an originator is new: ahead of the last accepted by fewer than half its range. A unit without
an address may have been reset, so its LINK_STATE always counts as new (log entry 72). -/
def seqNew (s : State) (h : RingHdr) (restart : Bool) : Bool :=
  match s.rng.accepted.find? (fun p => p.1 = h.serial) with
  | none => true
  | some p => (restart && decide (h.src = 0)) || decide (0 < (h.seq - p.2).toNat ∧ (h.seq - p.2).toNat < 0x8000)

/-- Passes a packet on, out of the port it did not come in by, or back with the wrapped bit at a break. -/
def passOn (h : RingHdr) (body : RingBody) (s : State) : State :=
  let out := otherPort h.port
  let k : RingPacket := { hdr := { h with port := out, hops := h.hops - 1 }, body := body }
  if portUp s out then sendOn out k s
  else if !h.wrapped && (decide (h.dst ≠ 31) || s.rng.reroute.isSome) then sendOn out k s
  else s

/-- Acknowledges a packet to the neighbour it came from (R72). -/
def hopAck (h : RingHdr) (s : State) : State :=
  sendOn h.port { hdr := { src := s.rng.address, dst := 0, hops := 30, west := h.port = .west,
                           serial := Config.deviceSerial }, body := .hopAck h.seq } s

/-- What every kept packet meets on arrival: acknowledgement, the discard of what has been accepted already, delivery
to this unit, and passing on. -/
def arrive (h : RingHdr) (body : RingBody) (restart : Bool) (deliver : State → State) (s : State) : State :=
  if !portUp s h.port || decide (h.hops = 0) then s
  else
    let s := hopAck h s
    if h.serial = Config.deviceSerial then (if h.wrapped then passOn h body s else s)
    else
      let fresh := seqNew s h restart
      let s := if fresh then { s with rng := { s.rng with accepted := tset s.rng.accepted h.serial h.seq } } else s
      let mine := decide (h.dst = 31) || (decide (h.dst = s.rng.address) && decide (h.dst ≠ 0))
      let s1 := when_ (fresh && mine) deliver s
      if mine && decide (h.dst ≠ 31) then s1
      else if fresh || h.wrapped then passOn h body s1
      else s1

/-- HOP_ACK: the copies up to the acknowledged one are released (R72). -/
def takeAck (h : RingHdr) (upTo : BitVec 16) (s : State) : State :=
  let st := ringPort s h.port
  if portUp s h.port && st.copies.any (fun k => k.hdr.seq = upTo) then
    setRingPort h.port { st with copies := (st.copies.dropWhile fun k => k.hdr.seq ≠ upTo).drop 1 } s
  else s

/-- LINK_STATE of another unit (R75, R76). -/
def takeLinkState (h : RingHdr) (eastUp westUp announced : Bool) (mode : BitVec 3) (last : Time) (s : State) : State :=
  match s.rng.order.find? (fun u => u.serial = h.serial) with
  | none => s
  | some u =>
    let v : UnitLinks := { eastUp := eastUp, westUp := westUp, addressed := h.src = u.address }
    let s1 := { s with rng := { s.rng with
      links := tset s.rng.links u.address v
      map := tset s.rng.map u.address { tget {} s.rng.map u.address with mode := mode } } }
    refreshRing s none last announced s1

/-! Enumeration (R77) -/

/-- The end of an enumeration that this unit issued: EV_RING_ENUM_DONE. -/
def enumDone (status : Nat) (fill : Bool) (s : State) : State :=
  raise 0x1801 0x08 (leBytes 2 status ++ leBytes 1 (b2n fill) ++ leBytes 1 s.rng.address.toNat
    ++ leBytes 1 s.rng.order.length ++ zeros 3 ++ leBytes 4 (addrMask (ringAddrs s)) ++ zeros 4) s

/-- The enumeration in progress ends with the addresses as they were. -/
def dropEnum (s : State) : State :=
  refreshRing s none 0 false { s with rng := { s.rng with enum := none } }

/-- The issuer ends its enumeration with a status, and ENUM_ABORT goes both ways. -/
def abortEnum (status : Nat) (e : Enumeration) (s : State) : State :=
  let s := sendBoth 31 (.enumAbort (BitVec.ofNat 16 status) e.serial) s
  enumDone status e.fill (dropEnum s)

/-- This unit's refusal of a token, if any (R77). -/
def enumRefusal (fill : Bool) (next : Nat) (units : List Assigned) (s : State) : Option Nat :=
  if (!fill && printingMode s.hub.mode) || s.rng.prepared.isSome then some eVoteNo
  else if !portUp s .east then some eUnreachable
  else if (if fill then decide (30 ≤ units.length) else decide (31 ≤ next)) then some eNoResource
  else none

/-- The unit takes its place in a token and passes it on east, or sends ENUM_ABORT back to the issuer. -/
def joinEnum (h : RingHdr) (fill : Bool) (next : Nat) (units : List Assigned) (s : State) : State :=
  match enumRefusal fill next units s with
  | some status =>
    sendVia [h.port] (if h.src = 0 then 31 else h.src) (.enumAbort (BitVec.ofNat 16 status) h.serial) s
  | none =>
    let pending : BitVec 5 := BitVec.ofNat 5 next
    let own : Assigned := { address := if fill then s.rng.address else pending, serial := Config.deviceSerial }
    let e : Enumeration := { issuer := false, fill := fill, started := s.now, serial := h.serial,
                             pending := if fill then none else some pending }
    let s := refreshRing s none 0 false { s with rng := { s.rng with enum := some e } }
    passOn h (.enum fill (if fill then next else next + 1) (units ++ [own])) s

/-- The lowest address from `a` on that a list does not hold. -/
def freeAddr : Nat → List (BitVec 5) → Nat → Nat
  | 0, _, a => a
  | n + 1, held, a => if held.any (fun h => h.toNat = a) then freeAddr n held (a + 1) else a

/-- FILL, first part: a listed unit takes back the address its serial last held, if it is free. -/
def takeBack (s : State) (units : List Assigned) : List Assigned :=
  let step (acc : List Assigned × List (BitVec 5)) (u : Assigned) : List Assigned × List (BitVec 5) :=
    if u.address ≠ 0 then (acc.1 ++ [u], acc.2)
    else match s.rng.map.find? (fun m => m.2.serial = u.serial ∧ !acc.2.contains m.1) with
      | some m => (acc.1 ++ [{ u with address := m.1 }], m.1 :: acc.2)
      | none => (acc.1 ++ [u], acc.2)
  (units.foldl step ([], (units.map (·.address)).filter (· ≠ 0))).1

/-- FILL, second part: the others, in token order, take the lowest free addresses. -/
def assignFree (units : List Assigned) : List Assigned :=
  let step (acc : List Assigned × List (BitVec 5)) (u : Assigned) : List Assigned × List (BitVec 5) :=
    if u.address ≠ 0 then (acc.1 ++ [u], acc.2)
    else
      let a : BitVec 5 := BitVec.ofNat 5 (freeAddr 30 acc.2 1)
      (acc.1 ++ [{ u with address := a }], a :: acc.2)
  (units.foldl step ([], (units.map (·.address)).filter (· ≠ 0))).1

/-- The token is back at its issuer: ENUM_COMMIT with the assignment and an adoption instant 1 ms later. -/
def concludeEnum (e : Enumeration) (units : List Assigned) (s : State) : State :=
  if 30 < units.length then abortEnum eNoResource e s
  else
    let assigned := if e.fill then assignFree (takeBack s units) else units
    let at_ := s.now + tpMs
    sendVia [.east] 31 (.enumCommit assigned at_)
      { s with rng := { s.rng with enum := some { e with adopt := some (assigned, at_) } } }

/-- ENUM: a token arrives (R77). Of two tokens that meet, the one with the lower originator serial goes on. -/
def takeEnum (h : RingHdr) (fill : Bool) (next : Nat) (units : List Assigned) (s : State) : State :=
  if !portUp s h.port || decide (h.hops = 0 ∧ h.serial ≠ Config.deviceSerial) then s
  else
    let s := hopAck h s
    if h.serial = Config.deviceSerial then
      match s.rng.enum with
      | some e => if e.issuer ∧ e.adopt = none then concludeEnum e units s else s
      | none => s
    else if !seqNew s h false then s
    else
      let s := { s with rng := { s.rng with accepted := tset s.rng.accepted h.serial h.seq } }
      match s.rng.enum with
      | none => joinEnum h fill next units s
      | some e =>
        if h.serial.toNat < e.serial.toNat then
          let s := dropEnum s
          joinEnum h fill next units (if e.issuer then enumDone eVoteNo e.fill s else s)
        else s

/-- ENUM_COMMIT: the assignment with its adoption instant. -/
def takeEnumCommit (h : RingHdr) (units : List Assigned) (adopt : Time) (s : State) : State :=
  match s.rng.enum with
  | some e =>
    if e.serial = h.serial then { s with rng := { s.rng with enum := some { e with adopt := some (units, adopt) } } } else s
  | none => s

/-- ENUM_ABORT for the token of an issuer. -/
def takeEnumAbort (status : BitVec 16) (token : BitVec 64) (s : State) : State :=
  match s.rng.enum with
  | some e =>
    if e.serial ≠ token ∨ e.adopt.isSome = true then s
    else if e.issuer then abortEnum status.toNat e s else dropEnum s
  | none => s

/-- ENUM_ADOPT: the unit adopts its address and the map is built again (R77, R78). -/
def enumAdopt (s : State) : State :=
  match s.rng.enum with
  | some e =>
    match e.adopt with
    | some (units, at_) =>
      if s.now < at_ then s
      else
        let own : BitVec 5 := match units.find? (fun u => u.serial = Config.deviceSerial) with
          | some u => u.address
          | none => 0
        let s1 := { s with rng := { s.rng with enum := none, address := own, order := units, links := [] } }
        let s1 := refreshRing s none 0 false s1
        if e.issuer then enumDone eOk e.fill s1 else s1
    | none => s
  | none => s

/-- ENUM_TIMEOUT: 10 ms without the token's return (R77). -/
def enumTimeout (s : State) : State :=
  match s.rng.enum with
  | some e =>
    if e.issuer ∧ e.adopt = none ∧ e.started + 10 * tpMs ≤ s.now then abortEnum eTimeout e s else s
  | none => s

/-- PENDING_ADDRESS_TIMEOUT: a unit that missed the abort discards its pending address (R77). -/
def pendingAddressTimeout (s : State) : State :=
  match s.rng.enum with
  | some e =>
    if !e.issuer ∧ e.adopt = none ∧ e.started + commitTimeoutMs s * tpMs ≤ s.now then dropEnum s else s
  | none => s

/-! Ring time (R93, R94) -/

/-- Sends TIME to each neighbour while the ring carries time. -/
def ringTimeExchange (s : State) : State :=
  let slave := isSlave s 0 || isSlave s 1
  if ringTimed s then
    each [.east, .west] (fun p s =>
      if portUp s p then
        sendOn p { hdr := { src := s.rng.address, dst := 0, hops := 30, west := p = .west,
                            serial := Config.deviceSerial }, body := .time s.now (!policyFree s) slave } s
      else s) s
  else s

/-- The port toward the ring time master: fewer hops, west on a tie (R94). -/
def masterPort (s : State) : Option RingPort :=
  let e := tget {} s.rng.map s.mer.master
  if s.mer.master = 0 ∨ s.mer.master = s.rng.address then none
  else if e.reachE && (!e.reachW || decide (e.hopsE < e.hopsW)) then some .east
  else if e.reachW then some .west else none

/-- RING_TIME: a TIME exchange with a neighbour gives the link delay, the unit's policy and SLAVE status, and, from the
neighbour nearer the master, the offset of its time in ps (R93, R94). -/
def ringTime (h : RingHdr) (roundTrip : Nat) (offset : Int) (auto slave : Bool) (s : State) : State :=
  if !portUp s h.port || !ringTimed s then s
  else
    let delay := roundTrip / 2
    let s := match h.port with
      | .east => { s with mer := { s.mer with linkDelayE := delay } }
      | .west => { s with mer := { s.mer with linkDelayW := delay } }
    let old : TimePeer := tget {} s.mer.peers h.src
    let new : TimePeer := { auto := auto, slave := slave,
                            slaveSince := if slave && !old.slave then s.now else old.slaveSince }
    let s1 := if h.src = 0 then s else { s with mer := { s.mer with peers := tset s.mer.peers h.src new } }
    let s2 := if h.src ≠ 0 ∧ (old.slave ≠ slave ∨ old.auto ≠ auto) then reselect s1 else s1
    if s2.mer.source = 3 ∧ masterPort s2 = some h.port then
      adjustRate { s2 with mer := { s2.mer with ringOffset := offset, slewing := offset ≠ 0 } }
    else s2

/-! Ring snapshots and forwarded events (R86, R87) -/

/-- SNAP: the instant is armed with source 2, or missed, which the arming unit is told (R87). -/
def takeSnap (h : RingHdr) (t : Time) (s : State) : State :=
  if t < s.now + 2 * tpUs ∨ snapTooClose s t ∨ (4 ≤ s.mer.snaps.length ∧ !snapPendingAt s t) then
    let s := { s with rng := { s.rng with completions := s.rng.completions ++ [
      { unit := h.src, codes := [0x2802], off := 0, key := [] }] } }
    raise 0x2802 0x08 (leBytes 1 s.rng.address.toNat ++ zeros 3 ++ timeBytes t) s
  else addSnap t 2 s

/-- EVT: events of another unit are written with the remote bit (R59, R86). -/
def takeEvents (h : RingHdr) (es : List Event) (s : State) : State :=
  each es (fun e => deliverEvent { e with remote := true, unit := h.src }) s

/-! Commands -/

/-- RING_ENUMERATE (0x0101) (R77). -/
def ringEnumerateSpec : CmdSpec where
  opcode := 0x0101
  modes := anyMode
  len := (· == 4)
  value := fun p _ => within (u8 p 0) 0 1 && zeroAt p 1 3
  check := fun p s => firstOf [
    refuseIf ((u8 p 0 == 0 && printingMode s.hub.mode) || decide (s.rng.state = .enumerating) || s.rng.prepared.isSome)
      eBadMode,
    refuseIf (!portUp s .east || !portUp s .west) eUnreachable]
  apply := fun c _ s =>
    let fill := u8 c.params 0 == 1
    let own : Assigned := { address := if fill then s.rng.address else 1, serial := Config.deviceSerial }
    let e : Enumeration := { issuer := true, fill := fill, started := s.now, serial := Config.deviceSerial,
                             pending := if fill then none else some 1 }
    let s := refreshRing s none 0 false { s with rng := { s.rng with enum := some e } }
    pendingDone (sendVia [.east] 31 (.enum fill 2 [own]) s)

/-- RING_CONFIG (0x0102) (R82). -/
def ringConfigSpec : CmdSpec where
  opcode := 0x0102
  modes := anyMode
  len := (· == 16)
  value := fun p _ =>
    within (u16 p 0) 500 50000 && within (u16 p 2) 5 1000 && within (u16 p 4) 300 10000 && within (u16 p 6) 300 50000
      && within (u8 p 8) 0 3 && zeroAt p 9 7 && decide (u16 p 0 + u16 p 4 + 1000 ≤ u16 p 2 * 1000)
  apply := fun c _ s => done (cfgSet .ringConfig (slice c.params 0 16) s)

/-- RING_PORT_SET (0x0103) (R28). -/
def ringPortSetSpec : CmdSpec where
  opcode := 0x0103
  modes := anyMode
  len := (· == 8)
  value := fun p _ => within (u8 p 0) 0 1 && within (u8 p 1) 0 7 && within (u8 p 2) 0 7 && zeroAt p 3 5
  check := fun p s => refuseIf (decide ((ringPort s (portOf (u8 p 0))).state ≠ .stopped)) eBusy
  apply := fun c _ s => done (cfgHold (ringPortSlot (portOf (u8 c.params 0))) (slice c.params 1 7 ++ [0]) s)

/-- RING_PORT_START (0x0104) (R74). -/
def ringPortStartSpec : CmdSpec where
  opcode := 0x0104
  modes := anyMode
  len := (· == 4)
  value := fun p _ => within (u8 p 0) 0 1 && zeroAt p 1 3
  apply := fun c _ s => done (ringPortStart (portOf (u8 c.params 0)) s)

/-- RING_PORT_STOP (0x0105) (R76). -/
def ringPortStopSpec : CmdSpec where
  opcode := 0x0105
  modes := anyMode
  len := (· == 4)
  value := fun p _ => within (u8 p 0) 0 1 && zeroAt p 1 3
  check := fun p s =>
    let q := portOf (u8 p 0)
    refuseIf (printingMode s.hub.mode && !portUp s (otherPort q) && decide ((ringPort s q).state ≠ .stopped)) eBadMode
  apply := fun c _ s => done (ringPortStop (portOf (u8 c.params 0)) s)

/-! Rows -/

def execEnum (t : Time) (h : RingHdr) (fill : Bool) (next : Nat) (units : List Assigned) (s : State) :
    Host.Outcome State Fault Refusal := atTime t (takeEnum h fill next units) s

def execEnumCommit (t : Time) (h : RingHdr) (units : List Assigned) (adopt : Time) (s : State) :
    Host.Outcome State Fault Refusal :=
  atTime t (arrive h (.enumCommit units adopt) false (takeEnumCommit h units adopt)) s

def execEnumAbort (t : Time) (h : RingHdr) (status : BitVec 16) (token : BitVec 64) (s : State) :
    Host.Outcome State Fault Refusal :=
  atTime t (arrive h (.enumAbort status token) false (takeEnumAbort status token)) s

def execEnumAdopt (t : Time) (s : State) : Host.Outcome State Fault Refusal := atTime t enumAdopt s
def execEnumTimeout (t : Time) (s : State) : Host.Outcome State Fault Refusal := atTime t enumTimeout s
def execPendingAddressTimeout (t : Time) (s : State) : Host.Outcome State Fault Refusal :=
  atTime t pendingAddressTimeout s

def execLinkState (t : Time) (h : RingHdr) (eastUp westUp announced : Bool) (mode : BitVec 3) (lastValid : Time)
    (s : State) : Host.Outcome State Fault Refusal :=
  atTime t (arrive h (.linkState eastUp westUp announced mode lastValid) true
    (takeLinkState h eastUp westUp announced mode lastValid)) s

def execHopAck (t : Time) (h : RingHdr) (upTo : BitVec 16) (s : State) : Host.Outcome State Fault Refusal :=
  atTime t (takeAck h upTo) s

def execRingTime (t : Time) (h : RingHdr) (roundTrip : Nat) (offset : Int) (auto slave : Bool) (s : State) :
    Host.Outcome State Fault Refusal := atTime t (ringTime h roundTrip offset auto slave) s

def execRingTimeExchange (t : Time) (s : State) : Host.Outcome State Fault Refusal := atTime t ringTimeExchange s

def execEvt (t : Time) (h : RingHdr) (es : List Event) (s : State) : Host.Outcome State Fault Refusal :=
  atTime t (arrive h (.evt es) false (takeEvents h es)) s

def execVoid (t : Time) (h : RingHdr) (reason : BitVec 8) (ranges : List TicketRange) (s : State) :
    Host.Outcome State Fault Refusal :=
  atTime t (arrive h (.void reason ranges) false (receiveVoid h.src reason ranges)) s

def execSnap (t : Time) (h : RingHdr) (instant : Time) (s : State) : Host.Outcome State Fault Refusal :=
  atTime t (arrive h (.snap instant) false (takeSnap h instant)) s

/-- RING_PACKET_BAD: discarded and counted for its port (R70). -/
def execRingPacketBad (t : Time) (port : RingPort) (s : State) : Host.Outcome State Fault Refusal :=
  atTime t (fun s => setRingPort port { ringPort s port with crcErr := satInc 16 (ringPort s port).crcErr } s) s

def execRingPortFailed (t : Time) (port : RingPort) (lastValid : Time) (s : State) :
    Host.Outcome State Fault Refusal := atTime t (ringPortFailed port lastValid) s

def execRingPortUp (t : Time) (port : RingPort) (s : State) : Host.Outcome State Fault Refusal :=
  atTime t (ringPortUp port) s

/-- RING_REROUTE_DONE: wrapped and resent packets have been delivered (R76). -/
def execRingRerouteDone (t : Time) (s : State) : Host.Outcome State Fault Refusal := atTime t finishReroute s

end Sys2Proof.Machine
end

