-- ==== Sys2Proof/Machine/Modes.lean ====
section
/-! DEFINITION. What every block does on entry to a mode (R23 to R27), drain completion and auto-resume (R24, R26), the
boot sequence (R30, R31) and the resets (R23, R89, R355, R356). -/
namespace Sys2Proof.Machine

/-! Leaving BOOT (R33, R35, R74) -/

/-- FEATURE_ACCEPT's instant: the accepted set is in force, the epoch counts 1, both ring ports enter RUN, and boot
faults become a SAFE cause (R23, R33, R74). Ledger recovery goes on with step 2 (R235). -/
def leaveBoot (s : State) : State :=
  let boot : List CauseRec := if s.hub.bootFaults = 0 then [] else [{ bit := 6, block := 0x01, t := s.now }]
  let s := { s with
    hub := { s.hub with features := s.hub.accepted.getD 0, accepted := none, cfgCount := 1, safe := s.hub.safe ++ boot }
    rng := { s.rng with east := { s.rng.east with state := .hunt }, west := { s.rng.west with state := .hunt } } }
  recoverySeal s

/-! Entry to each mode, but for HUB's own part -/

/-- A first entry to ARMED after reset, or the first from STANDBY after a purge, is a re-base (R161). -/
def armRebase (s : State) : State :=
  if !s.esc.armedOnce || s.esc.purged then
    rebase { s with esc := { s.esc with armedOnce := true, purged := false } }
  else s

/-- STANDBY to ARMED: bar geometry enters RUN and ESC tracks the web. -/
def enterArmed (s : State) : State :=
  let s := overspeedCount (geometryRun s)
  identRecheck (escEnter 1 (armRebase s))

/-- What a completed drain leaves, before ARMED or STANDBY is entered (R24, R133, R153, R162, R269). -/
def endDrain (standby : Bool) (s : State) : State :=
  let s := if standby then releaseChanges (calRelease s) else releaseBands (calRelease s)
  let s := { s with grt := { s.grt with asm := [] } }
  escEnter (if standby then 0 else 1) (queueAfterDrain standby s)

/-- A head demand that stands at 4 stops the print at its first slot (R286). -/
def hardAtPrint (since : Time) (s : State) : State :=
  if !hardStanding s then s
  else
    let s := scheduleDrain 4 (autoDue s) (stopFiring since 1 s)
    each ((upTo 24).filter fun m => decide (4 ≤ tget 0 s.thm.headDemand m)) (fun m s =>
      let v := (moduleTemp s m).getD (0, 0)
      raiseAt since 0x3D01 0x0D (leBytes 1 m ++ leBytes 1 v.2 ++ seBytes 2 v.1 ++ stopSlotBytes s) s) s

/-- PRINT at slot P: the first page is taken from the queue's head and its first row begins (R27, R149, R178). `since`
is the validation of the entry. -/
def enterPrint (n : Int) (since : Time) (s : State) : State :=
  let p := s.esc.printSlot.getD n
  let s := if s.esc.printSlot.isNone then setupPrint p s else s
  let s := { s with esc := { s.esc with
    printSlot := some p, handled := max s.esc.handled (p - 1), fired := max s.esc.fired (p - 1) } }
  let s := escEnter 2 s
  let s := match s.mem.placing.bind (findPage s) with
    | some g =>
      if s.mem.queue.head? = some g.id then
        fixLines (scheduleTickets g (outsideEvent g s.mem.next
          { s with mem := { s.mem with queue := s.mem.queue.tail } }))
      else s
    | none => s
  let s := decisions (beginTo (max n p) s)
  let s := hardAtPrint since (lostAtPrint (max n p) s)
  if adjacentPair s then scheduleDrain 6 (autoDue s) s else s

/-- DRAIN: what has not begun is taken back, and E is set (R133, R176). -/
def enterDrain (s : State) : State := drainFrom (s.mem.begunTo - 1) (dropUnbegun s)

/-- SAFE: firing stops, tickets in PRINTING become VOID, the queue is uncommitted, held changes apply, geometry and axes
stop, and the ledger block is sealed (R25, R29, R131, R177, R269). -/
def enterSafe (old : Mode) (since : Time) (s : State) : State :=
  let s := { s with ldg := { s.ldg with reserve := true } }
  let s := if old = .print ∨ old = .drain then
      (if s.esc.state = 2 ∨ s.esc.state = 3 then safeStop since s
       else voidPrinting { cause_ (safeReason s) since with rank := 0 } s)
    else s
  let s := releaseChanges (queueAfterSafe s)
  axesSafe s

/-- ESC and geometry leave the print path (R29, R178). -/
def leavePrintPath (old : Mode) (s : State) : State :=
  if printingMode old then geometryStop (dropSchedule (escEnter 0 s)) else s

/-- Every block but HUB enters a mode. `n` is the slot whose boundary the instant is. -/
def enterBlocks (old : Mode) (t : Transition) (n : Int) (s : State) : State :=
  let s := match t.target with
    | .armed => if old = .drain then s else enterArmed s
    | .print => enterPrint n t.since s
    | .drain => enterDrain s
    | .standby =>
      if old = .drain then geometryStop s
      else if old = .armed then leavePrintPath old { s with mem := { s.mem with committed := false } }
      else s
    | .safe => leavePrintPath old s
    | _ => s
  let s := hlkTransition old t.target s
  let s := ledgerTransition t.target s
  ringModeChanged (calEnter t.target { s with ldg := { s.ldg with reserve := false } })

/-! A transition (R27) -/

/-- HUB's own state of a mode entered. -/
def hubEnter (old : Mode) (t : Transition) (s : State) : State :=
  let h := s.hub
  let keep := decide (old = .drain) && decide (t.target = .armed) && h.autoResume
    && (h.drainCause == 3 || h.drainCause == 4 || h.drainCause == 5)
  { s with
    hub := { h with
      mode := t.target, modeTime := s.now, lastCause := BitVec.ofNat 8 t.cause,
      trans := none,
      auto := none,
      drainStandby := if t.target = .drain then false else h.drainStandby,
      drainCause := if t.target = .drain then t.cause else h.drainCause,
      autoResume := if t.target = .print then t.autoResume else h.autoResume,
      resume := if keep then some { cause := h.drainCause } else none }
    esc := { s.esc with resumeRun := 0 } }

/-- EV_MODE_CHANGED, and before it EV_SAFE_ENTERED on entry to SAFE (02, Events). -/
def modeEvents (old : Mode) (t : Transition) (origin seq : Nat) (s : State) : State :=
  let s := if t.target = .safe then
      raise 0x3001 0x01 (leBytes 4 (safeWord s) ++ leBytes 1 (safeSource s) ++ leBytes 1 (modeCode old) ++ zeros 10) s
    else s
  raise 0x1001 0x01 (leBytes 1 (modeCode old) ++ leBytes 1 (modeCode t.target) ++ leBytes 1 t.cause ++ leBytes 1 origin
    ++ leBytes 2 seq ++ zeros 2 ++ leBytes 8 (cfgEpoch s)) s

/-- A transition takes effect in every block. A host transition that is overtaken is dropped, and its origin and
sequence are reported (R27). A SAFE cause that stands outside SAFE leads there again. -/
def takeTransition (t : Transition) (n : Int) (s : State) : State :=
  let old := s.hub.mode
  let lost := s.hub.trans.filter fun x => x.since ≠ t.since ∨ x.target ≠ t.target ∨ x.cause ≠ t.cause
  let who := match lost with
    | some x => (x.origin, x.seq)
    | none => (t.origin, t.seq)
  let s := if old = .boot then leaveBoot s else s
  let s := if old = .armed ∧ lost.any (fun x => x.target = .print) = true then printOvertaken s else s
  let s := if t.target = .safe ∧ t.cause ≠ 9 ∧ old ≠ .boot then
      { s with hub := { s.hub with safe := s.hub.safe ++
        (if s.hub.safe.any (fun c => c.bit = 1) then [] else [{ bit := 1, block := 0x01, t := s.now }]) } }
    else s
  let s := if t.target = .safe ∧ old ≠ .boot then enterSafe old (if t.cause = 9 then t.since else s.now) s else s
  let s := if old = .drain ∧ (t.target = .armed ∨ t.target = .standby) then endDrain (t.target = .standby) s else s
  let s := enterBlocks old t n (hubEnter old t s)
  let s := modeEvents old t who.1 who.2 s
  if s.hub.mode ≠ .safe ∧ !s.hub.safe.isEmpty then scheduleSafe s else s

/-- A transition is due: at its instant, or at a line boundary as R27 places it. `line` is the slot whose boundary this
instant is, none where it is no line boundary. A web that reaches no further boundary, or a Regulator that is OFF, lets
an automatic transition take place at once (log entry 73). -/
def transitionDue (s : State) (line : Option Int) (t : Transition) : Bool :=
  match t.due with
  | .instant i => decide (i ≤ s.now)
  | .line after => (line.isSome && decide (after < s.now)) || (encOf s (activeEnc s)).reg == 0
    || (boundaryInstant s (presentSlot s + 1)).isNone
  | .slot n => match line with
    | some m => decide (n ≤ m)
    | none => false
  | .print nb => match line with
    | some m => decide (nb ≤ s.now) && (match s.esc.printSlot with
      | some p => decide (p ≤ m)
      | none => decide (s.esc.hwm ≤ m))
    | none => false

/-- MODE_TRANSITION_INSTANT: of the transitions that are due, the automatic one into SAFE comes first, then the
automatic DRAIN, then the host's (R27). -/
def modeTransition (line : Option Int) (s : State) : State :=
  let s := if (scheduledSlot s).isNone && s.hub.mode = .armed then preparePrint s else s
  let n := line.getD (presentSlot s)
  match s.hub.auto.filter (transitionDue s line), s.hub.trans.filter (transitionDue s line) with
  | some a, _ => takeTransition a n s
  | none, some t => takeTransition t n s
  | none, none => s

/-! Drain completion and auto-resume (R24, R26) -/

/-- The drain is complete: the last line has fired and is receipted on every module, and nothing stays scheduled. -/
def drainDone (s : State) : Bool :=
  decide (s.hub.mode = .drain) && !transPending s && (match drainLast s with
    | some e => decide (e ≤ firedTo s) && receiptsHeld s e && s.esc.slots.all fun f => decide (f.n ≤ firedTo s)
    | none => true)

/-- DRAIN_COMPLETE: the drain target decides the mode entered. -/
def drainComplete (s : State) : State :=
  if drainDone s then
    takeTransition (autoTrans (if s.hub.drainStandby then .standby else .armed) (.instant s.now) 7 s.now) (presentSlot s) s
  else s

/-- The resume condition of the drain's cause (R26). -/
def resumeHolds (s : State) (cause : Nat) : Bool :=
  match cause with
  | 3 => rateOk s && decide (ticketPitch s ≤ s.esc.resumeRun)
  | 4 => headsReleased s && (match s.thm.floor with | some f => decide (f < 3) | none => true)
  | _ => webForward s && regLocked s && decide (ticketPitch s ≤ s.esc.resumeRun)

/-- One slot boundary in ARMED under a resume condition that needs a full ticket pitch. -/
def countResume (s : State) : State :=
  match s.hub.resume with
  | none => s
  | some r =>
    let ok := if r.cause = 3 then rateOk s else webForward s && regLocked s
    { s with esc := { s.esc with resumeRun := if ok then s.esc.resumeRun + 1 else 0 } }

/-- AUTO_RESUME: PRINT is scheduled by the device itself once the resume condition and R23's own hold. -/
def autoResume (s : State) : State :=
  match s.hub.resume with
  | none => s
  | some r =>
    if s.hub.mode = .armed ∧ !transPending s ∧ resumeHolds s r.cause ∧ webForward s ∧ rateOk s ∧ !s.hub.interlockOpen then
      preparePrint { s with hub := { s.hub with
        resume := none
        trans := some { target := .print, due := .print s.now, cause := 8, origin := 0, seq := 0xFFFF,
                        autoResume := s.hub.autoResume, since := s.now } } }
    else s

/-! Host watchdog (R68) -/

def wdPeriod (s : State) : Time := u16 (cfgGet s .hub) 0 * tpMs

/-- The deadline has passed: the event, and the action once as a MODE_SET of origin 3. -/
def watchdogExpiry (s : State) : State :=
  match s.hub.wdDeadline with
  | none => s
  | some d =>
    if s.now < d then s
    else
      let action := u8 (cfgGet s .hub) 2
      let s := { s with hub := { s.hub with wdDeadline := none } }
      let r : Verdict × State :=
        if action = 0 ∨ (action = 1 ∧ s.hub.mode ≠ .print) then ((eBadMode, []), s)
        else requestMode (if action = 1 then .drain else .safe) false 0 3 0xFFFF s
      let result := if action = 0 then 0 else if r.1.1 = eOk ∨ r.1.1 = ePending then 1 else 2
      raise 0x2003 0x01 (leBytes 2 (u16 (cfgGet s .hub) 0) ++ leBytes 1 action ++ leBytes 1 result
        ++ timeBytes s.hub.wdLast) r.2

/-- HOST_HEARTBEAT: the deadline moves; a write stamped at the deadline is late (R10). -/
def heartbeat (s : State) : State :=
  let s := watchdogExpiry s
  if wdPeriod s = 0 then s
  else { s with hub := { s.hub with wdDeadline := some (s.now + wdPeriod s), wdLast := s.now } }

/-! Interlock (R365) -/

/-- INTERLOCK_OPEN: confirmed 10 µs after its first sample, which is the cause's timestamp. -/
def interlockOpens (since : Time) (s : State) : State :=
  if s.hub.interlockOpen ∨ s.now < since + 10 * tpUs then s
  else raiseSafeAt since 0 0x01 { s with hub := { s.hub with interlockOpen := true } }

/-- INTERLOCK_CLOSE: closed for 10 ms. -/
def interlockCloses (since : Time) (s : State) : State :=
  if s.now < since + 10 * tpMs then s
  else clearSafe 0 0x01 { s with hub := { s.hub with interlockOpen := false } }

/-! Boot (R30, R31, R336, R339) -/

/-- EV_BOOT_COMPLETE in READY or FAILED. -/
def bootComplete (s : State) : State :=
  raise 0x1002 0x01 (leBytes 1 (bootCode s.hub.bootState) ++ leBytes 1 (b2n s.mss.activeB)
    ++ leBytes 2 s.hub.bootFaults.toNat ++ leBytes 4 s.nvm.bootCount.toNat ++ leBytes 4 (s.now / tpMs)
    ++ leBytes 2 s.hub.bistFailed.toNat ++ zeros 2) s

def bootEnter (b : BootState) (s : State) : State := { s with hub := { s.hub with bootState := b } }

def bootFail (s : State) : State := bootComplete (bootEnter .failed s)

/-- A boot fault (R31). -/
def bootFault (n : Nat) (s : State) : State :=
  { s with hub := { s.hub with bootFaults := s.hub.bootFaults ||| BitVec.ofNat 16 (2 ^ n) } }

/-- A step that belongs to one boot state. -/
def inBoot (b : BootState) (f : State → State) (s : State) : State :=
  if s.hub.mode = .boot ∧ s.hub.bootState = b then f s else s

/-- A random number generator test fails: EV_MSS_TRNG is raised, and no key or nonce is drawn (R333). -/
def trngBoot (ok : Bool) (s : State) : State :=
  if ok then s
  else raise 0x3F02 0x0F (leBytes 1 1 ++ zeros 15) { s with mss := { s.mss with trngFailed := true } }

/-- ROM_DONE. -/
def romDone (rngOk : Bool) (s : State) : State := inBoot .rom (fun s => bootEnter .image (trngBoot rngOk s)) s

/-- Why an image slot fails in boot state IMAGE: 0 none, else the reason of EV_BOOT_SLOT_FALLBACK. -/
def imageReason (s : State) (b : Bool) (reason : Nat) : Nat :=
  let i := slotOf s b
  if reason ≠ 0 then reason
  else if !i.present || !i.verifies || !passesOtp s.nvm.minSecurity s.nvm.rootRevoke.toNat i then 1 else 0

/-- IMAGE_DONE: the preferred slot is loaded, or the other, or the boot fails (R336). A board may have written slot A
while the device was held or in FAILED. SELFTEST then begins with HUB's test of itself (R31). -/
def imageDone (reasonA reasonB : Nat) (board : Option ImageSlot) (hubOk : Bool) (s : State) : State :=
  inBoot .image (fun s =>
    let s := match board with
      | some i => setSlot false i s
      | none => s
    let pref := s.nvm.preferredB
    let why (b : Bool) : Nat := imageReason s b (if b then reasonB else reasonA)
    let load (b : Bool) (s : State) : State :=
      let s := bootEnter .selftest { s with mss := { s.mss with activeB := b } }
      if hubOk then s else bootFail { s with hub := { s.hub with dead := true } }
    if why pref = 0 then load pref s
    else
      let s1 := raise 0x2001 0x01 (leBytes 1 (b2n pref) ++ leBytes 1 (why pref) ++ zeros 14) s
      if why (!pref) = 0 then load (!pref) s1 else bootFail s1) s

/-- SELFTEST_DONE: blocks that failed built-in test; HUB or MSS among them ends the boot (R31). -/
def selftestDone (failed : BitVec 16) (s : State) : State :=
  inBoot .selftest (fun s =>
    let blocks := failed &&& 0x7FFC
    let s := { s with hub := { s.hub with bistFailed := blocks, tested := true, dead := bit failed.toNat 1 } }
    let s := if blocks = 0 then s else bootFault 0 s
    if bit failed.toNat 1 || bit failed.toNat 15 then bootFail s else bootEnter .nvm s) s

/-- NVM_CHECK_DONE: the mirrors are compared, corrections restored (R270, R339). -/
def nvmCheckDone (ok0 ok1 : Bool) (s : State) : State :=
  inBoot .nvm (fun s =>
    let r := onBothDevices ok0 ok1 1 s
    let s := if r.1 then restoreCorrections r.2 else bootFault 2 r.2
    bootEnter .dram s) s

/-- DRAM_INIT_DONE: initialisation and the delay set of the present die band (R30, R135, R138). -/
def dramInitDone (ok : Bool) (s : State) : State :=
  inBoot .dram (fun s =>
    let d := cfgGet s .dram
    let s := if ok && descOk d && capacityOk d then
        let b := s.thm.dieBand
        let s := { s with
          nvm := { s.nvm with delaySets := s.nvm.delaySets ||| BitVec.ofNat 6 (2 ^ b) }
          mem := { s.mem with bandUsed := [((0, 0), b), ((0, 1), b), ((1, 0), b), ((1, 1), b)] } }
        recordDelaySet b s
      else bootFault 1 { s with cfg := cfgPut s .dram (zeros 8) }
    bootEnter .recovery s) s

/-- RECOVERY_DONE: ledger recovery step 1, and READY (R235). -/
def recoveryDone (s : State) : State :=
  inBoot .recovery (fun s => bootComplete (bootEnter .ready (ledgerRecover s))) s

/-! Resets (R23, R89, R355, R356) -/

/-- Every block in its reset state: what NVM, the always-on register and the model's own records hold stays. -/
def cleared (s : State) : State :=
  { State.reset with
    nvm := s.nvm, cfg := if s.nvm.dram = zeros 8 then [] else [(.dram, s.nvm.dram)],
    link := { s.link with downCount := 0 },
    freeCtr := s.freeCtr, out := s.out, pending := s.pending }

/-- A die or supply shutdown sequence in progress completes across any reset but power-on reset (R288, R373). -/
def keepShutdown (old s : State) : State :=
  match old.mss.shutdown with
  | some (c, _) => if c = 1 ∨ c = 2 then { s with mss := { s.mss with shutdown := some (c, 0) } } else s
  | none => s

/-- Reset is asserted and held. -/
def assertReset (s : State) : State :=
  let s := cleared s
  { s with hub := { s.hub with inReset := true } }

/-- The release of a reset that takes the device to BOOT: device time is 0, and MSS counts the boot (R35, R89). -/
def boots (s : State) : State :=
  let s := cleared s
  { s with nvm := { s.nvm with bootCount := s.nvm.bootCount + 1 } }

/-- POWER_ON_RESET: a supply below 90 % or the first rise of the supplies; it ends a power-down. -/
def powerOnReset (s : State) : State := assertReset s

/-- RESET_N_LOW: a power-on reset; a shutdown sequence that is running completes first (R373). -/
def resetNLow (s : State) : State :=
  match s.mss.shutdown with
  | some (c, _) => if (c = 1 ∨ c = 2) ∧ !s.mss.coreOff then s else assertReset s
  | none => assertReset s

/-- POWER_ON_RESET_RELEASE and PERST_RELEASE. -/
def releaseReset (s : State) : State := if s.hub.inReset then keepShutdown s (boots s) else s

/-- PERST: ignored while core power is removed (R288). -/
def perst (s : State) : State := if s.mss.coreOff then s else keepShutdown s (assertReset s)

/-- DEVICE_RESET_EXECUTE: 1 ms after the reply. -/
def deviceReset (s : State) : State :=
  match s.hub.resetAt with
  | some t => if t ≤ s.now ∧ alive s then keepShutdown s (boots s) else s
  | none => s

/-- LOCKSTEP_RESET: 2 ms after a lockstep mismatch or the expiry of the MSS watchdog (R328, R329). -/
def lockstepReset (s : State) : State :=
  match s.mss.shutdown with
  | some (c, t0) => if (c = 3 ∨ c = 4) ∧ t0 + 2 * tpMs ≤ s.now ∧ alive s then boots s else s
  | none => s

/-- CORE_RESTART: after a supply collapse the core boots as at power-on reset (R344). -/
def coreRestart (s : State) : State :=
  match s.mss.shutdown with
  | some (c, _) => if c = 2 ∧ s.mss.coreOff then boots s else s
  | none => s

end Sys2Proof.Machine
end

