-- ==== Sys2Proof/Machine/WebSteps.lean ====
section
/-! DEFINITION. The steps that the web drives through every block (06, 09): counts, indexes, causes, standstill, and the
boundaries of lines and slots; and the encoder commands with the re-base they bring (R161). -/
namespace Sys2Proof.Machine

/-- What follows a step of ENC: the Escapement follows the active Regulator, and CAL goes on. -/
def webFollow (f : State → State) (s : State) : State := calStep (followRegulator s (f s))

/-- A step of the web. -/
def atWeb (t : Time) (f : State → State) (s : State) : Host.Outcome State Fault Refusal := atPrint t (webFollow f) s

/-- What a count of the active encoder brings for the Escapement: the overspeed machine (R173), the reversal stop (R175)
and test A (R169), in the order of R27 and R179. -/
def escCount (wasReversed : Bool) (s : State) : State :=
  let s := overspeedCount s
  let s := if !wasReversed && webReversed s then reverseStop s else s
  testA s

/-- ENCODER_COUNT: a transition of A or B, valid or not (R107, R108). -/
def encoderCount (x : Nat) (reverse valid : Bool) (s : State) : State :=
  if !encEnabled s x then s
  else if !valid then quadError x s
  else
    let was := webReversed s
    let s1 := calCount x (countEncoder x reverse s)
    if x = activeEnc s then escCount was (followRegulator s s1) else s1

def execEncoderCount (t : Time) (x : Fin 2) (reverse valid : Bool) (s : State) : Host.Outcome State Fault Refusal :=
  atWeb t (encoderCount x.val reverse valid) s

def execEncoderIndex (t : Time) (x : Fin 2) (s : State) : Host.Outcome State Fault Refusal :=
  atWeb t (encoderIndex x.val) s

def execReceiverFault (t : Time) (x : Fin 2) (s : State) : Host.Outcome State Fault Refusal :=
  atWeb t (receiverFault x.val) s

def execEncoderCauseClear (t : Time) (x : Fin 2) (cause : Fin 6) (s : State) : Host.Outcome State Fault Refusal :=
  atWeb t (encoderCauseClear x.val cause.val) s

/-- STANDSTILL_DECLARED (R112). -/
def execStandstillDeclared (t : Time) (x : Fin 2) (s : State) : Host.Outcome State Fault Refusal :=
  atWeb t (settleStandstill x.val true) s

def execAgreementMsCheck (t : Time) (s : State) : Host.Outcome State Fault Refusal := atWeb t agreementMsCheck s

/-! Slot boundaries (R119, R120, R161, R162, R169, R173) -/

/-- One boundary of the qualifying run (R173). -/
def countQualify (s : State) : State :=
  if s.esc.overspeed = 2 then
    { s with esc := { s.esc with qualify := if rateAtLeast s 97 then 0 else s.esc.qualify + 1 } }
  else s

/-- Slot n's boundary, n above the high-water mark: rows begin, test B is made, and the qualifying and resume runs go
on. -/
def slotReached (n : Int) (s : State) : State :=
  let s := { s with esc := { s.esc with hwm := n } }
  let s := when_ (s.hub.mode = .armed) countResume (countQualify s)
  testB (calBoundary n (beginTo n s))

/-- SLOT_BOUNDARY: q reaches the whole number n. The switch that waits takes effect and the agreement check is made at
every such boundary; a boundary at or below the high-water mark is no slot (R162). -/
def slotBoundary (n : Int) (s : State) : State :=
  let s := encoderSwitchover n s
  let s := if s.esc.hwm < n then slotReached n s else s
  agreementCheck s

def execSlotBoundary (t : Time) (n : Int) (s : State) : Host.Outcome State Fault Refusal := atWeb t (slotBoundary n) s

/-! The commands that re-base (R161) -/

/-- A command of ENC with what the Escapement does for it: a re-base where it was applied to the active encoder, and
else what any change of the active Regulator brings. -/
def rebasing (d : CmdSpec) (active : Bytes → State → Bool) : CmdSpec :=
  { d with apply := fun c a s =>
      let r := d.apply c a s
      (r.1, if active c.params s then rebase (followRegulator s r.2) else followRegulator s r.2) }

/-- ENC_INPUT_SET with its re-base. -/
def encInputSetRow : CmdSpec := rebasing encInputSetSpec fun p s => u8 p 0 == activeEnc s

/-- REGULATOR_SET with its re-base: it is applied to every enabled encoder. -/
def regulatorSetRow : CmdSpec := rebasing regulatorSetSpec fun _ s => encEnabled s (activeEnc s)

/-- ENC_ACTIVE_SET with its re-base. -/
def encActiveSetRow : CmdSpec := rebasing encActiveSetSpec fun _ _ => true

end Sys2Proof.Machine
end

