-- ==== Sys2Proof/Machine/Bar0.lean ====
section
/-! DEFINITION. The host interface's registers (03): ring configuration, enabling and errors, doorbells, interrupts and
their masks, the PCI Express link and function, and the device heartbeat. -/
namespace Sys2Proof.Machine

/-! The three rings (R43, R44, R46) -/

/-- The three rings with the codes of EV_QUEUE_ERROR. -/
inductive RingSel where
  | cmd | rpl | evt
  deriving DecidableEq, Repr

def ringCodeOf : RingSel → Nat
  | .cmd => 0 | .rpl => 1 | .evt => 2

def ringRegs (s : State) : RingSel → RingRegs
  | .cmd => s.bar0.cmd
  | .rpl => s.bar0.rpl
  | .evt => s.bar0.evt

def setRing (g : RingSel) (v : RingRegs) (s : State) : State :=
  match g with
  | .cmd => { s with bar0 := { s.bar0 with cmd := v } }
  | .rpl => { s with bar0 := { s.bar0 with rpl := v } }
  | .evt => { s with bar0 := { s.bar0 with evt := v } }

/-- Bytes of one entry. -/
def entryBytes : RingSel → Nat
  | .evt => 32
  | _ => 64

/-- A permitted size: a power of two in the ring's range (R41). -/
def sizeOk (g : RingSel) (n : Nat) : Bool :=
  match g with
  | .evt => (upTo 9).any fun i => n == 64 * 2 ^ i
  | _ => (upTo 8).any fun i => n == 32 * 2 ^ i

/-- Why a ring may not be enabled, as a queue error code (R46). -/
def enableError (g : RingSel) (s : State) : Option Nat :=
  let r := ringRegs s g
  if r.base.toNat % 4096 ≠ 0 then some 1
  else if !sizeOk g r.size.toNat then some 2
  else if g = .cmd ∧ !ringUsable s.bar0.rpl then some 5
  else none

/-- A ring enters the error state: EV_QUEUE_ERROR, but for the Event Ring's own, and source 4. Commands not begun have
no effect (R46). -/
def ringError (g : RingSel) (code : Nat) (s : State) : State :=
  let r := ringRegs s g
  let s := setRing g { r with error := true, code := BitVec.ofNat 8 code } s
  let s := if g = .cmd then { s with bar0 := { s.bar0 with placed := [] } } else s
  let detail := leBytes 1 (ringCodeOf g) ++ leBytes 1 code ++ zeros 2 ++ leBytes 4 r.idx
    ++ leBytes 8 (r.base.toNat + entryBytes g * r.idx)
  let s := if g = .evt then
      logEvent { code := 0x3002, block := 0x01, unit := s.rng.address, time := s.now, detail := detail } s
    else raise 0x3002 0x01 detail s
  countEntry 4 s

/-- What waits on chip for a ring leaves. -/
def flushRings (s : State) : State := flushEvents (flushReplies s)

/-- Enable is written as 1 (R44). -/
def enableRing (g : RingSel) (s : State) : State :=
  let r := ringRegs s g
  if r.enabled ∨ r.error then setRing g { r with ctrl := true } s
  else match enableError g s with
    | some code => ringError g code (setRing g { r with ctrl := true } s)
    | none =>
      let s := setRing g { r with
        ctrl := true, enabled := true, code := 0, idx := 0, other := 0, phase := g ≠ .cmd } s
      flushRings (if g = .cmd then { s with bar0 := { s.bar0 with placed := [] } } else s)

/-- Enable is written as 0: the ring stops, and with the Reply Ring the Command Ring. An error ends with it (R44, R46;
log entry 75). -/
def disableRing (g : RingSel) (s : State) : State :=
  let off (r : RingRegs) : RingRegs := { r with ctrl := false, enabled := false, error := false, code := 0 }
  let s := setRing g (off (ringRegs s g)) s
  match g with
  | .evt => s
  | .cmd => { s with bar0 := { s.bar0 with placed := [] } }
  | .rpl => { s with bar0 := { s.bar0 with placed := [], cmd := { s.bar0.cmd with enabled := false } } }

/-! Doorbells (R43, R46) -/

/-- RPL_HEAD_DB and EVT_HEAD_DB: the host has consumed entries up to an index. -/
def headDoorbell (g : RingSel) (v : BitVec 32) (s : State) : State :=
  let r := ringRegs s g
  if !ringUsable r then s
  else
    let n := r.size.toNat
    if n ≤ v.toNat ∨ inUse n r.idx r.other < inUse n v.toNat r.other then ringError g 3 s
    else flushRings (setRing g { r with other := v.toNat } s)

/-- CMD_TAIL_DB: a new tail; reading the entries before it may fail. -/
def tailDoorbell (v : BitVec 32) (readFails : Bool) (s : State) : State :=
  let r := s.bar0.cmd
  if !ringUsable r then s
  else if r.size.toNat ≤ v.toNat then ringError .cmd 3 s
  else
    let s := setRing .cmd { r with other := v.toNat } s
    if readFails ∧ v.toNat ≠ r.idx then ringError .cmd 4 s else s

/-! Interrupts (R62) -/

/-- Messages whose pending bit is set leave where their vector is no longer masked. -/
def flushVectors (s : State) : State :=
  let go := s.bar0.pba.reverse.filter fun v => !vectorMasked s v
  if !dmaOk s then s
  else each go (fun v s => send (.msix v) { s with bar0 := { s.bar0 with pba := s.bar0.pba.filter (· ≠ v) } }) s

/-- A source that is enabled sends what it kept pending. -/
def flushSource (n : Nat) (s : State) : State :=
  if s.bar0.srcPending.contains n && bit (intMapOf s n) 8 then
    sendMessage n { s with bar0 := { s.bar0 with srcPending := s.bar0.srcPending.filter (· ≠ n) } }
  else s

/-- MSI_X_UNMASK: a vector's mask bit is cleared, or a source's enable is set. -/
def unmask (u : Unmask) (s : State) : State :=
  match u with
  | .vector v =>
    let k := 4 * v.val + 3
    flushVectors { s with bar0 := { s.bar0 with msix := tset s.bar0.msix k (tget 1 s.bar0.msix k &&& ~~~1) } }
  | .source n =>
    flushSource n.val { s with bar0 := { s.bar0 with
      intMap := tset s.bar0.intMap n.val (tget 0 s.bar0.intMap n.val ||| 0x100) } }

/-- COALESCE_TIMEOUT: the oldest entry of a source has waited its time. -/
def coalesceTimeout (n : Nat) (s : State) : State :=
  let c := tget {} s.bar0.sources n
  if n < 3 ∧ 0 < c.count ∧ c.oldest + coalTime s n ≤ s.now then
    sendMessage n { s with bar0 := { s.bar0 with sources := tset s.bar0.sources n {} } }
  else s

/-- Reset value of a dword of the MSI-X table: the mask bit is set in every vector control word (R41). -/
def msixReset (k : Nat) : BitVec 32 := if k % 4 = 3 then 1 else 0

def msixWord (s : State) (k : Nat) : BitVec 32 := tget (msixReset k) s.bar0.msix k

/-- A dword of the MSI-X table is written; the reserved bits of vector control stay 0. -/
def writeMsix (k : Nat) (v : BitVec 32) (s : State) : State :=
  let v := if k % 4 = 3 then v &&& 1 else if k % 4 = 0 then v &&& ~~~3 else v
  flushVectors { s with bar0 := { s.bar0 with msix := tset s.bar0.msix k v } }

/-! Register access (R41, R42) -/

/-- BASE lower half, upper half and SIZE of a ring, by their place in its group; discarded while it is enabled. -/
def writeRing (g : RingSel) (word : Nat) (v : BitVec 32) (s : State) : State :=
  let r := ringRegs s g
  match word with
  | 0 => if r.enabled then s else setRing g { r with baseLow := some v } s
  | 1 =>
    if r.enabled then s
    else setRing g { r with base := v ++ (r.baseLow.getD (r.base.truncate 32)), baseLow := none } s
  | 2 => if r.enabled then s else setRing g { r with size := v } s
  | 3 => if bit v.toNat 0 then enableRing g s else disableRing g s
  | _ => s

/-- One aligned 32-bit write, but for the effects of the heartbeat register and of waiting commands. -/
def write32 (off : Nat) (v : BitVec 32) (s : State) : State :=
  if 0x8000 ≤ off ∧ off < 0x8400 then writeMsix ((off - 0x8000) / 4) v s
  else if 0x3000 ≤ off ∧ off < 0x3014 then
    let n := (off - 0x3000) / 4
    flushSource n { s with bar0 := { s.bar0 with intMap := tset s.bar0.intMap n (v &&& 0x13F) } }
  else if off = 0x3020 then { s with bar0 := { s.bar0 with coalReply := v &&& 0x03FF00FF } }
  else if off = 0x3024 then { s with bar0 := { s.bar0 with coalEvent := v &&& 0x03FF00FF } }
  else if off = 0x2000 then tailDoorbell v false s
  else if off = 0x2004 then headDoorbell .rpl v s
  else if off = 0x2008 then headDoorbell .evt v s
  else if off = 0x200C then heartbeat s
  else if 0x1000 ≤ off ∧ off < 0x1010 then writeRing .cmd ((off - 0x1000) / 4) v s
  else if 0x1100 ≤ off ∧ off < 0x1110 then writeRing .rpl ((off - 0x1100) / 4) v s
  else if 0x1200 ≤ off ∧ off < 0x1210 then writeRing .evt ((off - 0x1200) / 4) v s
  else s

/-- A write of 4 or 8 bytes, aligned to its size; every other is discarded. -/
def registerWrite (off size : Nat) (v : BitVec 64) (s : State) : State :=
  if size = 4 ∧ off % 4 = 0 then write32 off (v.truncate 32) s
  else if size = 8 ∧ off % 8 = 0 then write32 (off + 4) ((v >>> 32).truncate 32) (write32 off (v.truncate 32) s)
  else s

/-- STATUS of a ring. -/
def ringStatus (phase : Bool) (r : RingRegs) : BitVec 32 :=
  BitVec.ofNat 32 (b2n r.enabled + 2 * b2n r.error + (if phase then 4 * b2n r.phase else 0) + 256 * r.code.toNat)

/-- A pending bit of the PBA: of a masked vector, or of the vector of a disabled source. -/
def pbaBit (s : State) (v : Nat) : Bool :=
  s.bar0.pba.contains v || s.bar0.srcPending.any fun n => bits (intMapOf s n) 5 0 == v

/-- A ring's registers as they read. -/
def readRing (s : State) (g : RingSel) (word : Nat) : BitVec 32 :=
  let r := ringRegs s g
  match word with
  | 0 => r.base.truncate 32
  | 1 => (r.base >>> 32).truncate 32
  | 2 => r.size
  | 3 => BitVec.ofNat 32 (b2n r.ctrl)
  | 4 => BitVec.ofNat 32 r.idx
  | 5 => ringStatus (g ≠ .cmd) r
  | _ => 0

/-- The 32-bit word that BAR0 reads at an offset (R41). Write-only registers and reserved offsets read 0. -/
def bar0Read (s : State) (off : Nat) : BitVec 32 :=
  if off = 0 then 1
  else if 0x8000 ≤ off ∧ off < 0x8400 then msixWord s ((off - 0x8000) / 4)
  else if off = 0x9000 ∨ off = 0x9004 then BitVec.ofNat 32 (maskOf 32 fun i => pbaBit s (i + 8 * (off - 0x9000)))
  else if 0x3000 ≤ off ∧ off < 0x3014 then tget 0 s.bar0.intMap ((off - 0x3000) / 4)
  else if off = 0x3020 then s.bar0.coalReply
  else if off = 0x3024 then s.bar0.coalEvent
  else if 0x1000 ≤ off ∧ off < 0x1018 then readRing s .cmd ((off - 0x1000) / 4)
  else if 0x1100 ≤ off ∧ off < 0x1118 then readRing s .rpl ((off - 0x1100) / 4)
  else if 0x1200 ≤ off ∧ off < 0x1218 then readRing s .evt ((off - 0x1200) / 4)
  else 0

/-! The link and the function (R39, R40) -/

/-- What waited while the host could not be reached leaves. -/
def hostReturns (s : State) : State := if dmaOk s then flushVectors (flushRings s) else s

/-- EV_PCIE_LINK. The event of a loss waits in the buffer, as no event can be written, and so is written when the link
returns. -/
def linkEvent (up : Bool) (s : State) : State :=
  raise 0x2004 0x01 (leBytes 1 (b2n up) ++ leBytes 1 s.link.gen ++ leBytes 1 s.link.width ++ [0]
    ++ leBytes 4 s.link.downCount ++ zeros 8) s

/-- LINK_DOWN: DMA stops, and page loads in progress fail. -/
def linkDown (s : State) : State :=
  if !s.link.up then s
  else failLoads (linkEvent false { s with link := { s.link with up := false, downCount := s.link.downCount + 1 } })

/-- LINK_UP: the link has trained at a rate and width. -/
def linkUp (gen width : Nat) (s : State) : State :=
  let was := s.link.up
  let s := hostReturns { s with link := { s.link with up := true, gen := gen, width := width } }
  if was then s else linkEvent true s

/-- Bus Master Enable or the power state changes: as for link down while DMA cannot be done. -/
def hostAccess (busMaster d3hot : Bool) (s : State) : State :=
  let was := dmaOk s
  let s := { s with link := { s.link with busMaster := busMaster, d3hot := d3hot } }
  if was && !dmaOk s then failLoads s else hostReturns s

/-- FUNCTION_LEVEL_RESET: rings, interrupt settings and the MSI-X table are at reset. Commands not begun are dropped;
replies of those begun are discarded. The mode, the settings and the host watchdog go on. -/
def functionReset (s : State) : State :=
  let b := s.bar0
  let quiet : CoordTxn → CoordTxn := fun t => { t with silent := true }
  failLoads { s with
    bar0 := { buffer := b.buffer, lostInfo := b.lostInfo, lostWarn := b.lostWarn, lostFault := b.lostFault }
    rng := { s.rng with relays := [], coords := s.rng.coords.map quiet } }

/-! The device heartbeat (R64, R67) and the events that wait for their millisecond -/

/-- DEV_HEARTBEAT counts from SELFTEST on. -/
def heartbeatCounts (s : State) : Bool :=
  match s.hub.mode, s.hub.bootState with
  | .boot, .rom => false
  | .boot, .image => false
  | .boot, .failed => s.hub.tested
  | _, _ => true

/-- Events limited to one per millisecond whose time has come report what has gathered. -/
def flushRates (s : State) : State :=
  let s := revokeReport 0 0 0 (missedEvent 0 0 0 s)
  let s := each (presentModules s) (fun m s => droppedEvent m 0 0 0 (lineErrEvents m 0 0 0 (lateEvent m 0 0 s))) s
  let s := each s.ldg.voidRate (fun e s => voidReport e.1 0 0 0 s) s
  each cameraList (fun c s => lineErrReport c 0 0 s) s

/-- DEV_HEARTBEAT_TICK: a whole millisecond of device time. -/
def heartbeatTick (s : State) : State :=
  let ms := s.now / tpMs
  let s := if heartbeatCounts s ∧ s.hub.heartbeatMs < ms then
      { s with hub := { s.hub with heartbeat := s.hub.heartbeat + 1, heartbeatMs := ms } }
    else { s with hub := { s.hub with heartbeatMs := max s.hub.heartbeatMs ms } }
  flushRates s

def execCoalesceTimeout (t : Time) (source : Fin 5) (s : State) : Host.Outcome State Fault Refusal :=
  atTime t (coalesceTimeout source.val) s

def execMsiXUnmask (t : Time) (u : Unmask) (s : State) : Host.Outcome State Fault Refusal := atTime t (unmask u) s

def execDevHeartbeatTick (t : Time) (s : State) : Host.Outcome State Fault Refusal :=
  atPrint t (fun s => calStep (heartbeatTick s)) s

def execHostHeartbeat (t : Time) (v : BitVec 32) (s : State) : Host.Outcome State Fault Refusal :=
  let _ := v
  atPrint t heartbeat s

def execEvtHeadDb (t : Time) (v : BitVec 32) (s : State) : Host.Outcome State Fault Refusal :=
  atTime t (headDoorbell .evt v) s

def execEvtRingEnable (t : Time) (s : State) : Host.Outcome State Fault Refusal := atTime t (enableRing .evt) s
def execEvtRingDisable (t : Time) (s : State) : Host.Outcome State Fault Refusal := atTime t (disableRing .evt) s
def execCmdRingDisable (t : Time) (s : State) : Host.Outcome State Fault Refusal := atTime t (disableRing .cmd) s
def execRplRingDisable (t : Time) (s : State) : Host.Outcome State Fault Refusal := atTime t (disableRing .rpl) s
def execCmdRingEnable (t : Time) (s : State) : Host.Outcome State Fault Refusal := atTime t (enableRing .cmd) s
def execLinkDown (t : Time) (s : State) : Host.Outcome State Fault Refusal := atPrint t linkDown s
def execFunctionLevelReset (t : Time) (s : State) : Host.Outcome State Fault Refusal := atPrint t functionReset s

end Sys2Proof.Machine
end

