-- ==== Sys2Proof/Machine/Flags.lean ====
section
/-! DEFINITION. The status words of every block with the snapshot sets they belong to (R38, R88, R106, R125, R142, R160,
R181, R214, R239, R263, R276, R291, R312, R327, R349), and the output pins (R364). -/
namespace Sys2Proof.Machine

/-- A status word: its offset in the block's page, whether a snapshot latches it, and its bytes. -/
structure StatusWord where
  off : Nat
  latched : Bool
  bytes : Bytes
  deriving DecidableEq, Repr

/-- An unsigned word of `n` bytes. -/
def uword (n off : Nat) (latched : Bool) (v : Nat) : StatusWord := { off := off, latched := latched, bytes := leBytes n v }

/-- A signed word of `n` bytes. -/
def sword (n off : Nat) (latched : Bool) (v : Int) : StatusWord := { off := off, latched := latched, bytes := seBytes n v }

def tword (off : Nat) (latched : Bool) (t : Time) : StatusWord := { off := off, latched := latched, bytes := timeBytes t }

def bword (off : Nat) (latched : Bool) (b : Bytes) : StatusWord := { off := off, latched := latched, bytes := b }

/-- A slot or line number as an unsigned word reads it: 0 where there is none yet. -/
def lineWord (off : Nat) (latched : Bool) (n : Int) : StatusWord := uword 8 off latched n.toNat

/-- A value that saturates at its width. -/
def sat (w v : Nat) : Nat := min v (2 ^ w - 1)

/-- A signed value that saturates at its width. -/
def satS (w : Nat) (v : Int) : Int := clampI (-(2 ^ (w - 1))) (2 ^ (w - 1) - 1) v

/-! HUB (R38) -/

/-- HUB_FUNC_STATE, by the bits of the function table. -/
def funcState (s : State) : Nat :=
  maskOf 4 (camRun s) + 16 * b2n (viewRun s) + 32 * b2n (axisRun s 0) + 64 * b2n (axisRun s 1)
    + 128 * b2n (decide (s.rng.east.state ≠ .stopped)) + 256 * b2n (decide (s.rng.west.state ≠ .stopped))
    + 512 * b2n s.grt.run

/-- The transition that HUB_MODE shows as pending. -/
def shownTransition (s : State) : Option Transition :=
  if autoFree s then s.hub.trans.orElse fun _ => if autoScheduled s then s.hub.auto else none else s.hub.auto

def hubModeWord (s : State) : Nat :=
  let p := shownTransition s
  let target : Nat := match p with
    | some t => modeCode t.target
    | none => 0
  modeCode s.hub.mode + 8 * target + 64 * b2n p.isSome + 128 * b2n s.hub.drainStandby + 256 * bootCode s.hub.bootState

def hubWords (s : State) : List StatusWord := [
  uword 4 0x000 true (hubModeWord s),
  uword 4 0x004 true (funcState s),
  uword 4 0x008 true (safeWord s),
  uword 4 0x00C false s.hub.lastCause.toNat,
  bword 0x010 false (featureBytes s),
  uword 8 0x020 true (cfgEpoch s),
  tword 0x028 false s.hub.modeTime,
  bword 0x040 true (cfgDigest s)]

/-! MER (R106) -/

def ptpWord (off : Nat) (d : PtpDomain) : StatusWord :=
  bword off true (leBytes 1 (d.state % 16 + 16 * b2n (decide (d.state = 9))) ++ [d.clockClass] ++ leBytes 2 d.stepsRemoved.toNat
    ++ leBytes 2 d.utcOffset.toNat ++ [d.accuracy, 0] ++ leBytes 8 d.grandmaster.toNat ++ seBytes 8 d.pathDelay
    ++ leBytes 4 d.syncs.toNat ++ leBytes 2 (sat 16 d.announceTimeouts) ++ zeros 2)

/-- A domain's offset, 0 unless it is in UNCALIBRATED or SLAVE. -/
def shownOffset (d : PtpDomain) : Int := if d.state = 8 ∨ d.state = 9 then d.offset else 0

def merSourceWord (s : State) : Nat :=
  s.mer.source % 4 + 4 * b2n s.mer.holdover + 8 * b2n s.mer.slewing
    + 16 * b2n (decide (s.mer.master ≠ 0) && decide (s.mer.master = s.rng.address)) + 32 * b2n (policyFree s)
    + 64 * b2n (policyFree s && ringTimed s)

/-- Index of the window in progress, a boundary at this instant counted as crossed. -/
def windowIndex (s : State) (g : Nat) : Int :=
  let w := windowOf (windowBoundary g s) g
  if w.enabled then w.index else 0

def merWords (s : State) : List StatusWord := [
  tword 0x000 true s.now,
  uword 4 0x00C true (merSourceWord s),
  sword 4 0x010 true s.mer.rate,
  sword 4 0x014 false (if s.mer.slewing then satS 32 (truncDiv (sourceOffset s s.mer.source) tpNs) else 0),
  sword 8 0x018 true (shownOffset s.mer.ptpA),
  sword 8 0x020 true (shownOffset s.mer.ptpB),
  sword 4 0x028 true (if s.mer.source = 3 then s.mer.ringOffset else 0),
  uword 4 0x02C false (s.mer.islandWorst.toNat + 2 ^ 16 * s.mer.islandBlock.toNat),
  ptpWord 0x040 s.mer.ptpA,
  ptpWord 0x060 s.mer.ptpB,
  uword 4 0x080 false s.mer.snaps.length,
  uword 4 0x084 false (sat 16 s.mer.snapIn + 2 ^ 16 * sat 16 s.mer.snapInIgnored),
  tword 0x088 false ((s.mer.snaps.map (·.t)).headD 0),
  uword 4 0x094 false (b2n s.mer.linkUp0 + 2 * b2n s.mer.linkUp1),
  uword 4 0x098 false (sat 16 s.mer.drop0 + 2 ^ 16 * sat 16 s.mer.drop1)]
  ++ (upTo 8).map fun g => sword 8 (0x0A0 + 8 * g) true (windowIndex s g)

/-! ENC (R125) -/

def encStateWord (s : State) (x : Nat) : Nat :=
  let e := encOf s x
  let st := if !encEnabled s x then 0 else if e.causes.isEmpty then 1 else 2
  st + 4 * b2n e.reverse + 8 * b2n e.referenced + 16 * b2n (indexUnverified s x) + 32 * b2n s.enc.agree
    + 256 * maskOf 6 fun i => e.causes.any fun c => c.1 = i

def encoderWords (s : State) (x : Nat) : List StatusWord :=
  let e := encOf s x
  let o := 0x040 * x
  [uword 4 o true (encStateWord s x),
   uword 4 (o + 0x04) true (e.winStatus + 8 * b2n e.winShort + 16 * b2n e.winStepped),
   sword 4 (o + 0x08) true e.winCount,
   sword 4 (o + 0x0C) false e.winRate,
   sword 8 (o + 0x10) true e.winIndex,
   sword 8 (o + 0x18) true e.count,
   sword 4 (o + 0x20) true e.subrev,
   sword 4 (o + 0x24) true e.rev,
   tword (o + 0x28) false e.lastEdge,
   bword (o + 0x34) false (seBytes 2 (satS 16 e.indexDev) ++ leBytes 2 (sat 16 e.quadErr)),
   uword 4 (o + 0x38) false e.corrections.toNat]

def encWords (s : State) : List StatusWord :=
  encoderWords s 0 ++ encoderWords s 1 ++ [
  uword 4 0x080 true (activeEnc s + 2 * s.enc.e0.reg + 8 * s.enc.e1.reg + 32 * b2n (webForward s)),
  sword 4 0x084 false ((encOf s (activeEnc s)).residual / 2 ^ 16),
  sword 8 0x088 true (webPos s s.now),
  sword 8 0x090 true (webVel s s.now),
  sword 4 0x098 true (encOf s (activeEnc s)).acc,
  tword 0x09C true s.now,
  sword 8 0x0A8 false s.enc.offset,
  uword 4 0x0B0 false s.enc.switchCount.toNat,
  uword 4 0x0B4 false (u8 (pulseCfg s) 0 % 2 + 2 * pulseSource s),
  uword 8 0x0B8 true s.enc.pulseCount,
  sword 4 0x0C0 true s.enc.pulseAcc,
  uword 4 0x0C4 true s.enc.pulseDebt,
  uword 4 0x0C8 false (sat 32 s.enc.pulseOverrun),
  sword 8 0x0CC false s.enc.pulseReset]

/-! MEM (R142) -/

def memStateWord (s : State) : Nat :=
  b2n s.mem.refresh2 + 2 * (tget 0 s.mem.bandUsed (0, 0) % 8) + 16 * (tget 0 s.mem.bandUsed (1, 0) % 8)
    + 128 * b2n s.mem.committed + 256 * (s.mem.endAction % 2) + 512 * b2n s.mem.stale + 1024 * b2n s.mem.hot

/-- Bar line of the next decision point (R134), 0 where none is ahead. -/
def nextDecision (s : State) : Int :=
  if s.hub.mode = .print ∧ !s.mem.ended then nextStart s - 1024 - maxSkew s else 0

/-- Objects in a state; free entries of the 1,024-entry table count as EMPTY. -/
def objectCount (s : State) (st : Nat) : Nat :=
  if st = 0 then 1024 - s.mem.pages.length else (s.mem.pages.filter fun p => stateCode p.state = st).length

def memWords (s : State) : List StatusWord := [
  uword 4 0x000 true (memStateWord s),
  uword 4 0x004 true (s.mem.queue.length + 2 ^ 16 * loadingCount s),
  uword 4 0x008 true (s.mem.current.getD 0),
  uword 4 0x00C true (s.mem.queue.headD 0),
  uword 4 0x010 true (match s.mem.current.bind (findPage s) with | some p => p.nextRow | none => 0),
  bword 0x014 true ((upTo 6).flatMap fun st => leBytes 2 (objectCount s st)),
  uword 4 0x020 true (freeUnits s),
  uword 4 0x024 true (storeUnits s),
  lineWord 0x028 true (nextDecision s),
  uword 4 0x030 true s.mem.gaps,
  uword 4 0x034 true s.mem.blankCount,
  uword 4 0x038 true (sat 32 s.mem.corrected),
  uword 4 0x03C true (sat 32 s.mem.uncorrectable),
  bword 0x040 true ((upTo 7).flatMap fun p => leBytes 8 (tget 0 s.mem.portBytes p)),
  uword 8 0x078 false s.mem.scrubAddr,
  uword 4 0x080 false s.mem.scrubPasses,
  uword 4 0x084 false s.nvm.delaySets.toNat]

/-! GRT (R160) -/

/-- Nozzles whose effective state is `st`. -/
def nozzleCount (v : MapView) (st : Nat) : Nat :=
  (((v.host ++ v.detected).map (·.1)).eraseDups.filter fun n => nozzleState v n = st).length

/-- The least of the bar lines that pending changes wait for, 0 if none. -/
def earliestLine (l : List PendingChange) : Int :=
  match (l.filter fun c => !c.inForce).filterMap (·.line) with
  | [] => 0
  | a :: r => r.foldl min a

def grtModuleWord (s : State) (v : MapView) (m : Nat) : Bytes :=
  let lap := if m + 1 < moduleCount s then seBytes 1 (overlapIn s v m) else [0xFF]
  leBytes 2 (originIn s v m).toNat ++ leBytes 2 (skew s m) ++ lap
    ++ leBytes 1 (b2n (interleaved s m) + 2 * b2n (spareSetCfg s m != v.exchanged.contains m) + 4 * b2n (m < moduleCount s))
    ++ seBytes 1 (tget 0 v.column m) ++ [0]

/-- Graticule bytes that the row delays of the present modules take (R148). -/
def bufferUse (s : State) : Nat :=
  if s.grt.run then 272 * sumNat ((presentModules s).map fun m => sumNat (rowList.map (rowDelay s m))) else 0

def grtWords (s : State) : List StatusWord :=
  let v := mapNow s
  let bad := invalidIn s v
  [uword 4 0x000 true (b2n s.grt.run + 2 * b2n (bad % 8 == 0) + 4 * b2n (lpi600 s) + 8 * b2n s.grt.partner
     + 16 * b2n (autoMap s) + 256 * moduleCount s),
   uword 4 0x004 false bad,
   uword 4 0x008 false (maxSkew s),
   bword 0x00C false (seBytes 2 (pageShift s) ++ zeros 2),
   lineWord 0x010 true s.grt.slot,
   uword 4 0x018 true s.grt.gen.toNat,
   uword 4 0x01C true (sat 16 (nozzleCount v 1) + 2 ^ 16 * sat 16 (nozzleCount v 2)),
   sword 8 0x020 true (earliestLine s.grt.changes),
   uword 4 0x028 false s.grt.staged.length,
   uword 4 0x02C true (sat 16 s.grt.eccCorr + 2 ^ 16 * sat 16 s.grt.eccUnc),
   uword 4 0x030 true s.grt.partnerCount.toNat,
   uword 4 0x034 true s.grt.spreadCount.toNat,
   uword 4 0x038 true (sat 32 s.grt.droppedCount),
   uword 4 0x03C true s.grt.handover.toNat,
   bword 0x040 true ((upTo 24).flatMap (grtModuleWord s v)),
   bword 0x100 true (mapDigest s),
   uword 4 0x120 false (bufferUse s)]

/-! ESC (R181) -/

def escStateWord (s : State) : Nat :=
  s.esc.state + 8 * s.esc.overspeed + 32 * b2n (decide (s.esc.overspeed ≠ 0)) + 64 * b2n (webForward s)
    + 128 * b2n (!s.esc.revokes.isEmpty) + 256 * runAheadDepth s

/-- Earliest row instant of the lowest unfired fixed slot, 0 if none. -/
def nextFire (s : State) : Time :=
  match s.esc.slots.find? fun f => decide (firedTo s < f.n) with
  | some f => earliest f
  | none => 0

def escModuleWord (s : State) (m : Nat) : Bytes :=
  let b := tget 0 (mapNow s).band m
  leBytes 1 b ++ leBytes 1 (bandWave s b) ++ leBytes 1 (pendingBand s m) ++ [0] ++ leBytes 4 (bandLead s b / 1000)

def isBandChange (c : PendingChange) : Bool :=
  match c.change with
  | .band _ _ => true
  | _ => false

def escWords (s : State) : List StatusWord := [
  uword 4 0x000 true (escStateWord s),
  uword 4 0x004 false s.esc.limit,
  sword 4 0x008 true (rateNow s),
  uword 4 0x00C true s.esc.qualify,
  lineWord 0x010 true (firedTo s),
  lineWord 0x018 true s.esc.fixedTop,
  sword 8 0x020 true s.esc.hwm,
  sword 8 0x028 true (match s.esc.stopSlot, s.esc.endSlot with | some n, _ => n | none, some n => n | none, none => -1),
  uword 4 0x030 true s.esc.gen.toNat,
  uword 4 0x034 true s.esc.revokeCount.toNat,
  uword 4 0x038 true (sat 32 s.esc.missed),
  uword 4 0x03C false (sat 16 s.esc.maxErr),
  tword 0x040 true (nextFire s),
  sword 12 0x050 false s.esc.origin,
  bword 0x060 true ((upTo 24).flatMap (escModuleWord s)),
  sword 8 0x120 false (earliestLine (s.grt.changes.filter isBandChange))]

/-! HLK (R214) -/

/-- Modules whose state code is one of a list. -/
def modulesIn (s : State) (l : List Nat) : Nat := ((upTo 24).filter fun m => l.contains (moduleOf s m).state).length

/-- Highest slot receipted by every present module; a LOST module counts as receipted (R202). -/
def receiptSlot (s : State) : Int :=
  let held (m : Nat) : Int :=
    let h := moduleOf s m
    ((h.lines.filter fun l => !l.withdrawn).map fun l => l.slot - 1).foldl min h.sentTop
  let l := ((presentModules s).filter fun m => (moduleOf s m).state ≠ 5).map held
  l.foldl min (l.headD (-1))

def hlkModuleWord (s : State) (m : Nat) : Bytes :=
  let h := moduleOf s m
  leBytes 1 h.state ++ leBytes 1 (b2n h.timeB) ++ leBytes 1 (queueDepth h) ++ leBytes 1 (occupancy s h)
    ++ leBytes 4 (identSerial s m).toNat ++ leBytes 2 h.group ++ leBytes 2 (sat 16 h.mismatched)
    ++ leBytes 3 (seq24 h.sf) ++ [0]

def hlkLaneWord (s : State) (n : Nat) : Bytes :=
  let l := laneOf s n
  leBytes 1 l.state ++ leBytes 1 l.cause ++ zeros 2 ++ seBytes 4 (laneDelay s n) ++ seBytes 2 (satS 16 l.timeErr)
    ++ leBytes 2 (sat 16 l.invalid) ++ leBytes 2 (sat 16 l.stuff) ++ leBytes 2 (sat 16 l.lockLoss)

def hlkWords (s : State) : List StatusWord := [
  uword 4 0x000 true (modulesIn s [2] + 2 ^ 8 * modulesIn s [3, 4] + 2 ^ 16 * modulesIn s [5, 6] + 2 ^ 24 * b2n (hasFeature s 2)),
  uword 4 0x004 true s.hlk.failovers.toNat,
  uword 4 0x008 true (sat 32 s.hlk.receiptErr),
  uword 4 0x00C false (sat 32 s.hlk.lineErrs),
  uword 4 0x010 false (sat 32 s.hlk.late),
  uword 4 0x014 true s.hlk.sentGen.toNat,
  lineWord 0x018 true (sentSlot s),
  lineWord 0x020 true (receiptSlot s),
  tword 0x028 false s.hlk.lastFail,
  uword 4 0x034 false (b2n s.hlk.purge.isSome),
  bword 0x040 true ((upTo 24).flatMap (hlkModuleWord s)),
  bword 0x1C0 true ((upTo 48).flatMap (hlkLaneWord s))]

/-! RNG (R88) -/

def portStateCode : PortState → Nat
  | .stopped => 0 | .hunt => 1 | .up => 2 | .failed => 3

def mapWord (s : State) (a : Nat) : Bytes :=
  let e := tget {} s.rng.map (BitVec.ofNat 5 a)
  leBytes 8 e.serial.toNat ++ leBytes 1 e.hopsE ++ leBytes 1 e.hopsW ++ leBytes 1 (b2n e.reachE + 2 * b2n e.reachW)
    ++ leBytes 1 e.mode.toNat ++ zeros 4

def rngWords (s : State) : List StatusWord := [
  uword 4 0x000 true (ringCode s.rng.state + 8 * s.rng.address.toNat + 2 ^ 8 * s.rng.order.length
    + 2 ^ 13 * portStateCode s.rng.east.state + 2 ^ 15 * portStateCode s.rng.west.state
    + 2 ^ 17 * b2n s.rng.prepared.isSome),
  uword 4 0x004 true (reachMask s),
  uword 4 0x008 true (match s.rng.prepared with | some p => p.txn.toNat + 2 ^ 16 * p.coord.toNat | none => 0),
  uword 4 0x00C true s.rng.rerouteCount.toNat,
  uword 4 0x010 false s.rng.retxCount.toNat,
  uword 4 0x014 true s.rng.voidTx.toNat,
  uword 4 0x018 true s.rng.voidRx.toNat,
  uword 4 0x01C false (sat 16 s.rng.east.crcErr + 2 ^ 16 * sat 16 s.rng.west.crcErr),
  tword 0x020 false s.rng.lastBreak,
  bword 0x030 false ((upTo 30).flatMap fun i => mapWord s (i + 1))]

/-! LDG (R239) -/

def ldgStateWord (s : State) : Nat :=
  b2n s.ldg.open_ + 2 * b2n s.ldg.hold.isSome + 4 * (s.ldg.hold.getD 0 % 4) + 16 * b2n s.ldg.stream.enabled
    + 32 * b2n s.ldg.stream.error + 64 * b2n (rejectActive s) + 128 * b2n (hasFeature s 5)
    + 256 * b2n s.ldg.recoveryUnsealed

def ldgWords (s : State) : List StatusWord := [
  uword 4 0x000 true (ldgStateWord s),
  uword 4 0x004 true (openTickets s),
  uword 8 0x008 true (match s.ldg.current with | some b => b.number | none => 0),
  uword 4 0x010 true (match s.ldg.current with | some b => b.records.length | none => 0),
  uword 4 0x014 false s.rng.pendingVoid.length,
  uword 8 0x018 true s.ldg.nextSeq,
  uword 8 0x020 true (s.ldg.acked.getD 0),
  uword 4 0x028 false (ledgerFree s),
  uword 4 0x02C false (sat 32 (coveredAhead s)),
  uword 4 0x030 false s.ldg.amends.toNat,
  uword 4 0x034 false (sat 32 s.ldg.verdictLate),
  uword 4 0x038 false s.ldg.ckptCount,
  bword 0x040 true ((upTo 4).flatMap fun i => leBytes 4 (tget 0 s.ldg.stateCount i).toNat),
  bword 0x050 true ((upTo 8).flatMap fun i => leBytes 4 (tget 0 s.ldg.voidCount (i + 1)).toNat),
  bword 0x070 true (padTo 32 (chainHead s)),
  uword 4 0x090 false s.ldg.stream.offset,
  uword 4 0x094 false s.ldg.rejectRows.toNat,
  uword 4 0x098 false (sat 32 s.ldg.rejectMissed),
  tword 0x0A0 false s.ldg.lastSeal]

/-! INS (R263) -/

def camStateWord (s : State) (c : Nat) : Nat :=
  let k := camOf s c
  k.state + 4 * b2n (camStale s c) + 2 ^ 8 * camCauses k + 2 ^ 16 * (k.epoch % 256) + 2 ^ 24 * b2n k.pending.isSome

def cameraWords (s : State) (c : Nat) : List StatusWord :=
  let k := camOf s c
  let o := 0x040 * c
  let p : Nat × Nat := match k.pending with
    | some (e, n, _) => (e, n)
    | none => (0, 0)
  let last := k.done_.head?
  let num : Nat := match last with
    | some st => st.number
    | none => 0
  let lines : Nat := match last with
    | some st => st.count
    | none => 0
  let pos : Int := match last with
    | some st => lambdaOf st st.pos0
    | none => 0
  let t0 : Time := match last with
    | some st => st.t0
    | none => 0
  [uword 4 o true (camStateWord s c),
   uword 4 (o + 0x04) false (p.1 % 256),
   uword 4 (o + 0x08) false p.2,
   uword 4 (o + 0x0C) true num,
   uword 4 (o + 0x10) true lines,
   uword 4 (o + 0x14) false (sat 16 k.trunc + 2 ^ 16 * sat 16 k.overlong),
   uword 4 (o + 0x18) false (sat 32 k.lineErr),
   uword 4 (o + 0x1C) false (sat 32 k.outDrop),
   sword 8 (o + 0x20) true pos,
   tword (o + 0x28) true t0,
   uword 4 (o + 0x34) false (sat 32 k.syncErr)]

def insWords (s : State) : List StatusWord :=
  cameraList.flatMap (cameraWords s) ++ [
  uword 4 0x100 false (b2n (bit (u8 (cfgGet s .compare) 0) 0 && hasFeature s 4) + 2 * b2n (hasFeature s 12)
    + 2 ^ 8 * s.ins.stripes.length),
  uword 4 0x104 true s.ins.tickets.length,
  bword 0x108 true ((upTo 3).flatMap fun i => leBytes 4 (tget 0 s.ins.verdicts i).toNat),
  uword 4 0x114 false s.ins.mapRows,
  uword 4 0x118 false s.ins.stripesDone,
  uword 4 0x11C false (sat 16 s.ins.detectOut + 2 ^ 16 * sat 16 s.ins.detectWeak),
  uword 4 0x120 true (s.ins.lastScore % 2 ^ 16 + 2 ^ 16 * (s.ins.lastVerdict % 2 ^ 8)),
  uword 4 0x124 true s.ins.displayRow]

/-! CAL (R276) -/

/-- The run in PASS1, PASS2 or EVALUATING. -/
def activeRun (s : State) : Option CalRun := s.cal.runs.find? fun r => decide (2 ≤ r.state) && decide (r.state ≤ 4)

def calStateWord (s : State) : Nat :=
  let p := u8 (cfgGet s .calPolicy) 0 % 8
  2 ^ 16 * p + (match activeRun s with
    | some r => r.state + 2 ^ 4 * r.type + 2 ^ 8 * r.target + 2 ^ 19 * b2n r.spare + 2 ^ 20 * b2n r.hold
    | none => 0xF)

/-- The active run, and the pass of it that waits for its reference. -/
def activeRunWord (s : State) : Nat :=
  match activeRun s with
  | some r => r.id % 2 ^ 16 + 2 ^ 16 * (if inPass r && wantsReference r.type && r.ref.isNone then r.state - 1 else 0)
  | none => 0

/-- Mask of the targets for which a type is due. -/
def dueMask (s : State) (type n : Nat) : Nat := maskOf n fun i => s.cal.due.contains (type, i)

def calWords (s : State) : List StatusWord := [
  uword 4 0x000 true (calStateWord s),
  uword 4 0x004 true (activeRunWord s),
  uword 4 0x008 true ((openRuns s).length + 2 ^ 8 * s.cal.patches.length),
  uword 4 0x00C true (maskOf 11 fun t => s.cal.runs.any fun r =>
    r.hold && r.type == t && decide (2 ≤ r.state) && decide (r.state ≤ 5)),
  uword 4 0x010 true (dueMask s 6 24),
  uword 4 0x014 true (dueMask s 8 24),
  uword 4 0x018 true (dueMask s 7 23),
  uword 4 0x01C true (sat 16 s.cal.applied + 2 ^ 16 * sat 16 s.cal.failed),
  uword 8 0x020 true (dueMask s 9 48),
  sword 8 0x028 false s.cal.lastLine,
  tword 0x030 false s.cal.lastTime]

/-! THM (R291) -/

/-- The highest of a group as a word: value and sensor, 0x8000 where no sensor of it is available. -/
def hottestWord (s : State) (l : List Nat) : Nat :=
  match hottest s l with
  | some (v, i) => ofSigned 16 v + 2 ^ 16 * i
  | none => 0x8000

def tempBytes (s : State) (i : Nat) : Bytes :=
  match effective s i with
  | some v => seBytes 2 v
  | none => leBytes 2 0x8000

def thmWords (s : State) : List StatusWord := [
  uword 4 0x000 true (s.thm.level + 8 * s.thm.dieBand + 64 * b2n s.thm.floor.isSome + 128 * s.thm.floor.getD 0
    + 1024 * b2n (adjacentPair s)),
  uword 4 0x004 true (hottestWord s (upTo 16)),
  uword 4 0x008 true (hottestWord s ((upTo 48).map (· + 16))),
  uword 4 0x00C false (b2n (s.mem.refresh2 && s.mem.coolSince.isNone) + 2 * b2n s.mem.hot),
  uword 8 0x010 true (maskOf 64 fun i => (sensorOf s i).failed),
  uword 4 0x018 true (maskOf 24 fun m => decide (3 ≤ tget 0 s.thm.headDemand m)),
  uword 4 0x01C true (maskOf 24 fun m => decide (4 ≤ tget 0 s.thm.headDemand m)),
  uword 4 0x020 true s.thm.pauses.toNat,
  uword 4 0x024 false (s.thm.pauseCounter % 256),
  tword 0x028 false s.thm.levelTime,
  bword 0x040 true ((upTo 64).flatMap (tempBytes s)),
  bword 0x0C0 true ((upTo 24).flatMap fun m => leBytes 1 (tget 0 s.thm.headBand m)),
  uword 4 0x0D8 false s.nvm.shutdownCause.toNat,
  tword 0x0DC false s.nvm.shutdownTime]

/-! AXS (R312): the values of the last frame -/

/-- Position in nm: counts times nm_per_count times 1 + σ, to the nearest nm (R293; log entry 62). -/
def posNm (s : State) (a : Nat) : Int :=
  let k := axisOf s a
  roundDiv (k.frameFb * u32 (axisCfg s a) 16 * (unit32 + k.sigma)) unit32

def axisStateWord (s : State) (a : Nat) : Nat :=
  let k := axisOf s a
  k.state + 8 * b2n k.referenced + 16 * b2n k.limN.confirmed + 32 * b2n k.limP.confirmed + 64 * b2n k.home.confirmed
    + 128 * b2n k.owner.isSome + maskOf 14 fun i => decide (8 ≤ i) && k.causes.contains i

def axisWords (s : State) (a : Nat) : List StatusWord :=
  let k := axisOf s a
  let o := 0x040 * a
  let scale := currentScale s a
  [uword 4 o true (axisStateWord s a),
   sword 4 (o + 0x04) true (commandedPos k),
   sword 4 (o + 0x08) true k.frameFb,
   sword 4 (o + 0x0C) true (commandedPos k - k.frameFb),
   sword 4 (o + 0x10) true (k.vel / unit32),
   sword 4 (o + 0x14) false (k.acc / unit32),
   sword 4 (o + 0x18) false k.target,
   uword 4 (o + 0x1C) true (k.addr % 1024 + 2 ^ 10 * scale + 2 ^ 18 * b2n (decide (scale ≠ 0)) + 2 ^ 19 * k.frameCount.toNat),
   sword 8 (o + 0x20) true (posNm s a),
   sword 4 (o + 0x28) false k.bench,
   uword 4 (o + 0x2C) false (sat 16 k.ssiErr + 2 ^ 16 * sat 16 k.quadErr),
   tword (o + 0x30) true k.frameTime,
   sword 4 (o + 0x3C) false k.sigma]

/-! VIEW (R327) -/

/-- The target of a held set, all ones if none. -/
def heldFrame (h : Option (Bytes × Nat)) : Nat :=
  match h with
  | some (_, f) => f
  | none => 2 ^ 64 - 1

def viewWords (s : State) : List StatusWord :=
  let v := s.view
  [uword 4 0x000 true (v.state + 4 * viewModeCode s + 32 * b2n (viewJeida s) + 64 * b2n (bit (u8 v.cur 0) 1)
     + 128 * b2n v.shadow.isSome + 256 * b2n v.late.isSome),
   uword 4 0x004 true (v.line % 4096),
   uword 8 0x008 true v.frame,
   uword 8 0x010 true (heldFrame v.shadow),
   uword 8 0x018 true (heldFrame v.late),
   tword 0x020 false v.latchTime,
   uword 4 0x02C false (v.buffered % 2 ^ 16),
   uword 4 0x030 true (sat 32 v.underrun),
   uword 4 0x034 true (sat 16 v.readErr0 + 2 ^ 16 * sat 16 v.readErr1),
   uword 4 0x038 false v.crc0,
   uword 4 0x03C false v.crc1,
   bword 0x040 true (padTo 32 v.cur),
   bword 0x060 false (match v.shadow with | some (b, _) => padTo 32 b | none => zeros 32)]

/-! MSS (R349) -/

def updateCode : UpdateState → Nat
  | .idle => 0 | .writing => 1 | .verified => 2 | .pending => 3

def mssStateWord (s : State) : Nat :=
  b2n s.nvm.sealed_ + 2 * b2n s.mss.activeB + 4 * b2n s.nvm.preferredB + 8 * b2n s.mss.trial.isSome
    + 16 * updateCode s.mss.update + 64 * b2n s.nvm.failed0 + 128 * b2n s.nvm.failed1 + 256 * b2n s.mss.trngFailed
    + 2 ^ 16 * (s.nvm.minSecurity % 256)

/-- A supply's last reading; what a supply reads before any event tells it is free (log entry 4). -/
def supplyReading (s : State) (i : Nat) : Nat := tget (Config.freeNat 24 i % 2 ^ 16) s.mss.supplyMv i

def signQueue (s : State) : Nat :=
  if hasFeature s 5 then (s.ldg.blocks.filter fun b => b.header.isNone).length else 0

def mssWords (s : State) : List StatusWord := [
  uword 4 0x000 true (mssStateWord s),
  uword 4 0x004 true (s.mss.warn.toNat + 2 ^ 8 * s.mss.fault.toNat),
  uword 8 0x008 false (match s.mss.activation with | some a => (a.slot.getD 0).toNat | none => 0),
  uword 8 0x010 true s.nvm.logCount,
  uword 4 0x018 true (signQueue s),
  uword 4 0x01C false (b2n s.mss.programming + 2 * b2n s.mss.erasing),
  bword 0x020 false ((upTo 7).flatMap fun i => leBytes 2 (supplyReading s i)),
  tword 0x030 false s.mss.activateTime,
  bword 0x040 true (padTo 32 s.nvm.logHead),
  bword 0x060 true (padTo 32 (activeImage s).measurement)]

/-! All blocks -/

/-- The status words of a block (R64). -/
def blockWords (s : State) : Nat → List StatusWord
  | 0x01 => hubWords s
  | 0x02 => merWords s
  | 0x03 => encWords s
  | 0x04 => memWords s
  | 0x05 => grtWords s
  | 0x06 => escWords s
  | 0x07 => hlkWords s
  | 0x08 => rngWords s
  | 0x09 => ldgWords s
  | 0x0A => insWords s
  | 0x0B => viewWords s
  | 0x0C => calWords s
  | 0x0D => thmWords s
  | 0x0E => axisWords s 0 ++ axisWords s 1
  | 0x0F => mssWords s
  | _ => []

/-- Bytes of a block's live area: where the reserved range at its end begins (log entry 76). -/
def liveLen (block : Nat) : Nat :=
  [0, 0x60, 0xE0, 0xD4, 0x88, 0x124, 0x128, 0x4C0, 0x210, 0xAC, 0x128, 0x80, 0x3C, 0xE8, 0x80, 0x80].getD block 0

/-- A block's page reads its words: HUB's always, every other once it has passed built-in test (R67). -/
def pageReadable (s : State) (block : Nat) : Bool :=
  block == 1 || (s.hub.tested && !bit s.hub.bistFailed.toNat block)

/-! Pins (R364) -/

/-- The levels of the five output pins, as driven. -/
structure Pins where
  reject : Bool
  overspeed : Bool
  ready : Bool
  safeN : Bool
  snapOut : Bool
  deriving DecidableEq, Repr

/-- The output pins: none while they are high-impedance, in reset, in BOOT and with core power removed. -/
def pins (s : State) : Option Pins :=
  if !alive s || decide (s.hub.mode = .boot) then none
  else some {
    reject := rejectPin s
    overspeed := overspeedPin s
    ready := decide (s.hub.mode = .armed) || decide (s.hub.mode = .print)
    safeN := decide (s.hub.mode ≠ .safe)
    snapOut := match s.mer.snapOut with
      | some (_, low) => !low
      | none => bit (u8 (cfgGet s .snapPin) 0) 2 }

end Sys2Proof.Machine
end

