-- ==== Sys2Proof/Machine/Windows.lean ====
section
/-! DEFINITION. BAR2: the directory page, the live and snapshot halves of every block's page (R64, R66, R67), and the
snapshot instant (R102, R104). -/
namespace Sys2Proof.Machine

/-! BAR2 -/

/-- The directory page's words. -/
def directoryWords (s : State) : List StatusWord := [
  uword 4 0x000 false 1,
  uword 4 0x004 false s.hub.heartbeat.toNat,
  uword 4 0x008 false s.hub.snapSeq.toNat,
  uword 4 0x00C false s.hub.snapSource.toNat,
  tword 0x010 false s.hub.snapTime,
  bword 0x020 false ((upTo 16).flatMap fun n => leBytes 2 (liveLen n))]

/-- The byte that a list of words holds at an offset; reserved bytes read 0. -/
def wordByte (l : List StatusWord) (off : Nat) : Byte :=
  match l.find? fun w => decide (w.off ≤ off) && decide (off < w.off + w.bytes.length) with
  | some w => w.bytes.getD (off - w.off) 0
  | none => 0

/-- The byte that the published snapshot holds for a block at a live offset. -/
def snapByte (s : State) (block off : Nat) : Byte :=
  wordByte ((s.hub.snapPages.filter fun w => w.1 = block).map fun w => bword w.2.1 true w.2.2) off

/-- The byte that BAR2 reads at an offset of one of its 256 pages. -/
def bar2Read (s : State) (page off : Nat) : Byte :=
  if page = 0 then wordByte (directoryWords s) off
  else if !pageReadable s page then 0
  else if off < 0x800 then wordByte (blockWords s page) off
  else snapByte s page (off - 0x800)

/-! The snapshot instant -/

/-- A block's words at the snapshot instant: a transition of HUB and an activation of MSS that are due at that instant
are reported as made (R38, R349). -/
def wordsAt (s : State) (block : Nat) : List StatusWord :=
  let due : Bool := match s.mss.activation with
    | some a => a.live && decide (a.t = some s.now)
    | none => false
  if block = 0x01 then blockWords (modeTransition none s) block
  else if block = 0x0F ∧ due then blockWords (activation none s) block
  else blockWords s block

/-- The latched set of every block whose page reads its words. -/
def snapWords (s : State) : List (Nat × Nat × Bytes) :=
  (upTo 16).flatMap fun b =>
    if pageReadable s b then ((wordsAt s b).filter (·.latched)).map fun w => (b, w.off, w.bytes) else []

/-- A pending snapshot instant has come: every block latches its set, SNAP_SEQ becomes odd unless a copy is going on,
and SNAP_OUT pulses in mode 1. -/
def takeSnapshot (p : SnapPending) (s : State) : State :=
  let copy : SnapCopy := { t := p.t, source := p.source, words := snapWords s }
  let odd : BitVec 32 := if s.hub.snapQueue.isEmpty then 1 else 0
  let s := { s with
    hub := { s.hub with snapSeq := s.hub.snapSeq + odd, snapQueue := s.hub.snapQueue ++ [copy] }
    mer := { s.mer with snaps := s.mer.snaps.filter (· ≠ p) } }
  calSnapshot p.t (when_ (u8 (cfgGet s .snapPin) 1 == 1) snapOutPulse s)

/-- SNAPSHOT_INSTANT: the earliest pending instant, once it is reached. -/
def snapshotInstant (s : State) : State :=
  match s.mer.snaps with
  | [] => s
  | p :: _ => if p.t ≤ s.now then takeSnapshot p s else s

def execSnapshotInstant (t : Time) (s : State) : Host.Outcome State Fault Refusal :=
  atPrint t (fun s => calStep (snapshotInstant s)) s

end Sys2Proof.Machine
end

