-- ==== Sys2Proof/Machine/Commands.lean ====
section
/-! DEFINITION. Every command of the device by its opcode (R5, R58), and the completion event that each E_PENDING command
names (R57, R86). -/
namespace Sys2Proof.Machine

def hubSpecs : List CmdSpec :=
  [identifySpec, featureQuerySpec, featureAcceptSpec, modeSetSpec, safeClearSpec, deviceResetSpec, configReadSpec,
   hostWatchdogSetSpec]

def ringSpecs : List CmdSpec :=
  [ringEnumerateSpec, ringConfigSpec, ringPortSetSpec, ringPortStartSpec, ringPortStopSpec]

def timeSpecs : List CmdSpec :=
  [timeSourceSetSpec, ptpDomainSetSpec, netPortSetSpec, timeStepSpec, windowSetSpec, snapshotArmSpec, snapPinSetSpec]

def encSpecs : List CmdSpec := [encInputSetRow, regulatorSetRow, encActiveSetRow, pulseSetSpec]

def memSpecs : List CmdSpec :=
  [pageLoadSpec, pageDiscardSpec, pageQuerySpec, queueAppendSpec, queueCommitSpec, queueClearSpec, memPortSetSpec,
   memConfigSetSpec, memDramDescribeSpec, memDelayMeasureSpec]

def grtSpecs : List CmdSpec :=
  [grtBarSetSpec, grtModuleSetSpec, grtStitchSetSpec, grtNozzleStageSpec, grtNozzleCommitSpec, grtNozzleReadSpec]

def escSpecs : List CmdSpec :=
  [escConfigSetSpec, escRunaheadSetSpec, escHeadProfileSetSpec, escRowOffsetSetSpec, escTimingReadSpec]

def hlkSpecs : List CmdSpec :=
  [hlkConfigSetSpec, hlkLaneSetSpec, hlkLaneRestoreSpec, hlkEyeScanSpec, hlkLaneTestSpec, hlkModuleReadSpec, hlkPurgeSpec]

def ldgSpecs : List CmdSpec :=
  [ldgConfigSetSpec, ldgStreamSetSpec, ldgBlockAckSpec, ldgTicketQuerySpec, ldgVoidSpec, ldgSealSpec]

def insSpecs : List CmdSpec :=
  [insCameraSetSpec, insCameraStartSpec, insCameraStopSpec, exposureSetSpec, insCompareSetSpec, insDisplaySetSpec,
   insOutputSetSpec, insOutputAckSpec, insStripeAddSpec, insStatsReadSpec]

def viewSpecs : List CmdSpec := [viewModeSetSpec, viewStartSpec, viewStopSpec, viewFrameSetSpec]

def calSpecs : List CmdSpec :=
  [calPolicySetSpec, calRunSpec, calReferenceSpec, calPatchAddSpec, calAbortSpec, calResultReadSpec, calClearSpec]

def axsSpecs : List CmdSpec :=
  [axsConfigSetSpec, axsStartSpec, axsStopSpec, axsMoveSpec, axsHomeSpec, axsFaultClearSpec]

def thmSpecs : List CmdSpec := [thmConfigSetSpec, thmSensorClearSpec]

def mssSpecs : List CmdSpec :=
  [mssConfigSetSpec, mssKeyReadSpec, mssUpdateBeginSpec, mssUpdateWriteSpec, mssUpdateVerifySpec, mssUpdateActivateSpec,
   mssRollbackFenceSpec, mssSealSpec, mssLogReadSpec, attestSpec]

/-- Every command of the device. -/
def allSpecs : List CmdSpec :=
  hubSpecs ++ ringSpecs ++ memSpecs ++ grtSpecs ++ escSpecs ++ hlkSpecs ++ encSpecs ++ ldgSpecs ++ insSpecs ++ viewSpecs
    ++ calSpecs ++ axsSpecs ++ timeSpecs ++ thmSpecs ++ mssSpecs

/-- The command of an opcode; none where the opcode is not defined (R5). -/
def specOf (opcode : Nat) : Option CmdSpec := allSpecs.find? fun d => d.opcode == opcode

/-! Completion events -/

/-- A completion event: its code, and what its detail holds at an offset for this command. -/
def completionEvent (codes : List (BitVec 16)) (off : Nat) (key : Bytes) (unit : BitVec 5) : Owed :=
  { unit := unit, codes := codes, off := off, key := key }

/-- The completion events owed for a command that answered E_PENDING with a result. -/
def completionsOf (opcode : Nat) (c : Cmd) (result : Bytes) (unit : BitVec 5) : List Owed :=
  let p := c.params
  match opcode with
  | 0x0004 | 0x0005 => [completionEvent [0x1001] 3 ([2] ++ leBytes 2 c.seq.toNat) unit]
  | 0x0101 => [completionEvent [0x1801] 2 (p.take 1) unit]
  | 0x0201 => [completionEvent [0x1401] 0 (p.take 4) unit]
  | 0x0209 => [completionEvent [0x1404] 0 (p.take 8) unit]
  | 0x020A => [completionEvent [0x1403] 0 [] unit]
  | 0x0504 => [completionEvent [0x1703] 0 (p.take 1) unit]
  | 0x0505 => [completionEvent [0x1704] 0 (p.take 1) unit]
  | 0x0507 => [completionEvent [0x1705] 0 [] unit]
  | 0x0902 => [completionEvent [0x1B01] 0 [1] unit]
  | 0x0903 => [completionEvent [0x1B01] 1 [0] unit]
  | 0x0A02 => (upTo (u16 result 2)).map fun i =>
      completionEvent [0x1C01, 0x2C02] 0 (leBytes 2 ((u16 result 0 + i - 1) % 65535 + 1)) unit
  | 0x0B04 => [completionEvent [0x1E01] 0 (p.take 1) unit]
  | 0x0B05 => [completionEvent [0x1E02] 0 (p.take 1) unit]
  | 0x0C04 => [completionEvent [0x1204] 0 [] unit]
  | 0x0E03 => [completionEvent [0x1F03] 0 [1] unit]
  | 0x0E05 => [completionEvent [0x1F01] 0 [] unit]
  | 0x0E06 => [completionEvent [0x1F02] 0 [] unit]
  | _ => []

/-- A relayed command answered E_PENDING: its completion events are owed to the unit that relayed it (R86). -/
def oweCompletions (opcode : Nat) (c : Cmd) (v : Verdict) (unit : BitVec 5) (s : State) : State :=
  if v.1 = ePending then
    { s with rng := { s.rng with completions := s.rng.completions ++ completionsOf opcode c v.2 unit } }
  else s

end Sys2Proof.Machine
end

