-- ==== Sys2Proof/Machine/Relay.lean ====
section
/-! DEFINITION. The Command Ring's service (R48, R49, R53 to R56), relayed commands (R79, R80) and two-phase commits (R81
to R84). -/
namespace Sys2Proof.Machine

/-! Serving a command here -/

/-- Who asks: this unit's host, or the host of another unit. -/
def localAsker (s : State) : Asker := { origin := 1, unit := s.rng.address }
def ringAsker (src : BitVec 5) : Asker := { origin := 2, unit := src }

/-- The checks that come before a command's own: the header and the lengths (R53 steps 3 and 4), and the ring two-phase
commit feature (R81). -/
def headRefusal (d : CmdSpec) (c : Cmd) (s : State) : Option Verdict :=
  if !headerOk d.isRead c s then some (eBadValue, [])
  else if !lengthOk d c then some (eBadLength, [])
  else if twoPhase c && !hasFeature s 8 then some (eNotNegotiated, [])
  else none

/-- A command against this unit's state in the order of R53, applied where nothing refuses it. -/
def runLocal (d : CmdSpec) (c : Cmd) (a : Asker) (s : State) : Verdict × State :=
  if !modePermits d s then ((eBadMode, d.modeResult), s)
  else if !headerOk d.isRead c s then ((eBadValue, []), s)
  else runCommand d c a s

/-! Summaries (R80, R84) -/

/-- The table entry of one unit. -/
def summaryEntry (a : Answer) (status : Nat) : Bytes := leBytes 1 a.address.toNat ++ [0] ++ leBytes 2 status

/-- The summary's result: outcome 0 read, 1 committed, 2 aborted. -/
def summaryBytes (outcome txn : Nat) (instant : Option Time) (entries : List (Answer × Nat)) : Bytes :=
  leBytes 1 entries.length ++ leBytes 1 outcome ++ leBytes 2 txn
    ++ (match instant with | some t => timeBytes t | none => zeros 12)
    ++ entries.flatMap fun e => summaryEntry e.1 e.2

/-- A unit that gave no answer counts as unreachable. -/
def answerStatus (a : Answer) : Nat :=
  match a.status with
  | some v => v.toNat
  | none => eUnreachable

/-- The summary of a read to address 31. -/
def readSummary (opcode : Nat) (c : Cmd) (answers : List Answer) (s : State) : State :=
  answer opcode c (ePartial, summaryBytes 0 0 none (answers.map fun a => (a, answerStatus a))) s

/-! Two-phase commit (R82 to R84) -/

/-- A change as it is held: `local_` where this unit coordinates it. -/
def prepare (txn : BitVec 16) (coord : BitVec 5) (local_ : Bool) (opcode timeoutMs : Nat) (c : Cmd) (v : Verdict)
    (s : State) : State :=
  { s with rng := { s.rng with prepared := some {
    txn := txn, coord := coord, local_ := local_, opcode := opcode, cmd := c, status := BitVec.ofNat 16 v.1,
    result := v.2, votedAt := s.now, timeoutMs := timeoutMs } } }

/-- This unit's vote on a command: its status and result as the command would report them, and whether it is a no. -/
def voteOn (d : CmdSpec) (c : Cmd) (a : Asker) (s : State) : Verdict × Bool :=
  let v := (runCommand d c a s).1
  (v, !(v.1 == eOk || v.1 == ePending))

/-- A participant's status once the outcome is known (R84). -/
def finalStatus (committed : Bool) (a : Answer) : Nat :=
  match a.status with
  | none => eUnreachable
  | some v => if committed || a.refused then v.toNat else eVoteNo

/-- The summary's status (R84). -/
def summaryStatus (t : CoordTxn) : Nat :=
  if t.answers.any (·.refused) then eVoteNo
  else if t.answers.any (·.status.isNone) then eUnreachable
  else if t.answers.any (fun a => a.status = some (BitVec.ofNat 16 ePending)) then ePending
  else eOk

/-- One participant's reply; a unit that did not vote has none. -/
def participantReply (t : CoordTxn) (committed : Bool) (a : Answer) (s : State) : State :=
  let st := finalStatus committed a
  if a.status.isNone || !(replyWanted t.cmd || !(st == eOk || st == ePending)) then s
  else reply { seq := t.cmd.seq, status := BitVec.ofNat 16 st, opcode := BitVec.ofNat 16 t.opcode,
               result := if committed || a.refused then a.result else [],
               source := BitVec.ofNat 8 a.address.toNat } s

/-- The replies of a transaction that has its outcome, and its end. -/
def finishTxn (t : CoordTxn) (instant : Option Time) (s : State) : State :=
  let s := { s with rng := { s.rng with coords := s.rng.coords.filter fun x => x.txn ≠ t.txn } }
  if t.silent then s
  else
    let s := each t.answers (participantReply t instant.isSome) s
    let entries := t.answers.map fun a => (a, finalStatus instant.isSome a)
    answer t.opcode t.cmd
      (summaryStatus t, summaryBytes (if instant.isSome then 1 else 2) t.txn.toNat instant entries) s

/-- Other units take part in a transaction. -/
def hasOthers (s : State) (t : CoordTxn) : Bool := t.answers.any fun a => decide (a.address ≠ s.rng.address)

/-- ABORT goes both ways, and this unit's own prepared change is dropped. -/
def abortTxn (t : CoordTxn) (s : State) : State :=
  let s := if hasOthers s t then sendBoth 31 (.abort t.txn) s else s
  let own : Prepared → Bool := fun p => p.local_ && decide (p.txn = t.txn)
  { s with rng := { s.rng with prepared := s.rng.prepared.filter fun p => !own p } }

/-- COMMIT goes both ways with an instant commit_lead after the last vote, and this unit's own change waits for it. -/
def commitTxn (t : CoordTxn) (s : State) : State :=
  let at_ := s.now + t.leadUs * tpUs
  let s := if hasOthers s t then sendBoth 31 (.commit t.txn at_) s else s
  let own : Prepared → Prepared := fun p => if p.local_ ∧ p.txn = t.txn then { p with commitAt := some at_ } else p
  finishTxn t (some at_) { s with rng := { s.rng with prepared := s.rng.prepared.map own } }

def setTxn (t : CoordTxn) (s : State) : State :=
  { s with rng := { s.rng with coords := s.rng.coords.map fun x => if x.txn = t.txn then t else x } }

/-- A vote has come in: a no is answered with ABORT at once; with the last vote the outcome is known. `timedOut` is the end
of vote_timeout. -/
def settleTxn (timedOut : Bool) (t : CoordTxn) (s : State) : State :=
  let no := t.answers.any (·.refused)
  let all := t.answers.all (·.status.isSome)
  let abortNow := !t.aborted && (no || (timedOut && !all))
  let s := if abortNow then abortTxn t s else s
  let t := { t with aborted := t.aborted || abortNow }
  let s := setTxn t s
  if t.aborted then (if all || timedOut then finishTxn t none s else s)
  else if all then commitTxn t s
  else s

/-- A two-phase command begins: this unit votes where it takes part, and PREPARE goes to the other participants. -/
def beginTxn (d : CmdSpec) (c : Cmd) (units : List (BitVec 5)) (s : State) : State :=
  let txn := s.rng.nextTxn
  let own := s.rng.address
  let commitMs := commitTimeoutMs s
  let mine : Verdict × Bool := voteOn d c (localAsker s) s
  let answers := units.map fun u =>
    if u = own then { address := u, status := some (BitVec.ofNat 16 mine.1.1), result := mine.1.2, refused := mine.2 }
    else { address := u : Answer }
  let t : CoordTxn := { txn := txn, opcode := d.opcode, cmd := c, started := s.now, answers := answers,
                        voteUs := voteTimeoutUs s, leadUs := commitLeadUs s, commitMs := commitMs }
  let s := { s with rng := { s.rng with nextTxn := txn + 1, coords := s.rng.coords ++ [t] } }
  let s := if units.contains own ∧ mine.2 = false then prepare txn own true d.opcode commitMs c mine.1 s else s
  let body : RingBody := .prepare txn commitMs (BitVec.ofNat 16 d.opcode) c
  let others := units.filter (· ≠ own)
  let s := if others.isEmpty then s
    else if c.target.toNat = 31 then sendRing 31 body s
    else each others (fun u => sendRing u body) s
  settleTxn false t s

/-- A VOTE of a participant. -/
def takeVote (src : BitVec 5) (txn status : BitVec 16) (result : Bytes) (s : State) : State :=
  match s.rng.coords.find? (fun t => t.txn = txn) with
  | none => s
  | some t =>
    let no := !(status.toNat == eOk || status.toNat == ePending)
    let take : Answer → Answer := fun a =>
      if a.address = src ∧ a.status.isNone then { a with status := some status, result := result, refused := no } else a
    settleTxn false { t with answers := t.answers.map take } s

/-- VOTE_TIMEOUT: every transaction whose vote_timeout has passed. -/
def voteTimeout (s : State) : State :=
  each (s.rng.coords.filter fun t => decide (t.started + t.voteUs * tpUs ≤ s.now)) (settleTxn true) s

/-- A participant's vote on a PREPARE (R82, R83). -/
def prepareVerdict (opcode : Nat) (c : Cmd) (src : BitVec 5) (s : State) : Verdict × Bool :=
  if s.rng.prepared.isSome then ((eNoResource, []), true)
  else match specOf opcode with
    | none => ((eBadOpcode, []), true)
    | some d =>
      match (if !modePermits d s then some (eBadMode, d.modeResult) else headRefusal d c s) with
      | some v => (v, true)
      | none => voteOn d c (ringAsker src) s

/-- PREPARE: the unit votes, and holds the change where the vote is yes. -/
def takePrepare (src : BitVec 5) (txn : BitVec 16) (timeoutMs opcode : Nat) (c : Cmd) (s : State) : State :=
  let v := prepareVerdict opcode c src s
  let s := if v.2 then s else prepare txn src false opcode timeoutMs c v.1 s
  sendRing src (.vote txn (BitVec.ofNat 16 v.1.1) v.1.2) s

/-- COMMIT for the change held. -/
def takeCommit (src : BitVec 5) (txn : BitVec 16) (instant : Time) (s : State) : State :=
  let take : Prepared → Prepared := fun p =>
    if !p.local_ ∧ p.txn = txn ∧ p.coord = src then { p with commitAt := some instant } else p
  { s with rng := { s.rng with prepared := s.rng.prepared.map take } }

/-- ABORT for the change held. -/
def takeAbort (src : BitVec 5) (txn : BitVec 16) (s : State) : State :=
  let mine : Prepared → Bool := fun p => !p.local_ && decide (p.txn = txn) && decide (p.coord = src)
  { s with rng := { s.rng with prepared := s.rng.prepared.filter fun p => !mine p } }

/-- A prepared change is applied as if validated now; a transition it schedules has cause 11, and one that already waits
for its instant overtakes it as R27 says. -/
def applyPrepared (p : Prepared) (s : State) : State :=
  match specOf p.opcode with
  | none => s
  | some d =>
    let asker : Asker := if p.local_ then localAsker s else ringAsker p.coord
    let auto := s.hub.auto
    let free := { s with hub := { s.hub with auto := none } }
    let r := d.apply p.cmd asker free
    let cause : Transition → Transition := fun t => if s.hub.trans.isNone then { t with cause := 11 } else t
    let back := { r.2 with hub := { r.2.hub with
      auto := auto.orElse fun _ => r.2.hub.auto, trans := r.2.hub.trans.map cause } }
    let s2 := epochAfter s back
    let s3 := if p.local_ then s2 else oweCompletions p.opcode p.cmd (p.status.toNat, p.result) p.coord s2
    complete d r.1 s3

/-- COMMIT_INSTANT: the commit instant of the change held has come. -/
def commitInstant (s : State) : State :=
  match s.rng.prepared with
  | none => s
  | some p =>
    match p.commitAt with
    | none => s
    | some t => if t ≤ s.now then applyPrepared p { s with rng := { s.rng with prepared := none } } else s

/-- PREPARE_EXPIRED: the coordinator's commit timeout has passed since the vote (R83). -/
def prepareExpired (s : State) : State :=
  match s.rng.prepared with
  | none => s
  | some p =>
    if p.local_ ∨ p.commitAt.isSome = true ∨ s.now < p.votedAt + p.timeoutMs * tpMs then s
    else raise 0x3802 0x08 (leBytes 1 p.coord.toNat ++ [0] ++ leBytes 2 p.txn.toNat ++ leBytes 2 p.opcode
        ++ leBytes 2 p.cmd.seq.toNat ++ zeros 8)
      { s with rng := { s.rng with prepared := none } }

/-! Relayed commands (R56, R79, R80) -/

/-- Relayed commands outstanding from this unit. -/
def outstanding (s : State) : Nat := s.rng.relays.length + (s.rng.coords.filter (hasOthers s)).length

/-- CMD arrives: the target checks every step against its own state and replies through the ring. -/
def takeCmd (src : BitVec 5) (opcode : Nat) (c : Cmd) (s : State) : State :=
  let ran : Verdict × State := match specOf opcode with
    | none => ((eBadOpcode, []), s)
    | some d => if twoPhase c then ((eBadValue, []), s) else runLocal d c (ringAsker src) s
  let v := ran.1
  let s1 := ran.2
  let s2 := sendRing src (.rpl { seq := c.seq, status := BitVec.ofNat 16 v.1, opcode := BitVec.ofNat 16 opcode,
                                 result := v.2, source := BitVec.ofNat 8 s1.rng.address.toNat }) s1
  let s3 := oweCompletions opcode c v src s2
  match specOf opcode with
  | some d => complete d v s3
  | none => s3

/-- A relayed reply is written as the host asked for it (R50). -/
def relayedReply (c : Cmd) (r : Reply) (s : State) : State :=
  if replyWanted c || !(r.status.toNat == eOk || r.status.toNat == ePending) then reply r s else s

/-- A broadcast read that has every answer gets its summary. -/
def settleRelay (x : Relay) (s : State) : State :=
  if x.answers.all (·.status.isSome) then
    readSummary x.opcode x.cmd x.answers { s with rng := { s.rng with relays := s.rng.relays.filter (· ≠ x) } }
  else s

/-- RPL: the answer to a relayed command that waits for it. -/
def takeReply (r : Reply) (s : State) : State :=
  let src : BitVec 5 := BitVec.ofNat 5 r.source.toNat
  let waits : Relay → Bool := fun x =>
    x.opcode == r.opcode.toNat && decide (x.cmd.seq = r.seq) && x.answers.any fun a => decide (a.address = src) && a.status.isNone
  match s.rng.relays.find? waits with
  | none => s
  | some x =>
    let s := relayedReply x.cmd r s
    if !x.broadcast then { s with rng := { s.rng with relays := s.rng.relays.filter (· ≠ x) } }
    else
      let take : Answer → Answer := fun a => if a.address = src then { a with status := some r.status } else a
      let y := { x with answers := x.answers.map take }
      settleRelay y { s with rng := { s.rng with relays := s.rng.relays.map fun z => if z = x then y else z } }

/-- RELAY_TIMEOUT: reads whose relay_timeout has passed. -/
def relayTimeout (s : State) : State :=
  each (s.rng.relays.filter fun x => decide (x.sentAt + x.timeoutUs * tpUs ≤ s.now)) (fun x s =>
    let s := { s with rng := { s.rng with relays := s.rng.relays.filter (· ≠ x) } }
    if x.broadcast then readSummary x.opcode x.cmd x.answers s
    else answer x.opcode x.cmd (eTimeout, []) s) s

/-- A read for another unit, or for every unit. -/
def relayRead (d : CmdSpec) (c : Cmd) (units : List (BitVec 5)) (broadcast : Bool) (s : State) : State :=
  let own := s.rng.address
  let ran : Verdict × State :=
    if broadcast then runLocal d c (localAsker s) s else ((eOk, []), s)
  let s := if broadcast then complete d ran.1 (answer d.opcode c ran.1 ran.2) else ran.2
  let answers := units.map fun u =>
    if broadcast ∧ u = own then { address := u, status := some (BitVec.ofNat 16 ran.1.1) } else { address := u : Answer }
  let x : Relay := { opcode := d.opcode, cmd := c, sentAt := s.now, broadcast := broadcast, answers := answers,
                     timeoutUs := relayTimeoutUs s }
  let s := { s with rng := { s.rng with relays := s.rng.relays ++ [x] } }
  let s := if units.all (· = own) then s
    else sendRing (if broadcast then 31 else BitVec.ofNat 5 c.target.toNat) (.cmd (BitVec.ofNat 16 d.opcode) c) s
  if broadcast then settleRelay x s else s

/-- A command for another unit or for every unit, whose header and lengths are right. -/
def serveRelayed (d : CmdSpec) (c : Cmd) (s : State) : State :=
  let target : BitVec 5 := BitVec.ofNat 5 c.target.toNat
  let units : List (BitVec 5) := if target = 31 then ringAddrs s else [target]
  if target ≠ 31 ∧ (!(ringAddrs s).contains target ∨ !reachable s target) then answer d.opcode c (eUnreachable, []) s
  else if 64 ≤ outstanding s then answer d.opcode c (eNoResource, []) s
  else if twoPhase c then beginTxn d c units s
  else relayRead d c units (target = 31) s

/-- A command that this unit alone carries out: target 0, its own address, or every unit of a ring map that holds none
(R80, R81). -/
def serveHere (d : CmdSpec) (c : Cmd) (s : State) : State :=
  if twoPhase c && (headRefusal d c s).isNone then beginTxn d c [s.rng.address] s
  else
    let v : Verdict × State := match (if twoPhase c && modePermits d s then headRefusal d c s else none) with
      | some v => (v, s)
      | none => runLocal d c (localAsker s) s
    let s1 := complete d v.1 (answer d.opcode c v.1 v.2)
    if c.target.toNat = 31 ∧ headRefusal d c s = none then
      readSummary d.opcode c [{ address := 0, status := some (BitVec.ofNat 16 v.1.1) }] s1
    else s1

/-- One command of the Command Ring (R49, R53, R79 to R81). -/
def serve (opcode : Nat) (c : Cmd) (s : State) : State :=
  match specOf opcode with
  | none => answer opcode c (eBadOpcode, []) s
  | some d =>
    let alone := isLocal c s || (decide (c.target.toNat = 31) && s.rng.order.isEmpty)
    if alone || !relayFlag c || decide (31 < c.target.toNat) then serveHere d c s
    else match headRefusal d c s with
      | some v => answer opcode c v s
      | none => serveRelayed d c s

/-! The Command Ring (R31, R43, R48, R55, R83) -/

/-- Entries of a command: one more than cont_count, and one where cont_count exceeds 15 (R48). -/
def entriesOf (c : Cmd) : Nat := if 15 < c.cont.toNat then 1 else 1 + c.cont.toNat

/-- HUB services the ring: from SELFTEST or FAILED on, unless it failed its own test (R31). -/
def hubServes (s : State) : Bool :=
  !s.hub.dead && (decide (s.hub.mode ≠ .boot) || decide (2 ≤ bootCode s.hub.bootState))

/-- A command may begin: all its entries lie before the tail, and nothing holds the ring up (R40, R48, R55, R83). -/
def mayBegin (c : Cmd) (s : State) : Bool :=
  decide (entriesOf c ≤ inUse s.bar0.cmd.size.toNat s.bar0.cmd.other s.bar0.cmd.idx) && hubServes s && ringUsable s.bar0.cmd && ringUsable s.bar0.rpl && dmaOk s && decide (16 ≤ ringFree s.bar0.rpl)
    && s.rng.prepared.isNone

/-- The oldest command that waits is consumed and carried out. -/
def beginCommand (p : Placed) (rest : List Placed) (s : State) : State :=
  let r := s.bar0.cmd
  let n := (r.idx + entriesOf p.cmd) % r.size.toNat
  serve p.opcode p.cmd { s with bar0 := { s.bar0 with placed := rest, cmd := { r with idx := n } } }

/-- Commands begin one at a time, in ring order, while they may. -/
def serviceLoop : Nat → State → State
  | 0, s => s
  | n + 1, s =>
    match s.bar0.placed with
    | [] => s
    | p :: rest => if mayBegin p.cmd s then serviceLoop n (beginCommand p rest s) else s

def service (s : State) : State := serviceLoop s.bar0.placed.length s

/-- Index behind the last entry of the commands placed and not begun. -/
def placedEnd (s : State) : Nat :=
  (s.bar0.cmd.idx + sumNat (s.bar0.placed.map fun p => entriesOf p.cmd)) % s.bar0.cmd.size.toNat

/-- The host places a command and the tail covers its entries, by an earlier doorbell or by one of its own. In a ring
that is off or in error, or that has no room, an entry has no effect. -/
def place_ (opcode : Nat) (c : Cmd) (s : State) : State :=
  let r := s.bar0.cmd
  let size := r.size.toNat
  let at_ := placedEnd s
  let n := entriesOf c
  if !ringUsable r ∨ size ≤ inUse size at_ r.idx + n then s
  else
    let tail := if n ≤ inUse size r.other at_ then r.other else (at_ + n) % size
    { s with bar0 := { s.bar0 with
      placed := s.bar0.placed ++ [{ opcode := opcode, cmd := c }], cmd := { r with other := tail } } }

end Sys2Proof.Machine
end

