-- ==== Sys2Proof/Machine/HostCommands.lean ====
section
/-! DEFINITION. The rows of the host's commands: each is placed in the Command Ring with its opcode (R5, R47, R58) and
served in ring order. What each command does is its own specification, `specOf`. -/
namespace Sys2Proof.Machine

/-- A step after which waiting commands may begin and CAL goes on. -/
def serviceStep (t : Time) (f : State → State) (s : State) : Host.Outcome State Fault Refusal :=
  atPrint t (fun s => calStep (service (f s))) s

/-- A command placed by the host at its instant (R48, R55). -/
def hostCommand (opcode : Nat) (c : Cmd) (s : State) : Host.Outcome State Fault Refusal :=
  serviceStep c.t (place_ opcode c) s

/-- IDENTIFY (R31). -/
def execIdentify (c : Cmd) (s : State) : Host.Outcome State Fault Refusal := hostCommand 0x0001 c s

/-- FEATURE_QUERY (R32). -/
def execFeatureQuery (c : Cmd) (s : State) : Host.Outcome State Fault Refusal := hostCommand 0x0002 c s

/-- FEATURE_ACCEPT (R33). -/
def execFeatureAccept (c : Cmd) (s : State) : Host.Outcome State Fault Refusal := hostCommand 0x0003 c s

/-- MODE_SET (R34). -/
def execModeSet (c : Cmd) (s : State) : Host.Outcome State Fault Refusal := hostCommand 0x0004 c s

/-- SAFE_CLEAR (R23). -/
def execSafeClear (c : Cmd) (s : State) : Host.Outcome State Fault Refusal := hostCommand 0x0005 c s

/-- DEVICE_RESET (R23). -/
def execDeviceReset (c : Cmd) (s : State) : Host.Outcome State Fault Refusal := hostCommand 0x0006 c s

/-- CONFIG_READ (R36). -/
def execConfigRead (c : Cmd) (s : State) : Host.Outcome State Fault Refusal := hostCommand 0x0007 c s

/-- HOST_WATCHDOG_SET (R68). -/
def execHostWatchdogSet (c : Cmd) (s : State) : Host.Outcome State Fault Refusal := hostCommand 0x0008 c s

/-- UNDEFINED_OPCODE: a command with any opcode value (R5, R58). -/
def execUndefinedOpcode (opcode : BitVec 16) (c : Cmd) (s : State) : Host.Outcome State Fault Refusal :=
  hostCommand opcode.toNat c s

/-- RING_ENUMERATE (R77). -/
def execRingEnumerate (c : Cmd) (s : State) : Host.Outcome State Fault Refusal := hostCommand 0x0101 c s

/-- RING_CONFIG (R82). -/
def execRingConfig (c : Cmd) (s : State) : Host.Outcome State Fault Refusal := hostCommand 0x0102 c s

/-- RING_PORT_SET (R28). -/
def execRingPortSet (c : Cmd) (s : State) : Host.Outcome State Fault Refusal := hostCommand 0x0103 c s

/-- RING_PORT_START (R74). -/
def execRingPortStart (c : Cmd) (s : State) : Host.Outcome State Fault Refusal := hostCommand 0x0104 c s

/-- RING_PORT_STOP (R76). -/
def execRingPortStop (c : Cmd) (s : State) : Host.Outcome State Fault Refusal := hostCommand 0x0105 c s

/-- TIME_SOURCE_SET (R93). -/
def execTimeSourceSet (c : Cmd) (s : State) : Host.Outcome State Fault Refusal := hostCommand 0x0C01 c s

/-- PTP_DOMAIN_SET (R97). -/
def execPtpDomainSet (c : Cmd) (s : State) : Host.Outcome State Fault Refusal := hostCommand 0x0C02 c s

/-- NET_PORT_SET (R96). -/
def execNetPortSet (c : Cmd) (s : State) : Host.Outcome State Fault Refusal := hostCommand 0x0C03 c s

/-- TIME_STEP (R91). -/
def execTimeStep (c : Cmd) (s : State) : Host.Outcome State Fault Refusal := hostCommand 0x0C04 c s

/-- WINDOW_SET (R100). -/
def execWindowSet (c : Cmd) (s : State) : Host.Outcome State Fault Refusal := hostCommand 0x0C05 c s

/-- SNAPSHOT_ARM (R101). -/
def execSnapshotArm (c : Cmd) (s : State) : Host.Outcome State Fault Refusal := hostCommand 0x0C06 c s

/-- SNAP_PIN_SET (R104). -/
def execSnapPinSet (c : Cmd) (s : State) : Host.Outcome State Fault Refusal := hostCommand 0x0C07 c s

/-- ENC_INPUT_SET (R114). -/
def execEncInputSet (c : Cmd) (s : State) : Host.Outcome State Fault Refusal := hostCommand 0x0601 c s

/-- REGULATOR_SET (R118). -/
def execRegulatorSet (c : Cmd) (s : State) : Host.Outcome State Fault Refusal := hostCommand 0x0602 c s

/-- ENC_ACTIVE_SET (R119). -/
def execEncActiveSet (c : Cmd) (s : State) : Host.Outcome State Fault Refusal := hostCommand 0x0603 c s

/-- PULSE_SET (R123). -/
def execPulseSet (c : Cmd) (s : State) : Host.Outcome State Fault Refusal := hostCommand 0x0604 c s

/-- PAGE_LOAD (R130). -/
def execPageLoad (c : Cmd) (s : State) : Host.Outcome State Fault Refusal := hostCommand 0x0201 c s

/-- PAGE_DISCARD (R128). -/
def execPageDiscard (c : Cmd) (s : State) : Host.Outcome State Fault Refusal := hostCommand 0x0202 c s

/-- PAGE_QUERY (R128). -/
def execPageQuery (c : Cmd) (s : State) : Host.Outcome State Fault Refusal := hostCommand 0x0203 c s

/-- QUEUE_APPEND (R131). -/
def execQueueAppend (c : Cmd) (s : State) : Host.Outcome State Fault Refusal := hostCommand 0x0204 c s

/-- QUEUE_COMMIT (R132). -/
def execQueueCommit (c : Cmd) (s : State) : Host.Outcome State Fault Refusal := hostCommand 0x0205 c s

/-- QUEUE_CLEAR (R131). -/
def execQueueClear (c : Cmd) (s : State) : Host.Outcome State Fault Refusal := hostCommand 0x0206 c s

/-- MEM_PORT_SET (R140). -/
def execMemPortSet (c : Cmd) (s : State) : Host.Outcome State Fault Refusal := hostCommand 0x0207 c s

/-- MEM_CONFIG_SET (R135). -/
def execMemConfigSet (c : Cmd) (s : State) : Host.Outcome State Fault Refusal := hostCommand 0x0208 c s

/-- MEM_DRAM_DESCRIBE (R135). -/
def execMemDramDescribe (c : Cmd) (s : State) : Host.Outcome State Fault Refusal := hostCommand 0x0209 c s

/-- MEM_DELAY_MEASURE (R138). -/
def execMemDelayMeasure (c : Cmd) (s : State) : Host.Outcome State Fault Refusal := hostCommand 0x020A c s

/-- GRT_BAR_SET (R143). -/
def execGrtBarSet (c : Cmd) (s : State) : Host.Outcome State Fault Refusal := hostCommand 0x0301 c s

/-- GRT_MODULE_SET (R146). -/
def execGrtModuleSet (c : Cmd) (s : State) : Host.Outcome State Fault Refusal := hostCommand 0x0302 c s

/-- GRT_STITCH_SET (R151). -/
def execGrtStitchSet (c : Cmd) (s : State) : Host.Outcome State Fault Refusal := hostCommand 0x0303 c s

/-- GRT_NOZZLE_STAGE (R152). -/
def execGrtNozzleStage (c : Cmd) (s : State) : Host.Outcome State Fault Refusal := hostCommand 0x0304 c s

/-- GRT_NOZZLE_COMMIT (R153). -/
def execGrtNozzleCommit (c : Cmd) (s : State) : Host.Outcome State Fault Refusal := hostCommand 0x0305 c s

/-- GRT_NOZZLE_READ (R152). -/
def execGrtNozzleRead (c : Cmd) (s : State) : Host.Outcome State Fault Refusal := hostCommand 0x0306 c s

/-- ESC_CONFIG_SET (R169). -/
def execEscConfigSet (c : Cmd) (s : State) : Host.Outcome State Fault Refusal := hostCommand 0x0401 c s

/-- ESC_RUNAHEAD_SET (R167). -/
def execEscRunaheadSet (c : Cmd) (s : State) : Host.Outcome State Fault Refusal := hostCommand 0x0402 c s

/-- ESC_HEAD_PROFILE_SET (R164). -/
def execEscHeadProfileSet (c : Cmd) (s : State) : Host.Outcome State Fault Refusal := hostCommand 0x0403 c s

/-- ESC_ROW_OFFSET_SET (R163). -/
def execEscRowOffsetSet (c : Cmd) (s : State) : Host.Outcome State Fault Refusal := hostCommand 0x0404 c s

/-- ESC_TIMING_READ (R163). -/
def execEscTimingRead (c : Cmd) (s : State) : Host.Outcome State Fault Refusal := hostCommand 0x0405 c s

/-- HLK_CONFIG_SET (R207). -/
def execHlkConfigSet (c : Cmd) (s : State) : Host.Outcome State Fault Refusal := hostCommand 0x0501 c s

/-- HLK_LANE_SET (R204). -/
def execHlkLaneSet (c : Cmd) (s : State) : Host.Outcome State Fault Refusal := hostCommand 0x0502 c s

/-- HLK_LANE_RESTORE (R207). -/
def execHlkLaneRestore (c : Cmd) (s : State) : Host.Outcome State Fault Refusal := hostCommand 0x0503 c s

/-- HLK_EYE_SCAN (R211). -/
def execHlkEyeScan (c : Cmd) (s : State) : Host.Outcome State Fault Refusal := hostCommand 0x0504 c s

/-- HLK_LANE_TEST (R212). -/
def execHlkLaneTest (c : Cmd) (s : State) : Host.Outcome State Fault Refusal := hostCommand 0x0505 c s

/-- HLK_MODULE_READ (R205). -/
def execHlkModuleRead (c : Cmd) (s : State) : Host.Outcome State Fault Refusal := hostCommand 0x0506 c s

/-- HLK_PURGE (R209). -/
def execHlkPurge (c : Cmd) (s : State) : Host.Outcome State Fault Refusal := hostCommand 0x0507 c s

/-- LDG_CONFIG_SET (R236). -/
def execLdgConfigSet (c : Cmd) (s : State) : Host.Outcome State Fault Refusal := hostCommand 0x0701 c s

/-- LDG_STREAM_SET (R229). -/
def execLdgStreamSet (c : Cmd) (s : State) : Host.Outcome State Fault Refusal := hostCommand 0x0702 c s

/-- LDG_BLOCK_ACK (R230). -/
def execLdgBlockAck (c : Cmd) (s : State) : Host.Outcome State Fault Refusal := hostCommand 0x0703 c s

/-- LDG_TICKET_QUERY (R216). -/
def execLdgTicketQuery (c : Cmd) (s : State) : Host.Outcome State Fault Refusal := hostCommand 0x0704 c s

/-- LDG_VOID (R220). -/
def execLdgVoid (c : Cmd) (s : State) : Host.Outcome State Fault Refusal := hostCommand 0x0705 c s

/-- LDG_SEAL (R225). -/
def execLdgSeal (c : Cmd) (s : State) : Host.Outcome State Fault Refusal := hostCommand 0x0706 c s

/-- INS_CAMERA_SET (R241). -/
def execInsCameraSet (c : Cmd) (s : State) : Host.Outcome State Fault Refusal := hostCommand 0x0801 c s

/-- INS_CAMERA_START (R242). -/
def execInsCameraStart (c : Cmd) (s : State) : Host.Outcome State Fault Refusal := hostCommand 0x0802 c s

/-- INS_CAMERA_STOP (R242). -/
def execInsCameraStop (c : Cmd) (s : State) : Host.Outcome State Fault Refusal := hostCommand 0x0803 c s

/-- EXPOSURE_SET (R250). -/
def execExposureSet (c : Cmd) (s : State) : Host.Outcome State Fault Refusal := hostCommand 0x0804 c s

/-- INS_COMPARE_SET (R256). -/
def execInsCompareSet (c : Cmd) (s : State) : Host.Outcome State Fault Refusal := hostCommand 0x0805 c s

/-- INS_DISPLAY_SET (R253). -/
def execInsDisplaySet (c : Cmd) (s : State) : Host.Outcome State Fault Refusal := hostCommand 0x0806 c s

/-- INS_OUTPUT_SET (R252). -/
def execInsOutputSet (c : Cmd) (s : State) : Host.Outcome State Fault Refusal := hostCommand 0x0807 c s

/-- INS_OUTPUT_ACK (R252). -/
def execInsOutputAck (c : Cmd) (s : State) : Host.Outcome State Fault Refusal := hostCommand 0x0808 c s

/-- INS_STRIPE_ADD (R258). -/
def execInsStripeAdd (c : Cmd) (s : State) : Host.Outcome State Fault Refusal := hostCommand 0x0809 c s

/-- INS_STATS_READ (R249). -/
def execInsStatsRead (c : Cmd) (s : State) : Host.Outcome State Fault Refusal := hostCommand 0x080A c s

/-- CAL_POLICY_SET (R271). -/
def execCalPolicySet (c : Cmd) (s : State) : Host.Outcome State Fault Refusal := hostCommand 0x0A01 c s

/-- CAL_RUN (R266). -/
def execCalRun (c : Cmd) (s : State) : Host.Outcome State Fault Refusal := hostCommand 0x0A02 c s

/-- CAL_REFERENCE (R265). -/
def execCalReference (c : Cmd) (s : State) : Host.Outcome State Fault Refusal := hostCommand 0x0A03 c s

/-- CAL_PATCH_ADD (R272). -/
def execCalPatchAdd (c : Cmd) (s : State) : Host.Outcome State Fault Refusal := hostCommand 0x0A04 c s

/-- CAL_ABORT (R266). -/
def execCalAbort (c : Cmd) (s : State) : Host.Outcome State Fault Refusal := hostCommand 0x0A05 c s

/-- CAL_RESULT_READ (R267). -/
def execCalResultRead (c : Cmd) (s : State) : Host.Outcome State Fault Refusal := hostCommand 0x0A06 c s

/-- CAL_CLEAR (R270). -/
def execCalClear (c : Cmd) (s : State) : Host.Outcome State Fault Refusal := hostCommand 0x0A07 c s

/-- THM_CONFIG_SET (R281). -/
def execThmConfigSet (c : Cmd) (s : State) : Host.Outcome State Fault Refusal := hostCommand 0x0D01 c s

/-- THM_SENSOR_CLEAR (R279). -/
def execThmSensorClear (c : Cmd) (s : State) : Host.Outcome State Fault Refusal := hostCommand 0x0D02 c s

/-- AXS_CONFIG_SET (R295). -/
def execAxsConfigSet (c : Cmd) (s : State) : Host.Outcome State Fault Refusal := hostCommand 0x0B01 c s

/-- AXS_START (R300). -/
def execAxsStart (c : Cmd) (s : State) : Host.Outcome State Fault Refusal := hostCommand 0x0B02 c s

/-- AXS_STOP (R300). -/
def execAxsStop (c : Cmd) (s : State) : Host.Outcome State Fault Refusal := hostCommand 0x0B03 c s

/-- AXS_MOVE (R302). -/
def execAxsMove (c : Cmd) (s : State) : Host.Outcome State Fault Refusal := hostCommand 0x0B04 c s

/-- AXS_HOME (R306). -/
def execAxsHome (c : Cmd) (s : State) : Host.Outcome State Fault Refusal := hostCommand 0x0B05 c s

/-- AXS_FAULT_CLEAR (R305). -/
def execAxsFaultClear (c : Cmd) (s : State) : Host.Outcome State Fault Refusal := hostCommand 0x0B06 c s

/-- VIEW_MODE_SET (R317). -/
def execViewModeSet (c : Cmd) (s : State) : Host.Outcome State Fault Refusal := hostCommand 0x0901 c s

/-- VIEW_START (R317). -/
def execViewStart (c : Cmd) (s : State) : Host.Outcome State Fault Refusal := hostCommand 0x0902 c s

/-- VIEW_STOP (R317). -/
def execViewStop (c : Cmd) (s : State) : Host.Outcome State Fault Refusal := hostCommand 0x0903 c s

/-- VIEW_FRAME_SET (R319). -/
def execViewFrameSet (c : Cmd) (s : State) : Host.Outcome State Fault Refusal := hostCommand 0x0904 c s

/-- MSS_CONFIG_SET (R348). -/
def execMssConfigSet (c : Cmd) (s : State) : Host.Outcome State Fault Refusal := hostCommand 0x0E01 c s

/-- MSS_KEY_READ (R331). -/
def execMssKeyRead (c : Cmd) (s : State) : Host.Outcome State Fault Refusal := hostCommand 0x0E02 c s

/-- MSS_UPDATE_BEGIN (R341). -/
def execMssUpdateBegin (c : Cmd) (s : State) : Host.Outcome State Fault Refusal := hostCommand 0x0E03 c s

/-- MSS_UPDATE_WRITE (R341). -/
def execMssUpdateWrite (c : Cmd) (s : State) : Host.Outcome State Fault Refusal := hostCommand 0x0E04 c s

/-- MSS_UPDATE_VERIFY (R341). -/
def execMssUpdateVerify (c : Cmd) (s : State) : Host.Outcome State Fault Refusal := hostCommand 0x0E05 c s

/-- MSS_UPDATE_ACTIVATE (R342). -/
def execMssUpdateActivate (c : Cmd) (s : State) : Host.Outcome State Fault Refusal := hostCommand 0x0E06 c s

/-- MSS_ROLLBACK_FENCE (R330). -/
def execMssRollbackFence (c : Cmd) (s : State) : Host.Outcome State Fault Refusal := hostCommand 0x0E07 c s

/-- MSS_SEAL (R345). -/
def execMssSeal (c : Cmd) (s : State) : Host.Outcome State Fault Refusal := hostCommand 0x0E08 c s

/-- MSS_LOG_READ (R340). -/
def execMssLogRead (c : Cmd) (s : State) : Host.Outcome State Fault Refusal := hostCommand 0x0E09 c s

/-- ATTEST (R346). -/
def execAttest (c : Cmd) (s : State) : Host.Outcome State Fault Refusal := hostCommand 0x0E10 c s

end Sys2Proof.Machine
end

