-- ==== Sys2Proof/Machine/DeviceSteps.lean ====
section
/-! DEFINITION. The remaining rows: doorbells and registers behind which commands wait (03), the link and the function
(R40), modes (R27), resets and boot (R30, R89), and the ring's relays and transactions (R79 to R84). -/
namespace Sys2Proof.Machine

/-! Host interface -/

def execCmdTailDb (t : Time) (v : BitVec 32) (readFails : Bool) (s : State) : Host.Outcome State Fault Refusal :=
  serviceStep t (tailDoorbell v readFails) s

def execRplHeadDb (t : Time) (v : BitVec 32) (s : State) : Host.Outcome State Fault Refusal :=
  serviceStep t (headDoorbell .rpl v) s

def execRplRingEnable (t : Time) (s : State) : Host.Outcome State Fault Refusal := serviceStep t (enableRing .rpl) s

def execBar0RegisterWrite (t : Time) (offset size : Nat) (v : BitVec 64) (s : State) : Host.Outcome State Fault Refusal :=
  serviceStep t (registerWrite offset size v) s

def execLinkUp (t : Time) (gen width : Nat) (s : State) : Host.Outcome State Fault Refusal :=
  serviceStep t (linkUp gen width) s

def execBusMasterEnableCleared (t : Time) (s : State) : Host.Outcome State Fault Refusal :=
  serviceStep t (fun s => hostAccess false s.link.d3hot s) s

def execBusMasterEnableSet (t : Time) (s : State) : Host.Outcome State Fault Refusal :=
  serviceStep t (fun s => hostAccess true s.link.d3hot s) s

def execD3hotEntry (t : Time) (s : State) : Host.Outcome State Fault Refusal :=
  serviceStep t (fun s => hostAccess s.link.busMaster true s) s

def execD3hotExit (t : Time) (s : State) : Host.Outcome State Fault Refusal :=
  serviceStep t (fun s => hostAccess s.link.busMaster false s) s

/-! Resets and boot -/

def execPowerOnReset (t : Time) (s : State) : Host.Outcome State Fault Refusal := always t powerOnReset s
def execPowerOnResetRelease (t : Time) (s : State) : Host.Outcome State Fault Refusal := always t releaseReset s
def execResetNLow (t : Time) (s : State) : Host.Outcome State Fault Refusal := always t resetNLow s
def execPerst (t : Time) (s : State) : Host.Outcome State Fault Refusal := always t perst s
def execPerstRelease (t : Time) (s : State) : Host.Outcome State Fault Refusal := always t releaseReset s
def execDeviceResetExecute (t : Time) (s : State) : Host.Outcome State Fault Refusal := always t deviceReset s
def execLockstepReset (t : Time) (s : State) : Host.Outcome State Fault Refusal := always t lockstepReset s
def execCoreRestart (t : Time) (s : State) : Host.Outcome State Fault Refusal := always t coreRestart s

def execRomDone (t : Time) (rngOk : Bool) (s : State) : Host.Outcome State Fault Refusal := serviceStep t (romDone rngOk) s

def execImageDone (t : Time) (reasonA reasonB : Nat) (board : Option ImageSlot) (hubOk : Bool) (s : State) :
    Host.Outcome State Fault Refusal := serviceStep t (imageDone reasonA reasonB board hubOk) s

def execSelftestDone (t : Time) (failed : BitVec 16) (s : State) : Host.Outcome State Fault Refusal :=
  serviceStep t (selftestDone failed) s

def execNvmCheckDone (t : Time) (ok0 ok1 : Bool) (s : State) : Host.Outcome State Fault Refusal :=
  serviceStep t (nvmCheckDone ok0 ok1) s

def execDramInitDone (t : Time) (ok : Bool) (s : State) : Host.Outcome State Fault Refusal :=
  serviceStep t (dramInitDone ok) s

def execRecoveryDone (t : Time) (s : State) : Host.Outcome State Fault Refusal := serviceStep t recoveryDone s

/-! Modes -/

def execModeTransitionInstant (t : Time) (line : Option Int) (s : State) : Host.Outcome State Fault Refusal :=
  serviceStep t (modeTransition line) s

def execDrainComplete (t : Time) (s : State) : Host.Outcome State Fault Refusal := serviceStep t drainComplete s
def execAutoResume (t : Time) (s : State) : Host.Outcome State Fault Refusal := serviceStep t autoResume s
def execHostWatchdogExpiry (t : Time) (s : State) : Host.Outcome State Fault Refusal := serviceStep t watchdogExpiry s

def execInterlockOpen (t since : Time) (s : State) : Host.Outcome State Fault Refusal :=
  serviceStep t (interlockOpens since) s

def execInterlockClose (t since : Time) (s : State) : Host.Outcome State Fault Refusal :=
  serviceStep t (interlockCloses since) s

/-! Relays and transactions -/

def execCmd (t : Time) (h : RingHdr) (opcode : BitVec 16) (c : Cmd) (s : State) : Host.Outcome State Fault Refusal :=
  serviceStep t (arrive h (.cmd opcode c) false (takeCmd h.src opcode.toNat c)) s

def execRpl (t : Time) (h : RingHdr) (r : Reply) (s : State) : Host.Outcome State Fault Refusal :=
  serviceStep t (arrive h (.rpl r) false (takeReply r)) s

def execPrepare (t : Time) (h : RingHdr) (txn : BitVec 16) (timeoutMs : Nat) (opcode : BitVec 16) (c : Cmd) (s : State) :
    Host.Outcome State Fault Refusal :=
  serviceStep t (arrive h (.prepare txn timeoutMs opcode c) false (takePrepare h.src txn timeoutMs opcode.toNat c)) s

def execVote (t : Time) (h : RingHdr) (txn : BitVec 16) (status : BitVec 16) (result : Bytes) (s : State) :
    Host.Outcome State Fault Refusal :=
  serviceStep t (arrive h (.vote txn status result) false (takeVote h.src txn status result)) s

def execCommit (t : Time) (h : RingHdr) (txn : BitVec 16) (instant : Time) (s : State) :
    Host.Outcome State Fault Refusal :=
  serviceStep t (arrive h (.commit txn instant) false (takeCommit h.src txn instant)) s

def execAbort (t : Time) (h : RingHdr) (txn : BitVec 16) (s : State) : Host.Outcome State Fault Refusal :=
  serviceStep t (arrive h (.abort txn) false (takeAbort h.src txn)) s

def execCommitInstant (t : Time) (s : State) : Host.Outcome State Fault Refusal := serviceStep t commitInstant s
def execVoteTimeout (t : Time) (s : State) : Host.Outcome State Fault Refusal := serviceStep t voteTimeout s
def execPrepareExpired (t : Time) (s : State) : Host.Outcome State Fault Refusal := serviceStep t prepareExpired s
def execRelayTimeout (t : Time) (s : State) : Host.Outcome State Fault Refusal := serviceStep t relayTimeout s

end Sys2Proof.Machine
end

