-- ==== Sys2Proof/Machine/Dispatch.lean ====
section
/-! DEFINITION. One arm for each constructor of `Instr`: a direct call of its meaning. -/
namespace Sys2Proof.Machine

def exec (i : Instr) (s : State) : Host.Outcome State Fault Refusal :=
  match i with
  | .identify c => Sys2Proof.Machine.execIdentify c s
  | .featureQuery c => Sys2Proof.Machine.execFeatureQuery c s
  | .featureAccept c => Sys2Proof.Machine.execFeatureAccept c s
  | .modeSet c => Sys2Proof.Machine.execModeSet c s
  | .safeClear c => Sys2Proof.Machine.execSafeClear c s
  | .deviceReset c => Sys2Proof.Machine.execDeviceReset c s
  | .configRead c => Sys2Proof.Machine.execConfigRead c s
  | .hostWatchdogSet c => Sys2Proof.Machine.execHostWatchdogSet c s
  | .undefinedOpcode opcode c => Sys2Proof.Machine.execUndefinedOpcode opcode c s
  | .ringEnumerate c => Sys2Proof.Machine.execRingEnumerate c s
  | .ringConfig c => Sys2Proof.Machine.execRingConfig c s
  | .ringPortSet c => Sys2Proof.Machine.execRingPortSet c s
  | .ringPortStart c => Sys2Proof.Machine.execRingPortStart c s
  | .ringPortStop c => Sys2Proof.Machine.execRingPortStop c s
  | .timeSourceSet c => Sys2Proof.Machine.execTimeSourceSet c s
  | .ptpDomainSet c => Sys2Proof.Machine.execPtpDomainSet c s
  | .netPortSet c => Sys2Proof.Machine.execNetPortSet c s
  | .timeStep c => Sys2Proof.Machine.execTimeStep c s
  | .windowSet c => Sys2Proof.Machine.execWindowSet c s
  | .snapshotArm c => Sys2Proof.Machine.execSnapshotArm c s
  | .snapPinSet c => Sys2Proof.Machine.execSnapPinSet c s
  | .encInputSet c => Sys2Proof.Machine.execEncInputSet c s
  | .regulatorSet c => Sys2Proof.Machine.execRegulatorSet c s
  | .encActiveSet c => Sys2Proof.Machine.execEncActiveSet c s
  | .pulseSet c => Sys2Proof.Machine.execPulseSet c s
  | .pageLoad c => Sys2Proof.Machine.execPageLoad c s
  | .pageDiscard c => Sys2Proof.Machine.execPageDiscard c s
  | .pageQuery c => Sys2Proof.Machine.execPageQuery c s
  | .queueAppend c => Sys2Proof.Machine.execQueueAppend c s
  | .queueCommit c => Sys2Proof.Machine.execQueueCommit c s
  | .queueClear c => Sys2Proof.Machine.execQueueClear c s
  | .memPortSet c => Sys2Proof.Machine.execMemPortSet c s
  | .memConfigSet c => Sys2Proof.Machine.execMemConfigSet c s
  | .memDramDescribe c => Sys2Proof.Machine.execMemDramDescribe c s
  | .memDelayMeasure c => Sys2Proof.Machine.execMemDelayMeasure c s
  | .grtBarSet c => Sys2Proof.Machine.execGrtBarSet c s
  | .grtModuleSet c => Sys2Proof.Machine.execGrtModuleSet c s
  | .grtStitchSet c => Sys2Proof.Machine.execGrtStitchSet c s
  | .grtNozzleStage c => Sys2Proof.Machine.execGrtNozzleStage c s
  | .grtNozzleCommit c => Sys2Proof.Machine.execGrtNozzleCommit c s
  | .grtNozzleRead c => Sys2Proof.Machine.execGrtNozzleRead c s
  | .escConfigSet c => Sys2Proof.Machine.execEscConfigSet c s
  | .escRunaheadSet c => Sys2Proof.Machine.execEscRunaheadSet c s
  | .escHeadProfileSet c => Sys2Proof.Machine.execEscHeadProfileSet c s
  | .escRowOffsetSet c => Sys2Proof.Machine.execEscRowOffsetSet c s
  | .escTimingRead c => Sys2Proof.Machine.execEscTimingRead c s
  | .hlkConfigSet c => Sys2Proof.Machine.execHlkConfigSet c s
  | .hlkLaneSet c => Sys2Proof.Machine.execHlkLaneSet c s
  | .hlkLaneRestore c => Sys2Proof.Machine.execHlkLaneRestore c s
  | .hlkEyeScan c => Sys2Proof.Machine.execHlkEyeScan c s
  | .hlkLaneTest c => Sys2Proof.Machine.execHlkLaneTest c s
  | .hlkModuleRead c => Sys2Proof.Machine.execHlkModuleRead c s
  | .hlkPurge c => Sys2Proof.Machine.execHlkPurge c s
  | .ldgConfigSet c => Sys2Proof.Machine.execLdgConfigSet c s
  | .ldgStreamSet c => Sys2Proof.Machine.execLdgStreamSet c s
  | .ldgBlockAck c => Sys2Proof.Machine.execLdgBlockAck c s
  | .ldgTicketQuery c => Sys2Proof.Machine.execLdgTicketQuery c s
  | .ldgVoid c => Sys2Proof.Machine.execLdgVoid c s
  | .ldgSeal c => Sys2Proof.Machine.execLdgSeal c s
  | .insCameraSet c => Sys2Proof.Machine.execInsCameraSet c s
  | .insCameraStart c => Sys2Proof.Machine.execInsCameraStart c s
  | .insCameraStop c => Sys2Proof.Machine.execInsCameraStop c s
  | .exposureSet c => Sys2Proof.Machine.execExposureSet c s
  | .insCompareSet c => Sys2Proof.Machine.execInsCompareSet c s
  | .insDisplaySet c => Sys2Proof.Machine.execInsDisplaySet c s
  | .insOutputSet c => Sys2Proof.Machine.execInsOutputSet c s
  | .insOutputAck c => Sys2Proof.Machine.execInsOutputAck c s
  | .insStripeAdd c => Sys2Proof.Machine.execInsStripeAdd c s
  | .insStatsRead c => Sys2Proof.Machine.execInsStatsRead c s
  | .calPolicySet c => Sys2Proof.Machine.execCalPolicySet c s
  | .calRun c => Sys2Proof.Machine.execCalRun c s
  | .calReference c => Sys2Proof.Machine.execCalReference c s
  | .calPatchAdd c => Sys2Proof.Machine.execCalPatchAdd c s
  | .calAbort c => Sys2Proof.Machine.execCalAbort c s
  | .calResultRead c => Sys2Proof.Machine.execCalResultRead c s
  | .calClear c => Sys2Proof.Machine.execCalClear c s
  | .thmConfigSet c => Sys2Proof.Machine.execThmConfigSet c s
  | .thmSensorClear c => Sys2Proof.Machine.execThmSensorClear c s
  | .axsConfigSet c => Sys2Proof.Machine.execAxsConfigSet c s
  | .axsStart c => Sys2Proof.Machine.execAxsStart c s
  | .axsStop c => Sys2Proof.Machine.execAxsStop c s
  | .axsMove c => Sys2Proof.Machine.execAxsMove c s
  | .axsHome c => Sys2Proof.Machine.execAxsHome c s
  | .axsFaultClear c => Sys2Proof.Machine.execAxsFaultClear c s
  | .viewModeSet c => Sys2Proof.Machine.execViewModeSet c s
  | .viewStart c => Sys2Proof.Machine.execViewStart c s
  | .viewStop c => Sys2Proof.Machine.execViewStop c s
  | .viewFrameSet c => Sys2Proof.Machine.execViewFrameSet c s
  | .mssConfigSet c => Sys2Proof.Machine.execMssConfigSet c s
  | .mssKeyRead c => Sys2Proof.Machine.execMssKeyRead c s
  | .mssUpdateBegin c => Sys2Proof.Machine.execMssUpdateBegin c s
  | .mssUpdateWrite c => Sys2Proof.Machine.execMssUpdateWrite c s
  | .mssUpdateVerify c => Sys2Proof.Machine.execMssUpdateVerify c s
  | .mssUpdateActivate c => Sys2Proof.Machine.execMssUpdateActivate c s
  | .mssRollbackFence c => Sys2Proof.Machine.execMssRollbackFence c s
  | .mssSeal c => Sys2Proof.Machine.execMssSeal c s
  | .mssLogRead c => Sys2Proof.Machine.execMssLogRead c s
  | .attest c => Sys2Proof.Machine.execAttest c s
  | .cmdTailDb t v readFails => Sys2Proof.Machine.execCmdTailDb t v readFails s
  | .rplHeadDb t v => Sys2Proof.Machine.execRplHeadDb t v s
  | .evtHeadDb t v => Sys2Proof.Machine.execEvtHeadDb t v s
  | .hostHeartbeat t v => Sys2Proof.Machine.execHostHeartbeat t v s
  | .cmdRingEnable t => Sys2Proof.Machine.execCmdRingEnable t s
  | .cmdRingDisable t => Sys2Proof.Machine.execCmdRingDisable t s
  | .rplRingEnable t => Sys2Proof.Machine.execRplRingEnable t s
  | .rplRingDisable t => Sys2Proof.Machine.execRplRingDisable t s
  | .evtRingEnable t => Sys2Proof.Machine.execEvtRingEnable t s
  | .evtRingDisable t => Sys2Proof.Machine.execEvtRingDisable t s
  | .bar0RegisterWrite t offset size v => Sys2Proof.Machine.execBar0RegisterWrite t offset size v s
  | .coalesceTimeout t source => Sys2Proof.Machine.execCoalesceTimeout t source s
  | .devHeartbeatTick t => Sys2Proof.Machine.execDevHeartbeatTick t s
  | .functionLevelReset t => Sys2Proof.Machine.execFunctionLevelReset t s
  | .linkDown t => Sys2Proof.Machine.execLinkDown t s
  | .linkUp t gen width => Sys2Proof.Machine.execLinkUp t gen width s
  | .busMasterEnableCleared t => Sys2Proof.Machine.execBusMasterEnableCleared t s
  | .d3hotEntry t => Sys2Proof.Machine.execD3hotEntry t s
  | .powerOnReset t => Sys2Proof.Machine.execPowerOnReset t s
  | .powerOnResetRelease t => Sys2Proof.Machine.execPowerOnResetRelease t s
  | .resetNLow t => Sys2Proof.Machine.execResetNLow t s
  | .perst t => Sys2Proof.Machine.execPerst t s
  | .perstRelease t => Sys2Proof.Machine.execPerstRelease t s
  | .deviceResetExecute t => Sys2Proof.Machine.execDeviceResetExecute t s
  | .romDone t rngOk => Sys2Proof.Machine.execRomDone t rngOk s
  | .imageDone t reasonA reasonB board hubOk => Sys2Proof.Machine.execImageDone t reasonA reasonB board hubOk s
  | .selftestDone t failed => Sys2Proof.Machine.execSelftestDone t failed s
  | .nvmCheckDone t ok0 ok1 => Sys2Proof.Machine.execNvmCheckDone t ok0 ok1 s
  | .dramInitDone t ok => Sys2Proof.Machine.execDramInitDone t ok s
  | .recoveryDone t => Sys2Proof.Machine.execRecoveryDone t s
  | .modeTransitionInstant t line => Sys2Proof.Machine.execModeTransitionInstant t line s
  | .drainComplete t => Sys2Proof.Machine.execDrainComplete t s
  | .autoResume t => Sys2Proof.Machine.execAutoResume t s
  | .hostWatchdogExpiry t => Sys2Proof.Machine.execHostWatchdogExpiry t s
  | .interlockOpen t since => Sys2Proof.Machine.execInterlockOpen t since s
  | .interlockClose t since => Sys2Proof.Machine.execInterlockClose t since s
  | .enum t h fill next units => Sys2Proof.Machine.execEnum t h fill next units s
  | .enumCommit t h units adopt => Sys2Proof.Machine.execEnumCommit t h units adopt s
  | .enumAbort t h status token => Sys2Proof.Machine.execEnumAbort t h status token s
  | .enumAdopt t => Sys2Proof.Machine.execEnumAdopt t s
  | .enumTimeout t => Sys2Proof.Machine.execEnumTimeout t s
  | .pendingAddressTimeout t => Sys2Proof.Machine.execPendingAddressTimeout t s
  | .linkState t h eastUp westUp announced mode lastValid => Sys2Proof.Machine.execLinkState t h eastUp westUp announced mode lastValid s
  | .hopAck t h upTo => Sys2Proof.Machine.execHopAck t h upTo s
  | .ringTime t h roundTrip offset auto slave => Sys2Proof.Machine.execRingTime t h roundTrip offset auto slave s
  | .ringTimeExchange t => Sys2Proof.Machine.execRingTimeExchange t s
  | .cmd t h opcode c => Sys2Proof.Machine.execCmd t h opcode c s
  | .rpl t h r => Sys2Proof.Machine.execRpl t h r s
  | .evt t h es => Sys2Proof.Machine.execEvt t h es s
  | .void t h reason ranges => Sys2Proof.Machine.execVoid t h reason ranges s
  | .prepare t h txn timeoutMs opcode c => Sys2Proof.Machine.execPrepare t h txn timeoutMs opcode c s
  | .vote t h txn status result => Sys2Proof.Machine.execVote t h txn status result s
  | .commit t h txn instant => Sys2Proof.Machine.execCommit t h txn instant s
  | .abort t h txn => Sys2Proof.Machine.execAbort t h txn s
  | .commitInstant t => Sys2Proof.Machine.execCommitInstant t s
  | .voteTimeout t => Sys2Proof.Machine.execVoteTimeout t s
  | .prepareExpired t => Sys2Proof.Machine.execPrepareExpired t s
  | .relayTimeout t => Sys2Proof.Machine.execRelayTimeout t s
  | .snap t h instant => Sys2Proof.Machine.execSnap t h instant s
  | .ringPacketBad t port => Sys2Proof.Machine.execRingPacketBad t port s
  | .ringPortFailed t port lastValid => Sys2Proof.Machine.execRingPortFailed t port lastValid s
  | .ringPortUp t port => Sys2Proof.Machine.execRingPortUp t port s
  | .ringRerouteDone t => Sys2Proof.Machine.execRingRerouteDone t s
  | .islandTimeBeacon t block lane residual => Sys2Proof.Machine.execIslandTimeBeacon t block lane residual s
  | .referenceClockFault t missing ppm => Sys2Proof.Machine.execReferenceClockFault t missing ppm s
  | .stepApply t => Sys2Proof.Machine.execStepApply t s
  | .ptpSyncReceived t d offset => Sys2Proof.Machine.execPtpSyncReceived t d offset s
  | .ptpAnnounceReceived t d a => Sys2Proof.Machine.execPtpAnnounceReceived t d a s
  | .ptpDelayRespReceived t d delay => Sys2Proof.Machine.execPtpDelayRespReceived t d delay s
  | .ptpPdelayReqReceived t d => Sys2Proof.Machine.execPtpPdelayReqReceived t d s
  | .ptpDelayReqSend t d => Sys2Proof.Machine.execPtpDelayReqSend t d s
  | .ptpSyncTimeout t d => Sys2Proof.Machine.execPtpSyncTimeout t d s
  | .ptpAnnounceTimeout t d => Sys2Proof.Machine.execPtpAnnounceTimeout t d s
  | .revertHoldoffExpiry t => Sys2Proof.Machine.execRevertHoldoffExpiry t s
  | .netLinkChange t p up => Sys2Proof.Machine.execNetLinkChange t p up s
  | .nonPtpFrame t p => Sys2Proof.Machine.execNonPtpFrame t p s
  | .windowBoundary t g => Sys2Proof.Machine.execWindowBoundary t g s
  | .snapshotInstant t => Sys2Proof.Machine.execSnapshotInstant t s
  | .snapshotPublished t => Sys2Proof.Machine.execSnapshotPublished t s
  | .snapInEdge t rising => Sys2Proof.Machine.execSnapInEdge t rising s
  | .snapInAccepted t => Sys2Proof.Machine.execSnapInAccepted t s
  | .snapOutPulseEnd t => Sys2Proof.Machine.execSnapOutPulseEnd t s
  | .encoderCount t x reverse valid => Sys2Proof.Machine.execEncoderCount t x reverse valid s
  | .pulseWidthEnd t => Sys2Proof.Machine.execPulseWidthEnd t s
  | .encoderIndex t x => Sys2Proof.Machine.execEncoderIndex t x s
  | .receiverFault t x => Sys2Proof.Machine.execReceiverFault t x s
  | .encoderCauseClear t x cause => Sys2Proof.Machine.execEncoderCauseClear t x cause s
  | .standstillDeclared t x => Sys2Proof.Machine.execStandstillDeclared t x s
  | .slotBoundary t n => Sys2Proof.Machine.execSlotBoundary t n s
  | .agreementMsCheck t => Sys2Proof.Machine.execAgreementMsCheck t s
  | .slotFix t => Sys2Proof.Machine.execSlotFix t s
  | .overspeedWarnClear t => Sys2Proof.Machine.execOverspeedWarnClear t s
  | .overspeedQualified t => Sys2Proof.Machine.execOverspeedQualified t s
  | .slotFired t n => Sys2Proof.Machine.execSlotFired t n s
  | .pageLoadEnd t id o => Sys2Proof.Machine.execPageLoadEnd t id o s
  | .patrolScrubRead t addr f => Sys2Proof.Machine.execPatrolScrubRead t addr f s
  | .dramTempRead t temps => Sys2Proof.Machine.execDramTempRead t temps s
  | .refreshRelax t => Sys2Proof.Machine.execRefreshRelax t s
  | .allBankRefresh t channel sub => Sys2Proof.Machine.execAllBankRefresh t channel sub s
  | .delayMeasureDone t ok eye => Sys2Proof.Machine.execDelayMeasureDone t ok eye s
  | .dramDescribeDone t ok0 ok1 => Sys2Proof.Machine.execDramDescribeDone t ok0 ok1 s
  | .lineFetch t n blank ecc corrected => Sys2Proof.Machine.execLineFetch t n blank ecc corrected s
  | .slotSend t m n => Sys2Proof.Machine.execSlotSend t m n s
  | .timeBlockSend t => Sys2Proof.Machine.execTimeBlockSend t s
  | .timeEchoReceived t lane tag t2 fraction turnaround => Sys2Proof.Machine.execTimeEchoReceived t lane tag t2 fraction turnaround s
  | .identReceived t lane id => Sys2Proof.Machine.execIdentReceived t lane id s
  | .statusReceived t lane st => Sys2Proof.Machine.execStatusReceived t lane st s
  | .receiptReceived t lane group bitmap crc => Sys2Proof.Machine.execReceiptReceived t lane group bitmap crc s
  | .receiptTimeout t m group => Sys2Proof.Machine.execReceiptTimeout t m group s
  | .revokeAckReceived t lane gen a failover => Sys2Proof.Machine.execRevokeAckReceived t lane gen a failover s
  | .revokeAckTimeout t lane => Sys2Proof.Machine.execRevokeAckTimeout t lane s
  | .lineErrReceived t lane seq pairCD cause => Sys2Proof.Machine.execLineErrReceived t lane seq pairCD cause s
  | .laneLossReceived t lane lostB highest loss => Sys2Proof.Machine.execLaneLossReceived t lane lostB highest loss s
  | .blockLock t lane => Sys2Proof.Machine.execBlockLock t lane s
  | .lockLost t lane lastValid => Sys2Proof.Machine.execLockLost t lane lastValid s
  | .laneSilence t lane lastValid => Sys2Proof.Machine.execLaneSilence t lane lastValid s
  | .laneRetry t lane => Sys2Proof.Machine.execLaneRetry t lane s
  | .restoreHoldExpiry t m => Sys2Proof.Machine.execRestoreHoldExpiry t m s
  | .eyeScanDone t lane left right upper lower => Sys2Proof.Machine.execEyeScanDone t lane left right upper lower s
  | .laneTestDone t lane errors bitsCompared losses locked => Sys2Proof.Machine.execLaneTestDone t lane errors bitsCompared losses locked s
  | .purgeEnd t => Sys2Proof.Machine.execPurgeEnd t s
  | .verdictDeadline t => Sys2Proof.Machine.execVerdictDeadline t s
  | .ledgerBlockTimeClose t => Sys2Proof.Machine.execLedgerBlockTimeClose t s
  | .blockSigned t => Sys2Proof.Machine.execBlockSigned t s
  | .ledgerFrameDelivery t dmaOk => Sys2Proof.Machine.execLedgerFrameDelivery t dmaOk s
  | .checkpointWrite t => Sys2Proof.Machine.execCheckpointWrite t s
  | .checkpointCommit t ok0 ok1 => Sys2Proof.Machine.execCheckpointCommit t ok0 ok1 s
  | .frameStart t c channel => Sys2Proof.Machine.execFrameStart t c channel s
  | .csiLine t c p => Sys2Proof.Machine.execCsiLine t c p s
  | .frameEnd t c channel => Sys2Proof.Machine.execFrameEnd t c channel s
  | .verdictMoment t => Sys2Proof.Machine.execVerdictMoment t s
  | .cameraFault t c cause => Sys2Proof.Machine.execCameraFault t c cause s
  | .cameraSilent t c => Sys2Proof.Machine.execCameraSilent t c s
  | .cameraRecover t c => Sys2Proof.Machine.execCameraRecover t c s
  | .insFrameDelivery t c dmaOk => Sys2Proof.Machine.execInsFrameDelivery t c dmaOk s
  | .calTriggerCheck t => Sys2Proof.Machine.execCalTriggerCheck t s
  | .calRunTimeout t => Sys2Proof.Machine.execCalRunTimeout t s
  | .dieSensorReading t readings => Sys2Proof.Machine.execDieSensorReading t readings s
  | .sensorCrossCheck t => Sys2Proof.Machine.execSensorCrossCheck t s
  | .corePowerDown t => Sys2Proof.Machine.execCorePowerDown t s
  | .setpointFrame t => Sys2Proof.Machine.execSetpointFrame t s
  | .ssiReadDone t a lineOk bits => Sys2Proof.Machine.execSsiReadDone t a lineOk bits s
  | .axisFeedbackCount t a e => Sys2Proof.Machine.execAxisFeedbackCount t a e s
  | .feedbackFault t a cause => Sys2Proof.Machine.execFeedbackFault t a cause s
  | .feedbackCauseClear t a cause => Sys2Proof.Machine.execFeedbackCauseClear t a cause s
  | .switchEdge t a w high => Sys2Proof.Machine.execSwitchEdge t a w high s
  | .switchConfirm t a w => Sys2Proof.Machine.execSwitchConfirm t a w s
  | .switchRelease t a w => Sys2Proof.Machine.execSwitchRelease t a w s
  | .axisStall t a => Sys2Proof.Machine.execAxisStall t a s
  | .homingSearchLimit t a => Sys2Proof.Machine.execHomingSearchLimit t a s
  | .holdDelayExpiry t a => Sys2Proof.Machine.execHoldDelayExpiry t a s
  | .axisScaleSettle t a => Sys2Proof.Machine.execAxisScaleSettle t a s
  | .latchPoint t pad0 pad1 => Sys2Proof.Machine.execLatchPoint t pad0 pad1 s
  | .pixelClockLock t => Sys2Proof.Machine.execPixelClockLock t s
  | .pixelClockTimeout t => Sys2Proof.Machine.execPixelClockTimeout t s
  | .viewLineStart t n dataTo level => Sys2Proof.Machine.execViewLineStart t n dataTo level s
  | .lockstepMismatch t => Sys2Proof.Machine.execLockstepMismatch t s
  | .lockstepReset t => Sys2Proof.Machine.execLockstepReset t s
  | .mssWatchdogExpiry t => Sys2Proof.Machine.execMssWatchdogExpiry t s
  | .trngHealthFailure t test => Sys2Proof.Machine.execTrngHealthFailure t test s
  | .supplyWarning t supply mv => Sys2Proof.Machine.execSupplyWarning t supply mv s
  | .supplyFault t supply mv => Sys2Proof.Machine.execSupplyFault t supply mv s
  | .supplyCollapse t supply mv => Sys2Proof.Machine.execSupplyCollapse t supply mv s
  | .supplyClear t supply mv => Sys2Proof.Machine.execSupplyClear t supply mv s
  | .coreRestart t => Sys2Proof.Machine.execCoreRestart t s
  | .slotEraseDone t ok0 ok1 => Sys2Proof.Machine.execSlotEraseDone t ok0 ok1 s
  | .updateVerifyDone t signatureOk readOk decryptOk => Sys2Proof.Machine.execUpdateVerifyDone t signatureOk readOk decryptOk s
  | .activation t begin => Sys2Proof.Machine.execActivation t begin s
  | .imageConfirm t => Sys2Proof.Machine.execImageConfirm t s
  | .trialTimeout t => Sys2Proof.Machine.execTrialTimeout t s
  | .trialRevert t begin => Sys2Proof.Machine.execTrialRevert t begin s
  | .journalCommit t ok0 ok1 => Sys2Proof.Machine.execJournalCommit t ok0 ok1 s
  | .eventLogAppend t ok0 ok1 => Sys2Proof.Machine.execEventLogAppend t ok0 ok1 s
  | .msiXUnmask t u => Sys2Proof.Machine.execMsiXUnmask t u s
  | .busMasterEnableSet t => Sys2Proof.Machine.execBusMasterEnableSet t s
  | .d3hotExit t => Sys2Proof.Machine.execD3hotExit t s
  | .nextIdleBlock t lane => Sys2Proof.Machine.execNextIdleBlock t lane s

end Sys2Proof.Machine
end

