-- ==== Sys2Proof/Safety.lean ====
section
/-! DEFINITION. The terms in which claims speak of a run: what a step leaves alone, when the block is ready for a
command, what it answers, and what a part of the device that has no power or is in reset may do. -/
namespace Sys2Proof.Machine

/-! Resets and power -/

/-- The commands that act on a block without power or in reset: the resets themselves, their release, and the restart of
the core after a collapse (R89, R344, R355). -/
def isResetRow : Instr → Bool
  | .powerOnReset _ => true
  | .powerOnResetRelease _ => true
  | .resetNLow _ => true
  | .perst _ => true
  | .perstRelease _ => true
  | .deviceResetExecute _ => true
  | .lockstepReset _ => true
  | .coreRestart _ => true
  | _ => false

/-- Two states differ at most in device time and in the queue of waiting commands. -/
def SameButTime (a b : State) : Prop := { b with now := a.now, pending := a.pending } = a

/-- The block lies in reset or without power, and no command that could change that waits. -/
def Dormant (s : State) : Prop := alive s = false ∧ s.pending.all (fun c => !isResetRow c) = true

/-- Nothing has left the device's ports between two states. -/
def Silent (before after : State) : Prop := after.out = before.out

/-- Every page's bytes lie in canonical form. -/
def PagesWf (s : State) : Prop := ∀ p ∈ s.mem.pages, Memory.wf p.data

/-- Every setting in force is as long as its default. -/
def CfgSized (s : State) : Prop := ∀ k, (cfgGet s k).length = (cfgDefault k).length

/-! What a step leaves as it was -/

/-- The parts of the state, one for each block of the device and for what the blocks share. -/
inductive Part where
  | hub | bar0 | link | rng | mer | enc | mem | grt | esc | hlk | ldg | ins | cal | axs | view | thm | mss | nvm
  | settings | held | free | out
  deriving DecidableEq, Repr

/-- One part is as it was. -/
def samePart (s t : State) : Part → Prop
  | .hub => t.hub = s.hub
  | .bar0 => t.bar0 = s.bar0
  | .link => t.link = s.link
  | .rng => t.rng = s.rng
  | .mer => t.mer = s.mer
  | .enc => t.enc = s.enc
  | .mem => t.mem = s.mem
  | .grt => t.grt = s.grt
  | .esc => t.esc = s.esc
  | .hlk => t.hlk = s.hlk
  | .ldg => t.ldg = s.ldg
  | .ins => t.ins = s.ins
  | .cal => t.cal = s.cal
  | .axs => t.axs = s.axs
  | .view => t.view = s.view
  | .thm => t.thm = s.thm
  | .mss => t.mss = s.mss
  | .nvm => t.nvm = s.nvm
  | .settings => t.cfg = s.cfg
  | .held => t.held = s.held
  | .free => t.freeCtr = s.freeCtr
  | .out => t.out = s.out

/-- The frame of a step: of all parts, at most those listed have changed, and the queue of waiting commands is as it
was. -/
def OnlyParts (l : List Part) (s t : State) : Prop := t.pending = s.pending ∧ ∀ p, p ∉ l → samePart s t p

/-! A step that completes -/

/-- A step answers a next state of which something holds. -/
def Runs (o : Host.Outcome State Fault Refusal) (P : State → Prop) : Prop := ∃ t, o = .next t ∧ P t

/-- The core runs, no automatic transition waits, no spare encoder stands in, and no command waits in the Command
Ring. -/
structure Steady (s : State) : Prop where
  running : alive s = true
  noAuto : s.hub.auto = none
  noSpare : s.cal.spareHome = none
  nonePlaced : s.bar0.placed = []

/-- A steady core with no calibration run in its table. -/
structure Calm (s : State) : Prop where
  steady : Steady s
  noRuns : s.cal.runs = []

/-- The rings stand ready for one command of the host to this unit (R44, R48, R49, R55, R83), and nothing waits. -/
structure Ready (c : Cmd) (s : State) : Prop where
  steady : Steady s
  served : hubServes s = true
  cmdRing : ringUsable s.bar0.cmd = true
  cmdSize : 16 < s.bar0.cmd.size.toNat
  cmdIdx : s.bar0.cmd.idx < s.bar0.cmd.size.toNat
  cmdRead : s.bar0.cmd.other = s.bar0.cmd.idx
  rplRing : ringUsable s.bar0.rpl = true
  rplRoom : 16 ≤ ringFree s.bar0.rpl
  noneHeld : s.bar0.heldReplies = []
  dma : dmaOk s = true
  unprepared : s.rng.prepared = none
  here : isLocal c s = true
  onePhase : twoPhase c = false

/-- The command meets every check of R53 at its instant, and the configuration epoch can still count. -/
structure Served (d : CmdSpec) (c : Cmd) (s : State) : Prop where
  ready : Ready c s
  header : headerOk d.isRead c s = true
  passes : refusal d c (advance c.t s) = none
  epoch : s.hub.cfgCount ≠ 0xFFFFFFFF

/-- The same, with no calibration run in the table. -/
structure Accepted (d : CmdSpec) (c : Cmd) (s : State) : Prop where
  served : Served d c s
  noRuns : s.cal.runs = []

/-- The reply last written, the outputs being listed newest first. -/
def lastReply : List Output → Option Reply
  | [] => none
  | .reply _ _ r :: _ => some r
  | _ :: rest => lastReply rest

/-- A command has been answered as R50 says: with its sequence, opcode, status and result, where the host asked for a
reply or the status is neither E_OK nor E_PENDING; else with no reply. -/
def Answered (c : Cmd) (opcode status : Nat) (result : Bytes) (s t : State) : Prop :=
  if replyWanted c || !(status == eOk || status == ePending) then
    lastReply t.out = some { seq := c.seq, status := BitVec.ofNat 16 status, opcode := BitVec.ofNat 16 opcode,
                             result := result, source := BitVec.ofNat 8 s.rng.address.toNat }
  else lastReply t.out = lastReply s.out

/-- What a command changes beside its own effect: the rings' registers and what leaves the ports. -/
def replyParts : List Part := [.bar0, .out]

/-- What an event changes beside its own effect: rings and outputs, the event log's queue, and the ring's copies. -/
def eventParts : List Part := [.bar0, .out, .mss, .rng]

/-- A setting has its new value in force, counted as one change of the configuration if it differs (R35), and nothing
else has changed. -/
def SettingTaken (k : CfgSlot) (v : Bytes) (s t : State) : Prop :=
  cfgGet t k = v ∧ (∀ k', k' ≠ k → cfgGet t k' = cfgGet s k')
    ∧ t.hub = { s.hub with cfgCount := if cfgGet s k = v then s.hub.cfgCount else s.hub.cfgCount + 1 }
    ∧ OnlyParts [.settings, .held, .hub, .bar0, .out] s t

/-- A setting has been accepted and waits for its boundary (R28, R37): CONFIG_READ's value is as before. -/
def SettingHeld (k : CfgSlot) (v : Bytes) (s t : State) : Prop :=
  cfgLast t k = v ∧ (∀ k', k' ≠ k → cfgLast t k' = cfgLast s k') ∧ OnlyParts [.held, .bar0, .out] s t

/-- The Event Ring takes events at once: nothing waits on chip, nothing has been lost, and the ring has room. -/
structure EventsOpen (s : State) : Prop where
  ring : ringUsable s.bar0.evt = true
  room : 64 ≤ ringFree s.bar0.evt
  dma : dmaOk s = true
  noneWaits : s.bar0.buffer = []
  noneLost : s.bar0.lostInfo + s.bar0.lostWarn + s.bar0.lostFault = 0

/-- What has left the ports between two states, newest first. -/
def sent (s t : State) : List Output := t.out.take (t.out.length - s.out.length)

/-- An event of this unit has been written with a code, a block, a timestamp and its detail bytes. -/
def Wrote (code block : Nat) (time : Time) (detail : Bytes) (s t : State) : Prop :=
  let e : Event := { code := BitVec.ofNat 16 code, block := BitVec.ofNat 8 block, unit := s.rng.address, time := time,
                     detail := padTo 16 detail }
  ∃ slot phase, Output.event slot phase e ∈ sent s t

/-- A packet reaches this unit as new: its port is UP, it has hops left, another unit sent it, its sequence is new, and
it is for this unit or for all (R71, R72). -/
structure Arrives (h : RingHdr) (s : State) : Prop where
  up : portUp s h.port = true
  hops : h.hops ≠ 0
  other : h.serial ≠ Config.deviceSerial
  fresh : seqNew s h false = true
  mine : h.dst = 31 ∨ (h.dst = s.rng.address ∧ h.dst ≠ 0)

/-- The opcode and the command of a row that the host places in the Command Ring (R5, R58). -/
def opcodeRow : Instr → Option (Nat × Cmd)
  | .undefinedOpcode op c => some (op.toNat, c)
  | .identify c => some (0x0001, c)
  | .featureQuery c => some (0x0002, c)
  | .featureAccept c => some (0x0003, c)
  | .modeSet c => some (0x0004, c)
  | .safeClear c => some (0x0005, c)
  | .deviceReset c => some (0x0006, c)
  | .configRead c => some (0x0007, c)
  | .hostWatchdogSet c => some (0x0008, c)
  | .ringEnumerate c => some (0x0101, c)
  | .ringConfig c => some (0x0102, c)
  | .ringPortSet c => some (0x0103, c)
  | .ringPortStart c => some (0x0104, c)
  | .ringPortStop c => some (0x0105, c)
  | .timeSourceSet c => some (0x0C01, c)
  | .ptpDomainSet c => some (0x0C02, c)
  | .netPortSet c => some (0x0C03, c)
  | .timeStep c => some (0x0C04, c)
  | .windowSet c => some (0x0C05, c)
  | .snapshotArm c => some (0x0C06, c)
  | .snapPinSet c => some (0x0C07, c)
  | .encInputSet c => some (0x0601, c)
  | .regulatorSet c => some (0x0602, c)
  | .encActiveSet c => some (0x0603, c)
  | .pulseSet c => some (0x0604, c)
  | .pageLoad c => some (0x0201, c)
  | .pageDiscard c => some (0x0202, c)
  | .pageQuery c => some (0x0203, c)
  | .queueAppend c => some (0x0204, c)
  | .queueCommit c => some (0x0205, c)
  | .queueClear c => some (0x0206, c)
  | .memPortSet c => some (0x0207, c)
  | .memConfigSet c => some (0x0208, c)
  | .memDramDescribe c => some (0x0209, c)
  | .memDelayMeasure c => some (0x020A, c)
  | .grtBarSet c => some (0x0301, c)
  | .grtModuleSet c => some (0x0302, c)
  | .grtStitchSet c => some (0x0303, c)
  | .grtNozzleStage c => some (0x0304, c)
  | .grtNozzleCommit c => some (0x0305, c)
  | .grtNozzleRead c => some (0x0306, c)
  | .escConfigSet c => some (0x0401, c)
  | .escRunaheadSet c => some (0x0402, c)
  | .escHeadProfileSet c => some (0x0403, c)
  | .escRowOffsetSet c => some (0x0404, c)
  | .escTimingRead c => some (0x0405, c)
  | .hlkConfigSet c => some (0x0501, c)
  | .hlkLaneSet c => some (0x0502, c)
  | .hlkLaneRestore c => some (0x0503, c)
  | .hlkEyeScan c => some (0x0504, c)
  | .hlkLaneTest c => some (0x0505, c)
  | .hlkModuleRead c => some (0x0506, c)
  | .hlkPurge c => some (0x0507, c)
  | .ldgConfigSet c => some (0x0701, c)
  | .ldgStreamSet c => some (0x0702, c)
  | .ldgBlockAck c => some (0x0703, c)
  | .ldgTicketQuery c => some (0x0704, c)
  | .ldgVoid c => some (0x0705, c)
  | .ldgSeal c => some (0x0706, c)
  | .insCameraSet c => some (0x0801, c)
  | .insCameraStart c => some (0x0802, c)
  | .insCameraStop c => some (0x0803, c)
  | .exposureSet c => some (0x0804, c)
  | .insCompareSet c => some (0x0805, c)
  | .insDisplaySet c => some (0x0806, c)
  | .insOutputSet c => some (0x0807, c)
  | .insOutputAck c => some (0x0808, c)
  | .insStripeAdd c => some (0x0809, c)
  | .insStatsRead c => some (0x080A, c)
  | .calPolicySet c => some (0x0A01, c)
  | .calRun c => some (0x0A02, c)
  | .calReference c => some (0x0A03, c)
  | .calPatchAdd c => some (0x0A04, c)
  | .calAbort c => some (0x0A05, c)
  | .calResultRead c => some (0x0A06, c)
  | .calClear c => some (0x0A07, c)
  | .thmConfigSet c => some (0x0D01, c)
  | .thmSensorClear c => some (0x0D02, c)
  | .axsConfigSet c => some (0x0B01, c)
  | .axsStart c => some (0x0B02, c)
  | .axsStop c => some (0x0B03, c)
  | .axsMove c => some (0x0B04, c)
  | .axsHome c => some (0x0B05, c)
  | .axsFaultClear c => some (0x0B06, c)
  | .viewModeSet c => some (0x0901, c)
  | .viewStart c => some (0x0902, c)
  | .viewStop c => some (0x0903, c)
  | .viewFrameSet c => some (0x0904, c)
  | .mssConfigSet c => some (0x0E01, c)
  | .mssKeyRead c => some (0x0E02, c)
  | .mssUpdateBegin c => some (0x0E03, c)
  | .mssUpdateWrite c => some (0x0E04, c)
  | .mssUpdateVerify c => some (0x0E05, c)
  | .mssUpdateActivate c => some (0x0E06, c)
  | .mssRollbackFence c => some (0x0E07, c)
  | .mssSeal c => some (0x0E08, c)
  | .mssLogRead c => some (0x0E09, c)
  | .attest c => some (0x0E10, c)
  | _ => none

end Sys2Proof.Machine
end

