-- ==== Sys2Proof/Certificates/Slice0/Obligations.lean ====
section
/-! DEFINITION. The statements for the provers, family by family: what each command and each event of the table does, what
it leaves as it was, and what holds over every step. -/
open Sys2Proof Sys2Proof.Machine

/-- A step carries out the command at the front of the queue on the state with the queue's rest; with no command waiting
the block idles (log entry 1, the model's choice). -/
def Obligations.StepRunsFront : Prop :=
  (∀ (c : Instr) (rest : List Instr) (s : State), s.pending = c :: rest → step s = exec c { s with pending := rest }) ∧
  (∀ s : State, s.pending = [] → step s = .next s)

/-- Right after reset: device time 0 (R89), mode BOOT (R22) in boot state ROM (R30), no feature accepted (R33), the three
rings disabled and not in error (R44), the settings at their defaults (R7), no cause of SAFE, generation 0, no page, no
ticket, and nothing has left a port. -/
def Obligations.ResetState : Prop :=
  State.reset.now = 0 ∧ State.reset.hub.mode = .boot ∧ State.reset.hub.bootState = .rom
    ∧ State.reset.hub.features = 0 ∧ State.reset.hub.cfgCount = 0 ∧ State.reset.hub.safe = []
    ∧ ringUsable State.reset.bar0.cmd = false ∧ ringUsable State.reset.bar0.rpl = false
    ∧ ringUsable State.reset.bar0.evt = false ∧ State.reset.bar0.coalReply = 0x00010001
    ∧ State.reset.bar0.coalEvent = 0x00010001
    ∧ (∀ k, k ≠ .dram → cfgGet State.reset k = cfgDefault k) ∧ State.reset.held = []
    ∧ State.reset.esc.gen = 0 ∧ State.reset.mem.pages = [] ∧ State.reset.ldg.tickets = []
    ∧ State.reset.rng.address = 0 ∧ State.reset.out = [] ∧ State.reset.pending = []

/-- The commands of HUB complete (02, 03): the identity reply's fields, the feature offer, the acceptance, the transition
that MODE_SET and SAFE_CLEAR schedule, the reset to come, the record bytes read, and the watchdog armed. -/
def Obligations.HubCommandsComplete : Prop :=
  (∀ c s, Accepted identifySpec c s → Runs (exec (.identify c) s) fun t => ∃ b,
    Answered c 0x0001 eOk b s t ∧ b.length = 40 ∧ u16 b 0 = 0x2448 ∧ u8 b 2 = 0xB0 ∧ u8 b 3 = modeCode s.hub.mode
      ∧ u8 b 4 = bootCode s.hub.bootState ∧ u8 b 5 = s.rng.address.toNat ∧ u32 b 16 = s.nvm.bootCount.toNat
      ∧ u16 b 34 = s.hub.bootFaults.toNat ∧ OnlyParts replyParts s t) ∧
  (∀ c s, Accepted featureQuerySpec c s → Runs (exec (.featureQuery c) s) fun t => ∃ b,
    Answered c 0x0002 eOk b s t ∧ b.length = 16 ∧ u32 b 0 = 0xFFFF - (s.nvm.options.toNat - s.nvm.options.toNat % 2)
      ∧ zeroAt b 4 12 = true ∧ OnlyParts replyParts s t) ∧
  (∀ c s, Accepted featureAcceptSpec c s → Runs (exec (.featureAccept c) s) fun t => ∃ b tr,
    Answered c 0x0003 eOk b s t ∧ t.hub.accepted = some (BitVec.ofNat 32 (u32 c.params 0)) ∧ t.hub.trans = some tr
      ∧ tr.target = (if s.hub.bootFaults = 0 then .standby else .safe) ∧ tr.cause = 1
      ∧ tr.due = .instant (hostInstant (max s.now c.t)) ∧ OnlyParts (.hub :: replyParts) s t) ∧
  (∀ c s, Accepted modeSetSpec c s → ¬(s.hub.mode = .drain ∧ u8 c.params 0 = 1) →
    Runs (exec (.modeSet c) s) fun t => ∃ tr,
      Answered c 0x0004 ePending [] s t ∧ t.hub.trans = some tr ∧ tr.target = modeOf (u8 c.params 0) ∧ tr.cause = 0
        ∧ tr.origin = 1 ∧ tr.seq = c.seq.toNat ∧ tr.autoResume = (u8 c.params 1 == 1)
        ∧ (u8 c.params 0 ≠ 5 → tr.due = .instant (hostInstant (max s.now c.t)))
        ∧ (u8 c.params 0 = 5 → tr.due = .print (max (hostInstant (max s.now c.t)) (timeAt c.params 4)))
        ∧ t.hub.mode = s.hub.mode ∧ OnlyParts (.hub :: replyParts) s t) ∧
  (∀ c s, Accepted modeSetSpec c s → s.hub.mode = .drain → u8 c.params 0 = 1 →
    Runs (exec (.modeSet c) s) fun t =>
      Answered c 0x0004 eOk [] s t ∧ t.hub = { s.hub with drainStandby := true }
        ∧ OnlyParts (.hub :: replyParts) s t) ∧
  (∀ c s, Accepted safeClearSpec c s → Runs (exec (.safeClear c) s) fun t => ∃ tr,
    Answered c 0x0005 ePending [] s t ∧ t.hub.trans = some tr ∧ tr.target = .standby
      ∧ tr.due = .instant (hostInstant (max s.now c.t)) ∧ (∀ r ∈ t.hub.safe, r.bit ≠ 1 ∧ r.bit ≠ 6)
      ∧ OnlyParts (.hub :: replyParts) s t) ∧
  (∀ c s, Accepted deviceResetSpec c s → Runs (exec (.deviceReset c) s) fun t =>
    Answered c 0x0006 eOk [] s t ∧ t.hub = { s.hub with resetAt := some (max s.now c.t + tpMs) }
      ∧ OnlyParts (.hub :: replyParts) s t) ∧
  (∀ c s, Accepted configReadSpec c s → Runs (exec (.configRead c) s) fun t => ∃ b,
    Answered c 0x0007 eOk b s t ∧ u16 b 0 = (blockRecord s (u8 c.params 0)).length % 65536
      ∧ u64 b 8 = s.nvm.bootCount.toNat * 2 ^ 32 + s.hub.cfgCount.toNat
      ∧ b.drop 16 = slice (blockRecord s (u8 c.params 0)) (u16 c.params 2) 512 ∧ OnlyParts replyParts s t) ∧
  (∀ c s, Accepted hostWatchdogSetSpec c s → Runs (exec (.hostWatchdogSet c) s) fun t =>
    Answered c 0x0008 eOk [] s t ∧ cfgGet t .hub = slice c.params 0 8 ∧ t.hub.wdLast = max s.now c.t
      ∧ t.hub.wdDeadline = (if u16 c.params 0 = 0 then none else some (max s.now c.t + u16 c.params 0 * tpMs))
      ∧ OnlyParts [.settings, .held, .hub, .bar0, .out] s t)

/-- R5: a command whose opcode the manual does not define is answered E_BAD_OPCODE and does nothing else. -/
def Obligations.UndefinedOpcodeAnswered : Prop :=
  ∀ op c s, specOf op.toNat = none → Ready c s → s.cal.runs = [] → Runs (exec (.undefinedOpcode op c) s) fun t =>
    lastReply t.out = some { seq := c.seq, status := 0x0101, opcode := op,
                             source := BitVec.ofNat 8 s.rng.address.toNat } ∧ OnlyParts replyParts s t

/-- R52, R53: a command of this unit's host that a check refuses is answered with that check's status and result, and
nothing of the device changes but the rings and what leaves the ports. -/
def Obligations.RefusedCommandChangesNothing : Prop :=
  ∀ i op c d v s, opcodeRow i = some (op, c) → specOf op = some d → Ready c s → s.cal.runs = [] → headerOk d.isRead c s = true →
    refusal d c (advance c.t s) = some v → v.1 ≠ eOk → v.1 ≠ ePending → Runs (exec i s) fun t =>
      lastReply t.out = some { seq := c.seq, status := BitVec.ofNat 16 v.1, opcode := BitVec.ofNat 16 op,
                               result := v.2, source := BitVec.ofNat 8 s.rng.address.toNat }
        ∧ OnlyParts replyParts s t

/-- R49, R53: a command whose header does not hold is answered E_BAD_VALUE (or E_BAD_MODE, which comes first), and
nothing else changes. -/
def Obligations.BadHeaderRefused : Prop :=
  ∀ i op c d s, opcodeRow i = some (op, c) → specOf op = some d → Ready c s → s.cal.runs = [] → headerOk d.isRead c s = false →
    Runs (exec i s) fun t => ∃ r, lastReply t.out = some r ∧ r.seq = c.seq
      ∧ r.status = (if modePermits d s then 0x0103 else 0x0104) ∧ OnlyParts replyParts s t
/-- The ring commands complete: an enumeration begins (R77), the settings are taken (R28, R82), a port hunts (R74) or
stops (R76). -/
def Obligations.RingCommandsComplete : Prop :=
  (∀ c s, Accepted ringEnumerateSpec c s → Runs (exec (.ringEnumerate c) s) fun t => ∃ e,
    Answered c 0x0101 ePending [] s t ∧ t.rng.enum = some e ∧ e.issuer = true ∧ e.fill = (u8 c.params 0 == 1)
      ∧ e.started = max s.now c.t ∧ e.adopt = none ∧ t.rng.address = s.rng.address ∧ t.hub = s.hub ∧ t.mem = s.mem) ∧
  (∀ c s, Accepted ringConfigSpec c s → Runs (exec (.ringConfig c) s) fun t =>
    Answered c 0x0102 eOk [] s t ∧ SettingTaken .ringConfig (slice c.params 0 16) s t) ∧
  (∀ c s, Accepted ringPortSetSpec c s → Runs (exec (.ringPortSet c) s) fun t =>
    Answered c 0x0103 eOk [] s t
      ∧ SettingHeld (ringPortSlot (portOf (u8 c.params 0))) (slice c.params 1 7 ++ [0]) s t) ∧
  (∀ c s, Accepted ringPortStartSpec c s → Runs (exec (.ringPortStart c) s) fun t =>
    Answered c 0x0104 eOk [] s t
      ∧ (ringPort t (portOf (u8 c.params 0))).state =
          (if (ringPort s (portOf (u8 c.params 0))).state = .stopped then .hunt
           else (ringPort s (portOf (u8 c.params 0))).state)
      ∧ ((ringPort s (portOf (u8 c.params 0))).state = .stopped →
          cfgGet t (ringPortSlot (portOf (u8 c.params 0))) = cfgLast s (ringPortSlot (portOf (u8 c.params 0))))
      ∧ OnlyParts [.rng, .settings, .held, .hub, .bar0, .out] s t) ∧
  (∀ c s, Accepted ringPortStopSpec c s → Runs (exec (.ringPortStop c) s) fun t =>
    Answered c 0x0105 eOk [] s t ∧ (ringPort t (portOf (u8 c.params 0))).state = .stopped
      ∧ ((ringPort s (portOf (u8 c.params 0))).state = .up → t.rng.lastBreak = max s.now c.t)
      ∧ t.hub = s.hub ∧ t.mem = s.mem ∧ t.hlk = s.hlk)

/-- Enumeration (R77, R78): a token is joined, its assignment and abort are taken, the address is adopted at the adoption
instant, and an enumeration that does not come back ends. -/
def Obligations.EnumerationRows : Prop :=
  (∀ t0 h fill next units s, alive s = true → Arrives h s → s.rng.enum = none →
    enumRefusal fill next units s = none → Runs (exec (.enum t0 h fill next units) s) fun t => ∃ e,
      t.rng.enum = some e ∧ e.issuer = false ∧ e.fill = fill ∧ e.serial = h.serial ∧ e.started = max s.now t0
        ∧ e.pending = (if fill then none else some (BitVec.ofNat 5 next)) ∧ t.rng.address = s.rng.address) ∧
  (∀ t0 h units adopt e s, alive s = true → Arrives h s → s.rng.enum = some e → e.serial = h.serial →
    Runs (exec (.enumCommit t0 h units adopt) s) fun t =>
      t.rng.enum = some { e with adopt := some (units, adopt) } ∧ OnlyParts [.rng, .out] s t) ∧
  (∀ t0 h status e s, alive s = true → Arrives h s → s.rng.enum = some e → e.issuer = false → e.adopt = none →
    Runs (exec (.enumAbort t0 h status e.serial) s) fun t => t.rng.enum = none ∧ t.rng.address = s.rng.address) ∧
  (∀ t0 e units at_ s, alive s = true → s.rng.enum = some e → e.adopt = some (units, at_) → at_ ≤ max s.now t0 →
    Runs (exec (.enumAdopt t0) s) fun t => t.rng.enum = none ∧ t.rng.order = units
      ∧ (∀ u, units.find? (fun u => u.serial = Config.deviceSerial) = some u → t.rng.address = u.address)
      ∧ (units.find? (fun u => u.serial = Config.deviceSerial) = none → t.rng.address = 0)) ∧
  (∀ t0 e s, alive s = true → s.rng.enum = some e → e.issuer = true → e.adopt = none →
    e.started + 10 * tpMs ≤ max s.now t0 → Runs (exec (.enumTimeout t0) s) fun t =>
      t.rng.enum = none ∧ t.rng.address = s.rng.address ∧ t.rng.order = s.rng.order) ∧
  (∀ t0 e s, alive s = true → s.rng.enum = some e → e.issuer = false → e.adopt = none →
    e.started + commitTimeoutMs s * tpMs ≤ max s.now t0 → Runs (exec (.pendingAddressTimeout t0) s) fun t =>
      t.rng.enum = none ∧ t.rng.address = s.rng.address ∧ t.rng.order = s.rng.order)

/-- The ring's ports and what passes them (R70 to R76, R94): a bad packet is only counted, an acknowledgement releases
copies, LINK_STATE is taken over, ports fail and come up, a re-route ends, and TIME gives the link delay. -/
def Obligations.RingLinkRows : Prop :=
  (∀ t0 p s, alive s = true → Runs (exec (.ringPacketBad t0 p) s) fun t =>
    (ringPort t p).crcErr = satInc 16 (ringPort s p).crcErr ∧ (ringPort t p).state = (ringPort s p).state
      ∧ ringPort t (otherPort p) = ringPort s (otherPort p) ∧ OnlyParts [.rng] s t) ∧
  (∀ t0 h upTo s, alive s = true → portUp s h.port = true → (∃ k ∈ (ringPort s h.port).copies, k.hdr.seq = upTo) →
    Runs (exec (.hopAck t0 h upTo) s) fun t =>
      (ringPort t h.port).copies = ((ringPort s h.port).copies.dropWhile fun k => k.hdr.seq ≠ upTo).drop 1
        ∧ OnlyParts [.rng] s t) ∧
  (∀ t0 h e w a m l u s, alive s = true → Arrives h s →
    s.rng.order.find? (fun u => u.serial = h.serial) = some u →
    Runs (exec (.linkState t0 h e w a m l) s) fun t =>
      tget {} t.rng.links u.address = { eastUp := e, westUp := w, addressed := h.src = u.address }
        ∧ (tget {} t.rng.map u.address).mode = m ∧ t.hub = s.hub ∧ t.mem = s.mem) ∧
  (∀ t0 p last s, alive s = true → portUp s p = true → Runs (exec (.ringPortFailed t0 p last) s) fun t =>
    (ringPort t p).state = .failed ∧ (ringPort t (otherPort p)).state = (ringPort s (otherPort p)).state
      ∧ t.rng.lastBreak = last ∧ t.hub = s.hub ∧ t.mem = s.mem) ∧
  (∀ t0 p s, alive s = true → ((ringPort s p).state = .hunt ∨ (ringPort s p).state = .failed) →
    Runs (exec (.ringPortUp t0 p) s) fun t =>
      (ringPort t p).state = .up ∧ (ringPort t (otherPort p)).state = (ringPort s (otherPort p)).state
        ∧ t.rng.heldVoids = [] ∧ t.hub = s.hub ∧ t.mem = s.mem) ∧
  (∀ t0 r s, alive s = true → s.rng.reroute = some r → Runs (exec (.ringRerouteDone t0) s) fun t =>
    t.rng.reroute = none ∧ t.rng.rerouteCount = s.rng.rerouteCount + 1 ∧ OnlyParts eventParts s t) ∧
  (∀ t0 h rt off auto slave s, alive s = true → portUp s h.port = true → ringTimed s = true →
    Runs (exec (.ringTime t0 h rt off auto slave) s) fun t =>
      (match h.port with | .east => t.mer.linkDelayE | .west => t.mer.linkDelayW) = rt / 2 ∧ t.hub = s.hub) ∧
  (∀ t0 p s, alive s = true → ringTimed s = true → portUp s p = true →
    Runs (exec (.ringTimeExchange t0) s) fun t =>
      (∃ k auto slave, Output.ring p k ∈ sent s t ∧ k.body = .time (max s.now t0) auto slave)
        ∧ OnlyParts [.out] s t)

/-- What other units send (R59, R79 to R87): a relayed IDENTIFY is answered with RPL, a reply ends its relay, an event is
written with the remote bit, voids for tickets not held are kept for later, and a snapshot instant is armed. -/
def Obligations.RingRequestRows : Prop :=
  (∀ t0 h c s, Calm s → Arrives h s → twoPhase c = false → headerOk true c s = true →
    lengthOk identifySpec c = true → s.hub.bistFailed = 0 → h.src ≠ 31 → (routes s h.src).any (portUp s) = true →
    Runs (exec (.cmd t0 h 0x0001 c) s) fun t => ∃ p k r,
      Output.ring p k ∈ sent s t ∧ k.hdr.dst = h.src ∧ k.body = .rpl r ∧ r.seq = c.seq ∧ r.opcode = 0x0001
        ∧ r.status = 0 ∧ r.result = identifyReply s ∧ OnlyParts [.rng, .out] s t) ∧
  (∀ t0 h r x s, Calm s → Arrives h s → h.dst ≠ 31 → s.rng.relays = [x] → x.broadcast = false →
    x.opcode = r.opcode.toNat → x.cmd.seq = r.seq →
    x.answers = [{ address := BitVec.ofNat 5 r.source.toNat }] → s.bar0.heldReplies = [] →
    canWriteReply s (replyEntries r) = true → replyWanted x.cmd = true →
    Runs (exec (.rpl t0 h r) s) fun t =>
      t.rng.relays = [] ∧ lastReply t.out = some r ∧ OnlyParts [.rng, .bar0, .out] s t) ∧
  (∀ t0 h e s, alive s = true → Arrives h s → EventsOpen s →
    Runs (exec (.evt t0 h [e]) s) fun t =>
      (∃ slot phase, Output.event slot phase { e with remote := true, unit := h.src } ∈ sent s t)
        ∧ OnlyParts [.rng, .bar0, .out] s t) ∧
  (∀ t0 h reason g s, alive s = true → Arrives h s → s.ldg.tickets = [] → s.mem.pages = [] → s.rng.pendingVoid = [] →
    0 < g.count.toNat → g.count.toNat ≤ 4096 → Runs (exec (.void t0 h reason [g]) s) fun t =>
      t.rng.voidRx = s.rng.voidRx + 1 ∧ t.rng.pendingVoid ≠ [] ∧ t.ldg.tickets = []) ∧
  (∀ t0 h at_ s, alive s = true → Arrives h s → max s.now t0 + 2 * tpUs ≤ at_ → s.mer.snaps = [] →
    Runs (exec (.snap t0 h at_) s) fun t =>
      t.mer.snaps = [{ t := at_, source := 2 }] ∧ OnlyParts [.mer, .rng, .out] s t)

/-- Two-phase commit (R82 to R84) for a RING_CONFIG: a PREPARE is voted for and held, COMMIT gives it its instant, at which
it is applied; ABORT or the commit timeout drops it; and the coordinator's transaction ends with the last vote or at
vote_timeout. -/
def Obligations.TwoPhaseRows : Prop :=
  (∀ t0 h txn ms c s, Calm s → Arrives h s → s.rng.prepared = none → s.hub.mode ≠ .boot →
    s.hub.bistFailed = 0 → s.hub.cfgCount ≠ 0xFFFFFFFF → hasFeature s 8 = true → twoPhase c = true →
    headerOk false c s = true → lengthOk ringConfigSpec c = true → ringConfigSpec.value c.params s = true →
    Runs (exec (.prepare t0 h txn ms 0x0102 c) s) fun t => ∃ p,
      t.rng.prepared = some p ∧ p.txn = txn ∧ p.coord = h.src ∧ p.local_ = false ∧ p.opcode = 0x0102 ∧ p.cmd = c
        ∧ p.votedAt = max s.now t0 ∧ p.timeoutMs = ms ∧ p.commitAt = none
        ∧ cfgGet t .ringConfig = cfgGet s .ringConfig ∧ OnlyParts [.rng, .out] s t) ∧
  (∀ t0 h txn at_ p s, Calm s → Arrives h s → s.rng.prepared = some p → p.local_ = false → p.txn = txn →
    p.coord = h.src → Runs (exec (.commit t0 h txn at_) s) fun t =>
      t.rng.prepared = some { p with commitAt := some at_ } ∧ OnlyParts [.rng, .out] s t) ∧
  (∀ t0 h txn p s, Calm s → Arrives h s → s.rng.prepared = some p → p.local_ = false → p.txn = txn → p.coord = h.src →
    Runs (exec (.abort t0 h txn) s) fun t => t.rng.prepared = none ∧ OnlyParts [.rng, .out] s t) ∧
  (∀ t0 p at_ s, Calm s → s.rng.prepared = some p → p.opcode = 0x0102 → p.commitAt = some at_ → at_ ≤ max s.now t0 →
    Runs (exec (.commitInstant t0) s) fun t =>
      t.rng.prepared = none ∧ cfgGet t .ringConfig = slice p.cmd.params 0 16
        ∧ OnlyParts [.rng, .settings, .held, .hub] s t) ∧
  (∀ t0 p s, Calm s → s.rng.prepared = some p → p.local_ = false → p.commitAt = none →
    p.votedAt + p.timeoutMs * tpMs ≤ max s.now t0 → Runs (exec (.prepareExpired t0) s) fun t =>
      t.rng.prepared = none ∧ OnlyParts eventParts s t) ∧
  (∀ t0 h txn x a s, Calm s → Arrives h s → h.dst ≠ 31 → s.rng.coords = [x] → x.txn = txn →
    x.answers = [{ address := h.src }] → a = eOk → x.aborted = false →
    Runs (exec (.vote t0 h txn (BitVec.ofNat 16 a) []) s) fun t =>
      t.rng.coords = [] ∧ OnlyParts [.rng, .bar0, .out] s t) ∧
  (∀ t0 x s, Calm s → s.rng.coords = [x] → x.started + x.voteUs * tpUs ≤ max s.now t0 →
    (∃ a ∈ x.answers, a.status = none) → Runs (exec (.voteTimeout t0) s) fun t =>
      t.rng.coords = [] ∧ OnlyParts [.rng, .bar0, .out] s t) ∧
  (∀ t0 x s, Calm s → s.rng.relays = [x] → x.sentAt + x.timeoutUs * tpUs ≤ max s.now t0 →
    Runs (exec (.relayTimeout t0) s) fun t => t.rng.relays = [] ∧ OnlyParts [.rng, .bar0, .out] s t)
/-- The commands of the time unit complete (05): settings are taken with what they choose or restart, a step is decided, a
generator starts or changes at a boundary of its grid at least 2 µs ahead, and an instant is armed or cancelled. -/
def Obligations.TimeCommandsComplete : Prop :=
  (∀ c s, Accepted timeSourceSetSpec c s → Runs (exec (.timeSourceSet c) s) fun t =>
    Answered c 0x0C01 eOk [] s t ∧ cfgGet t .timeSource = slice c.params 0 16
      ∧ (u8 c.params 0 = 1 → t.mer.source = 0 ∧ t.mer.rate = 0)
      ∧ OnlyParts ([.settings, .held, .hub, .mer] ++ eventParts) s t) ∧
  (∀ c s, Accepted ptpDomainSetSpec c s → Runs (exec (.ptpDomainSet c) s) fun t =>
    Answered c 0x0C02 eOk [] s t ∧ cfgGet t (.ptp (idx2 (u8 c.params 0))) = slice c.params 0 24
      ∧ (ptpOf t (u8 c.params 0)).state = ptpRest t (u8 c.params 0)
      ∧ OnlyParts ([.settings, .held, .hub, .mer] ++ eventParts) s t) ∧
  (∀ c s, Accepted netPortSetSpec c s → Runs (exec (.netPortSet c) s) fun t =>
    Answered c 0x0C03 eOk [] s t ∧ cfgGet t (.netPort (idx2 (u8 c.params 0))) = slice c.params 0 40
      ∧ portLink t (u8 c.params 0) = false
      ∧ (∀ d, d < 2 → ptpPort s d = u8 c.params 0 → (ptpOf s d).state ≠ 3 → (ptpOf t d).state = 2)
      ∧ OnlyParts ([.settings, .held, .hub, .mer] ++ eventParts) s t) ∧
  (∀ c s, Accepted timeStepSpec c s → Runs (exec (.timeStep c) s) fun t =>
    Answered c 0x0C04 ePending [] s t ∧ t.mer = { s.mer with step := some (stepDelta c.params, max s.now c.t) }
      ∧ OnlyParts (.mer :: replyParts) s t) ∧
  (∀ c s, Accepted windowSetSpec c s → (windowOf s (u8 c.params 0)).enabled = false →
    Runs (exec (.windowSet c) s) fun t =>
      Answered c 0x0C05 eOk [] s t ∧ cfgGet t (winSlot (u8 c.params 0)) = slice c.params 0 20
        ∧ (windowOf t (u8 c.params 0)).enabled = bit (u8 c.params 1) 0
        ∧ (windowOf t (u8 c.params 0)).period = u32 c.params 4 * tpNs
        ∧ (windowOf t (u8 c.params 0)).origin = timeAt c.params 8
        ∧ (windowOf t (u8 c.params 0)).start = max s.now c.t
        ∧ OnlyParts [.settings, .held, .hub, .mer, .bar0, .out] s t) ∧
  (∀ c s, Accepted windowSetSpec c s → (windowOf s (u8 c.params 0)).enabled = true →
    Runs (exec (.windowSet c) s) fun t => ∃ b k : Nat,
      Answered c 0x0C05 eOk [] s t ∧ (b, slice c.params 0 20) ∈ (windowOf t (u8 c.params 0)).waiting
        ∧ max s.now c.t + 2 * tpUs ≤ b ∧ b < max s.now c.t + 2 * tpUs + u32 c.params 4 * tpNs
        ∧ (b + k * (u32 c.params 4 * tpNs)) % (u32 c.params 4 * tpNs) = timeAt c.params 8 % (u32 c.params 4 * tpNs)
        ∧ OnlyParts [.held, .mer, .bar0, .out] s t) ∧
  (∀ c s, Accepted snapshotArmSpec c s → Runs (exec (.snapshotArm c) s) fun t =>
    Answered c 0x0C06 eOk [] s t ∧ snapPendingAt t (timeAt c.params 4) = (u8 c.params 0 == 0)
      ∧ (∀ u, u ≠ timeAt c.params 4 → snapPendingAt t u = snapPendingAt s u)
      ∧ OnlyParts [.mer, .rng, .bar0, .out] s t) ∧
  (∀ c s, Accepted snapPinSetSpec c s → Runs (exec (.snapPinSet c) s) fun t =>
    Answered c 0x0C07 eOk [] s t ∧ cfgGet t .snapPin = slice c.params 0 8
      ∧ (bit (u8 c.params 0) 0 = false → t.mer.snapEdge = none)
      ∧ OnlyParts [.settings, .held, .hub, .mer, .bar0, .out] s t)

/-- Clocks, steps, windows and snapshots (R18, R66, R91, R99 to R104): residuals and the reference fault, a step that takes
effect, a window that ends, a snapshot that is latched and published, and the edges of the snapshot pins. -/
def Obligations.TimeRows : Prop :=
  (∀ t0 b l r s, alive s = true → r * islandKHz s b.val ≤ 1000000000 → (b.val, l) ∉ s.mer.badIslands →
    Runs (exec (.islandTimeBeacon t0 b l r) s) fun t =>
      t.mer.islandWorst.toNat = max s.mer.islandWorst.toNat (min r 0xFFFF) ∧ OnlyParts [.mer] s t) ∧
  (∀ t0 b l r s, alive s = true → 1000000000 < r * islandKHz s b.val → (b.val, l) ∉ s.mer.badIslands →
    Runs (exec (.islandTimeBeacon t0 b l r) s) fun t =>
      (b.val, l) ∈ t.mer.badIslands ∧ bit (safeWord t) 5 = true ∧ OnlyParts (.mer :: .hub :: eventParts) s t) ∧
  (∀ t0 ppm s, alive s = true → Runs (exec (.referenceClockFault t0 true ppm) s) fun t =>
    t.mer.refFault = true ∧ bit (safeWord t) 5 = true ∧ OnlyParts (.mer :: .hub :: eventParts) s t) ∧
  (∀ t0 ppm s, alive s = true → ppm.natAbs ≤ 1000 → Runs (exec (.referenceClockFault t0 false ppm) s) fun t =>
    OnlyParts [] s t) ∧
  (∀ t0 delta at_ s, alive s = true → s.mer.step = some (delta, at_) → stepPermitted s = true →
    ceilTo tpUs (at_ + tpUs) ≤ max s.now t0 → Runs (exec (.stepApply t0) s) fun t =>
      t.now = moved (max s.now t0) delta ∧ t.mer.step = none ∧ t.mer.snaps = [] ∧ t.hub = s.hub) ∧
  (∀ t0 (g : Fin 8) s, alive s = true → (windowOf s g).enabled = true → (windowOf s g).waiting = [] →
    gridStart (windowOf s g).period (windowOf s g).origin ((windowOf s g).index + 1) ≤ max s.now t0 →
    Runs (exec (.windowBoundary t0 g) s) fun t =>
      (windowOf t g).index = (windowOf s g).index + 1 ∧ (windowOf t g).start = max s.now t0
        ∧ (∀ k, k ≠ g.val → windowOf t k = windowOf s k) ∧ t.hub = s.hub ∧ t.mem = s.mem) ∧
  (∀ t0 p rest s, Calm s → s.mer.snaps = p :: rest → p ∉ rest → p.t ≤ max s.now t0 →
    Runs (exec (.snapshotInstant t0) s) fun t =>
      t.mer.snaps = rest ∧ (∃ w, t.hub.snapQueue = s.hub.snapQueue ++ [{ t := p.t, source := p.source, words := w }])
        ∧ (s.hub.snapQueue = [] → t.hub.snapSeq = s.hub.snapSeq + 1) ∧ OnlyParts [.mer, .hub] s t) ∧
  (∀ t0 c s, alive s = true → s.hub.snapQueue = [c] → Runs (exec (.snapshotPublished t0) s) fun t =>
    t.hub.snapTime = c.t ∧ t.hub.snapPages = c.words ∧ t.hub.snapSeq = s.hub.snapSeq + 1 ∧ t.hub.snapQueue = []
      ∧ OnlyParts (.hub :: eventParts) s t) ∧
  (∀ t0 s, alive s = true → bit (u8 (cfgGet s .snapPin) 0) 0 = true → s.mer.snapEdge = none →
    Runs (exec (.snapInEdge t0 (!bit (u8 (cfgGet s .snapPin) 0) 1)) s) fun t =>
      t.mer = { s.mer with snapEdge := some (max s.now t0) } ∧ OnlyParts [.mer] s t) ∧
  (∀ t0 e s, alive s = true → s.mer.snapEdge = some e → e + snapFilter s ≤ max s.now t0 → s.mer.snaps = [] →
    Runs (exec (.snapInAccepted t0) s) fun t =>
      t.mer.snaps = [{ t := e + 2 * tpUs, source := 1 }] ∧ t.mer.snapEdge = none
        ∧ t.mer.snapIn = satInc 16 s.mer.snapIn ∧ OnlyParts [.mer] s t) ∧
  (∀ t0 e l s, alive s = true → s.mer.snapOut = some (e, l) → e ≤ max s.now t0 →
    Runs (exec (.snapOutPulseEnd t0) s) fun t => t.mer = { s.mer with snapOut := none } ∧ OnlyParts [.mer] s t)

/-- The PTP domains and network ports (R93 to R98): messages received give offset, lock, master and path delay, requests are
answered and sent, timeouts and link changes move the port state, and the hold-off gives the preferred domain back. -/
def Obligations.PtpRows : Prop :=
  (∀ t0 (d : Fin 2) off s, alive s = true → ((ptpOf s d).state = 8 ∨ (ptpOf s d).state = 9) →
    Runs (exec (.ptpSyncReceived t0 d off) s) fun t =>
      (ptpOf t d).offset = off ∧ (ptpOf t d).syncs = (ptpOf s d).syncs + 1 ∧ (ptpOf t d).lastSync = max s.now t0
        ∧ (off.natAbs < lockThreshold s d → (ptpOf s d).state = 8 → 15 ≤ (ptpOf s d).inLock → (ptpOf t d).state = 9)
        ∧ OnlyParts ([.mer, .free] ++ eventParts) s t) ∧
  (∀ t0 (d : Fin 2) a s, alive s = true → (ptpOf s d).state = 4 → a.selected = true →
    Runs (exec (.ptpAnnounceReceived t0 d a) s) fun t =>
      (ptpOf t d).state = 8 ∧ (ptpOf t d).grandmaster = a.grandmaster ∧ (ptpOf t d).clockClass = a.clockClass
        ∧ (ptpOf t d).stepsRemoved = a.stepsRemoved ∧ OnlyParts [.mer] s t) ∧
  (∀ t0 (d : Fin 2) delay s, alive s = true → (ptpOf s d).state ≠ 3 → (ptpOf s d).state ≠ 2 →
    Runs (exec (.ptpDelayRespReceived t0 d delay) s) fun t =>
      ptpOf t d = { ptpOf s d with pathDelay := delay } ∧ OnlyParts [.mer] s t) ∧
  (∀ t0 (d : Fin 2) s, alive s = true → (ptpOf s d).state ≠ 3 → (ptpOf s d).state ≠ 2 → ptpPeer s d = true →
    Runs (exec (.ptpPdelayReqReceived t0 d) s) fun t =>
      Output.net (ptpPort s d) d .pdelayResp ∈ sent s t
        ∧ (ptpOneStep s d = false → Output.net (ptpPort s d) d .pdelayRespFollowUp ∈ sent s t) ∧ OnlyParts [.out] s t) ∧
  (∀ t0 (d : Fin 2) s, alive s = true → ((ptpOf s d).state = 8 ∨ (ptpOf s d).state = 9) →
    Runs (exec (.ptpDelayReqSend t0 d) s) fun t =>
      sent s t = [.net (ptpPort s d) d (if ptpPeer s d then .pdelayReq else .delayReq)] ∧ OnlyParts [.out] s t) ∧
  (∀ t0 (d : Fin 2) s, alive s = true → (ptpOf s d).state = 9 →
    (ptpOf s d).lastSync + 8 * logPeriod (s8 (ptpCfg s d) 6) ≤ max s.now t0 →
    Runs (exec (.ptpSyncTimeout t0 d) s) fun t => (ptpOf t d).state = 8 ∧ OnlyParts (.mer :: eventParts) s t) ∧
  (∀ t0 (d : Fin 2) s, alive s = true → ((ptpOf s d).state = 8 ∨ (ptpOf s d).state = 9) →
    (ptpOf s d).lastAnnounce + 3 * logPeriod (s8 (ptpCfg s d) 7) ≤ max s.now t0 →
    Runs (exec (.ptpAnnounceTimeout t0 d) s) fun t =>
      (ptpOf t d).state = 4 ∧ (ptpOf t d).announceTimeouts = satInc 16 (ptpOf s d).announceTimeouts
        ∧ OnlyParts (.mer :: eventParts) s t) ∧
  (∀ t0 s, alive s = true → policyFree s = false → ringTimed s = false → preferred s = 0 → isSlave s 0 = true →
    revertSet s = true → s.mer.ptpA.slaveSince + holdoff s ≤ max s.now t0 →
    Runs (exec (.revertHoldoffExpiry t0) s) fun t => t.mer.source = 1 ∧ OnlyParts (.mer :: eventParts) s t) ∧
  (∀ t0 (p : Fin 2) up s, alive s = true → Runs (exec (.netLinkChange t0 p up) s) fun t =>
    portLink t p = (up && portEnabled s p)
      ∧ (∀ d, d < 2 → ptpPort s d = p.val → (ptpOf s d).state ≠ 3 → (up && portEnabled s p) = false →
          (ptpOf t d).state = 2)
      ∧ (∀ d, d < 2 → ptpPort s d = p.val → (ptpOf s d).state = 2 → (up && portEnabled s p) = true →
          (ptpOf t d).state = 4)
      ∧ OnlyParts (.mer :: eventParts) s t) ∧
  (∀ t0 (p : Fin 2) s, alive s = true → Runs (exec (.nonPtpFrame t0 p) s) fun t =>
    t.mer = (if p = 0 then { s.mer with drop0 := satInc 16 s.mer.drop0 }
             else { s.mer with drop1 := satInc 16 s.mer.drop1 }) ∧ OnlyParts [.mer] s t)
/-- The commands of the web encoders complete (06): settings in force, the reference dropped, the active encoder chosen,
the pulse output to be reset. -/
def Obligations.EncoderCommandsComplete : Prop :=
  (∀ c s, Accepted encInputSetRow c s → Runs (exec (.encInputSet c) s) fun t =>
    Answered c 0x0601 eOk [] s t ∧ cfgGet t (.encInput (idx2 (u8 c.params 0))) = slice c.params 0 32
      ∧ (encOf t (u8 c.params 0)).referenced = false
      ∧ (encOf t (u8 c.params 0)).count = (encOf s (u8 c.params 0)).count ∧ t.mem = s.mem ∧ t.hlk = s.hlk) ∧
  (∀ c s, Accepted regulatorSetRow c s → Runs (exec (.regulatorSet c) s) fun t =>
    Answered c 0x0602 eOk [] s t ∧ cfgGet t .regulator = slice c.params 0 16
      ∧ (∀ x, x < 2 → (encOf t x).count = (encOf s x).count) ∧ t.mem = s.mem ∧ t.hlk = s.hlk) ∧
  (∀ c s, Accepted encActiveSetRow c s → Runs (exec (.encActiveSet c) s) fun t =>
    Answered c 0x0603 eOk [] s t ∧ t.enc.active1 = (u8 c.params 0 == 1) ∧ t.enc.latched = false ∧ t.enc.agree = false
      ∧ t.enc.switch = none ∧ (∀ x, x < 2 → encOf t x = encOf s x) ∧ t.mem = s.mem ∧ t.hlk = s.hlk) ∧
  (∀ c s, Accepted pulseSetSpec c s → Runs (exec (.pulseSet c) s) fun t =>
    Answered c 0x0604 eOk [] s t ∧ cfgGet t .pulse = slice c.params 0 12 ∧ t.enc.resetPending = true
      ∧ (∀ x, x < 2 → encOf t x = encOf s x) ∧ OnlyParts [.settings, .held, .hub, .enc, .bar0, .out] s t)

/-- What the encoders tell (R107 to R123): a valid transition counts one with its direction, an invalid one is an error, an
index references, faults come and go, standstill is declared, the offset is latched, and a pulse ends. -/
def Obligations.EncoderRows : Prop :=
  (∀ t0 (x : Fin 2) rev s, Calm s → encEnabled s x = true → Runs (exec (.encoderCount t0 x rev true) s) fun t =>
    (encOf t x).count = (encOf s x).count + (if rev != bit (u8 (encCfg s x) 1) 1 then -1 else 1)
      ∧ (encOf t x).reverse = (rev != bit (u8 (encCfg s x) 1) 1) ∧ (encOf t x).standstill = false
      ∧ (encOf t x).lastEdge = max s.now t0 ∧ (encOf t (1 - x.val)).count = (encOf s (1 - x.val)).count) ∧
  (∀ t0 (x : Fin 2) rev s, Calm s → encEnabled s x = true → Runs (exec (.encoderCount t0 x rev false) s) fun t =>
    (encOf t x).quadErr = satInc 16 (encOf s x).quadErr ∧ (encOf t x).count = (encOf s x).count
      ∧ (encOf t (1 - x.val)).count = (encOf s (1 - x.val)).count) ∧
  (∀ t0 (x : Fin 2) rev valid s, Calm s → encEnabled s x = false →
    Runs (exec (.encoderCount t0 x rev valid) s) fun t => t.enc = s.enc ∧ t.mem = s.mem ∧ t.hlk = s.hlk) ∧
  (∀ t0 (x : Fin 2) s, Calm s → encEnabled s x = true → bit (u8 (encCfg s x) 1) 2 = true →
    (encOf s x).referenced = false → Runs (exec (.encoderIndex t0 x) s) fun t =>
      (encOf t x).referenced = true ∧ (encOf t x).subrev = indexPosition s x ∧ (encOf t x).rev = 0
        ∧ (encOf t x).sinceIndex = 0 ∧ (encOf t x).count = (encOf s x).count) ∧
  (∀ t0 (x : Fin 2) s, Calm s → encEnabled s x = true → (encOf s x).causes = [] →
    Runs (exec (.receiverFault t0 x) s) fun t => (0, max s.now t0) ∈ (encOf t x).causes) ∧
  (∀ t0 (x : Fin 2) (k : Fin 6) u s, Calm s → k.val < 3 → (encOf s x).causes = [(k.val, u)] →
    u + clearHold k.val ≤ max s.now t0 → Runs (exec (.encoderCauseClear t0 x k) s) fun t =>
      (encOf t x).causes = []) ∧
  (∀ t0 (x : Fin 2) s, Calm s → encEnabled s x = true → (encOf s x).standstill = false →
    standstillAt s x ≤ max s.now t0 → Runs (exec (.standstillDeclared t0 x) s) fun t =>
      (encOf t x).standstill = true ∧ ((encOf s x).reg = 2 → (encOf t x).reg = 3 ∧ (encOf t x).vel = 0)
        ∧ (encOf t x).count = (encOf s x).count) ∧
  (∀ t0 s, Calm s → (encOf s (activeEnc s)).standstill = true → s.enc.latched = false →
    (encHealthy s 0 && encHealthy s 1 && regReady s 0 && regReady s 1) = true →
    Runs (exec (.agreementMsCheck t0) s) fun t =>
      t.enc.latched = true ∧ t.enc.agree = true ∧ t.enc.passing = 0
        ∧ t.enc.offset = predict s.enc.e1 (max s.now t0) - predict s.enc.e0 (max s.now t0)) ∧
  (∀ t0 e s, alive s = true → s.enc.pulseEnd = some e → e ≤ max s.now t0 →
    Runs (exec (.pulseWidthEnd t0) s) fun t =>
      (s.enc.pulseWaiting = 0 → t.enc = { s.enc with pulseEnd := none })
        ∧ (0 < s.enc.pulseWaiting → t.enc.pulseWaiting = s.enc.pulseWaiting - 1
            ∧ t.enc.pulseCount = s.enc.pulseCount + 1)
        ∧ OnlyParts [.enc] s t) ∧
  (∀ t0 n s, Calm s → s.enc.switch = none → s.hub.mode = .standby → s.esc.hwm < n → s.cal.laid = [] →
    Runs (exec (.slotBoundary t0 n) s) fun t => t.esc.hwm = n)
/-- R44, R46: setting enable on a ring whose BASE, SIZE and Reply Ring allow it starts the ring empty at index 0; otherwise
the ring enters the error state with the code of the first check that fails. -/
def Obligations.RingEnableRows : Prop :=
  (∀ t0 s, alive s = true → s.bar0.cmd.enabled = false → s.bar0.cmd.error = false → enableError .cmd s = none →
    s.bar0.heldReplies = [] → s.bar0.buffer = [] → Runs (exec (.cmdRingEnable t0) s) fun t =>
      t.bar0.cmd = { s.bar0.cmd with ctrl := true, enabled := true, code := 0, idx := 0, other := 0, phase := false }
        ∧ t.bar0.placed = [] ∧ OnlyParts [.bar0] s t) ∧
  (∀ t0 code s, alive s = true → s.bar0.cmd.enabled = false → s.bar0.cmd.error = false →
    enableError .cmd s = some code → Runs (exec (.cmdRingEnable t0) s) fun t =>
      t.bar0.cmd.error = true ∧ t.bar0.cmd.code = BitVec.ofNat 8 code ∧ t.bar0.cmd.enabled = false
        ∧ OnlyParts eventParts s t) ∧
  (∀ t0 s, alive s = true → Runs (exec (.cmdRingDisable t0) s) fun t =>
    t.bar0.cmd.enabled = false ∧ t.bar0.cmd.error = false ∧ t.bar0.placed = [] ∧ t.bar0.rpl = s.bar0.rpl
      ∧ t.bar0.evt = s.bar0.evt ∧ OnlyParts [.bar0] s t) ∧
  (∀ t0 s, Calm s → s.bar0.rpl.enabled = false → s.bar0.rpl.error = false → enableError .rpl s = none →
    s.bar0.heldReplies = [] → s.bar0.buffer = [] → Runs (exec (.rplRingEnable t0) s) fun t =>
      t.bar0.rpl = { s.bar0.rpl with ctrl := true, enabled := true, code := 0, idx := 0, other := 0, phase := true }
        ∧ OnlyParts [.bar0] s t) ∧
  (∀ t0 s, alive s = true → Runs (exec (.rplRingDisable t0) s) fun t =>
    t.bar0.rpl.enabled = false ∧ t.bar0.cmd.enabled = false ∧ t.bar0.placed = [] ∧ t.bar0.evt = s.bar0.evt
      ∧ OnlyParts [.bar0] s t) ∧
  (∀ t0 s, alive s = true → s.bar0.evt.enabled = false → s.bar0.evt.error = false → enableError .evt s = none →
    s.bar0.heldReplies = [] → s.bar0.buffer = [] → Runs (exec (.evtRingEnable t0) s) fun t =>
      t.bar0.evt = { s.bar0.evt with ctrl := true, enabled := true, code := 0, idx := 0, other := 0, phase := true }
        ∧ OnlyParts [.bar0] s t) ∧
  (∀ t0 s, alive s = true → Runs (exec (.evtRingDisable t0) s) fun t =>
    t.bar0.evt.enabled = false ∧ t.bar0.evt.error = false ∧ t.bar0.cmd = s.bar0.cmd ∧ t.bar0.rpl = s.bar0.rpl
      ∧ OnlyParts [.bar0] s t)

/-- R43, R46: a doorbell whose index lies in its ring moves that index; one outside it, or a head beyond the entries in use,
puts the ring into the error state with code 3, and a failed read of entries with code 4. -/
def Obligations.DoorbellRows : Prop :=
  (∀ t0 v s, Calm s → ringUsable s.bar0.cmd = true → v.toNat < s.bar0.cmd.size.toNat →
    Runs (exec (.cmdTailDb t0 v false) s) fun t =>
      t.bar0 = { s.bar0 with cmd := { s.bar0.cmd with other := v.toNat } } ∧ OnlyParts [.bar0] s t) ∧
  (∀ t0 v fails s, Calm s → ringUsable s.bar0.cmd = true → s.bar0.cmd.size.toNat ≤ v.toNat →
    Runs (exec (.cmdTailDb t0 v fails) s) fun t =>
      t.bar0.cmd.error = true ∧ t.bar0.cmd.code = 3 ∧ OnlyParts eventParts s t) ∧
  (∀ t0 v s, Calm s → ringUsable s.bar0.cmd = true → v.toNat < s.bar0.cmd.size.toNat → v.toNat ≠ s.bar0.cmd.idx →
    Runs (exec (.cmdTailDb t0 v true) s) fun t =>
      t.bar0.cmd.error = true ∧ t.bar0.cmd.code = 4 ∧ OnlyParts eventParts s t) ∧
  (∀ t0 v s, Calm s → ringUsable s.bar0.rpl = true → v.toNat < s.bar0.rpl.size.toNat →
    inUse s.bar0.rpl.size.toNat v.toNat s.bar0.rpl.other ≤ inUse s.bar0.rpl.size.toNat s.bar0.rpl.idx s.bar0.rpl.other →
    s.bar0.heldReplies = [] → s.bar0.buffer = [] → Runs (exec (.rplHeadDb t0 v) s) fun t =>
      t.bar0 = { s.bar0 with rpl := { s.bar0.rpl with other := v.toNat } } ∧ OnlyParts [.bar0] s t) ∧
  (∀ t0 v s, Calm s → ringUsable s.bar0.rpl = true → s.bar0.rpl.size.toNat ≤ v.toNat →
    Runs (exec (.rplHeadDb t0 v) s) fun t =>
      t.bar0.rpl.error = true ∧ t.bar0.rpl.code = 3 ∧ OnlyParts eventParts s t) ∧
  (∀ t0 v s, alive s = true → ringUsable s.bar0.evt = true → v.toNat < s.bar0.evt.size.toNat →
    inUse s.bar0.evt.size.toNat v.toNat s.bar0.evt.other ≤ inUse s.bar0.evt.size.toNat s.bar0.evt.idx s.bar0.evt.other →
    s.bar0.heldReplies = [] → s.bar0.buffer = [] → Runs (exec (.evtHeadDb t0 v) s) fun t =>
      t.bar0 = { s.bar0 with evt := { s.bar0.evt with other := v.toNat } } ∧ OnlyParts [.bar0] s t) ∧
  (∀ t0 v s, alive s = true → ringUsable s.bar0.evt = true → s.bar0.evt.size.toNat ≤ v.toNat →
    Runs (exec (.evtHeadDb t0 v) s) fun t =>
      t.bar0.evt.error = true ∧ t.bar0.evt.code = 3 ∧ OnlyParts eventParts s t)

/-- Registers, interrupts, link and function (R40 to R42, R62, R64, R68): a register write is taken or discarded, a message
leaves when its time or its mask lets it, the heartbeats count, and the link, the function and FLR do as R40 says. -/
def Obligations.HostInterfaceRows : Prop :=
  (∀ t0 v s, Calm s → Runs (exec (.bar0RegisterWrite t0 0x3020 4 v) s) fun t =>
    t.bar0 = { s.bar0 with coalReply := v.truncate 32 &&& 0x03FF00FF } ∧ OnlyParts [.bar0] s t) ∧
  (∀ t0 v s, Calm s → s.bar0.cmd.enabled = false → Runs (exec (.bar0RegisterWrite t0 0x1008 4 v) s) fun t =>
    t.bar0 = { s.bar0 with cmd := { s.bar0.cmd with size := v.truncate 32 } } ∧ OnlyParts [.bar0] s t) ∧
  (∀ t0 v s, Calm s → s.bar0.cmd.enabled = false → Runs (exec (.bar0RegisterWrite t0 0x1000 8 v) s) fun t =>
    t.bar0.cmd.base = v ∧ t.bar0.cmd.baseLow = none ∧ t.bar0.rpl = s.bar0.rpl ∧ OnlyParts [.bar0] s t) ∧
  (∀ t0 off n v s, Calm s → (n ≠ 4 ∨ off % 4 ≠ 0) → (n ≠ 8 ∨ off % 8 ≠ 0) →
    Runs (exec (.bar0RegisterWrite t0 off n v) s) fun t => OnlyParts [] s t) ∧
  (∀ t0 (n : Fin 5) s, alive s = true → n.val < 3 → 0 < (tget {} s.bar0.sources n.val).count →
    (tget {} s.bar0.sources n.val).oldest + coalTime s n.val ≤ max s.now t0 → bit (intMapOf s n.val) 8 = true →
    vectorMasked s (bits (intMapOf s n.val) 5 0) = false → dmaOk s = true →
    Runs (exec (.coalesceTimeout t0 n) s) fun t =>
      sent s t = [.msix (bits (intMapOf s n.val) 5 0)] ∧ (tget {} t.bar0.sources n.val).count = 0
        ∧ OnlyParts replyParts s t) ∧
  (∀ t0 (v : Fin 64) s, alive s = true → s.bar0.pba = [v.val] → dmaOk s = true →
    Runs (exec (.msiXUnmask t0 (.vector v)) s) fun t =>
      vectorMasked t v = false ∧ t.bar0.pba = [] ∧ sent s t = [.msix v] ∧ OnlyParts replyParts s t) ∧
  (∀ t0 s, Calm s → heartbeatCounts s = true → s.hub.heartbeatMs < max s.now t0 / tpMs →
    Runs (exec (.devHeartbeatTick t0) s) fun t => t.hub.heartbeat = s.hub.heartbeat + 1 ∧ t.mem = s.mem) ∧
  (∀ t0 v s, Calm s → wdPeriod s ≠ 0 → (∀ d, s.hub.wdDeadline = some d → max s.now t0 < d) →
    Runs (exec (.hostHeartbeat t0 v) s) fun t =>
      t.hub = { s.hub with wdDeadline := some (max s.now t0 + wdPeriod s), wdLast := max s.now t0 }
        ∧ OnlyParts [.hub] s t) ∧
  (∀ t0 s, Calm s → Runs (exec (.functionLevelReset t0) s) fun t =>
    t.bar0.cmd = {} ∧ t.bar0.rpl = {} ∧ t.bar0.evt = {} ∧ t.bar0.intMap = [] ∧ t.bar0.msix = [] ∧ t.bar0.placed = []
      ∧ t.hub = s.hub ∧ t.cfg = s.cfg ∧ t.enc = s.enc) ∧
  (∀ t0 s, Calm s → s.link.up = true → Runs (exec (.linkDown t0) s) fun t =>
    t.link.up = false ∧ t.link.downCount = s.link.downCount + 1 ∧ t.hub = s.hub ∧ t.cfg = s.cfg) ∧
  (∀ t0 g w s, Calm s → Runs (exec (.linkUp t0 g w) s) fun t =>
    t.link.up = true ∧ t.link.gen = g ∧ t.link.width = w ∧ OnlyParts (.link :: eventParts) s t) ∧
  (∀ t0 s, Calm s → Runs (exec (.busMasterEnableCleared t0) s) fun t =>
    t.link = { s.link with busMaster := false } ∧ dmaOk t = false ∧ t.hub = s.hub ∧ t.cfg = s.cfg) ∧
  (∀ t0 s, Calm s → Runs (exec (.busMasterEnableSet t0) s) fun t =>
    t.link = { s.link with busMaster := true } ∧ OnlyParts (.link :: eventParts) s t) ∧
  (∀ t0 s, Calm s → Runs (exec (.d3hotEntry t0) s) fun t =>
    t.link = { s.link with d3hot := true } ∧ dmaOk t = false ∧ t.hub = s.hub ∧ t.cfg = s.cfg) ∧
  (∀ t0 s, Calm s → Runs (exec (.d3hotExit t0) s) fun t =>
    t.link = { s.link with d3hot := false } ∧ OnlyParts (.link :: eventParts) s t)
/-- R27: a transition that is due takes effect at its instant: from BOOT with the accepted features, among the setup modes,
and into SAFE for a cause that stands. -/
def Obligations.ModeTransitionRows : Prop :=
  (∀ t0 line x s, Calm s → s.hub.mode = .boot → s.hub.trans = some x → x.target = .standby →
    (∃ i, x.due = .instant i ∧ i ≤ max s.now t0) → s.hub.bootFaults = 0 → s.hub.safe = [] →
    Runs (exec (.modeTransitionInstant t0 line) s) fun t =>
      t.hub.mode = .standby ∧ t.hub.trans = none ∧ t.hub.features = s.hub.accepted.getD 0 ∧ t.hub.cfgCount = 1
        ∧ t.hub.modeTime = max s.now t0) ∧
  (∀ t0 line x s, Calm s → setupModes s.hub.mode = true → s.hub.trans = some x → setupModes x.target = true →
    (∃ i, x.due = .instant i ∧ i ≤ max s.now t0) → s.hub.safe = [] →
    Runs (exec (.modeTransitionInstant t0 line) s) fun t =>
      t.hub.mode = x.target ∧ t.hub.trans = none ∧ t.hub.modeTime = max s.now t0
        ∧ t.hub.lastCause = BitVec.ofNat 8 x.cause ∧ t.cfg = s.cfg ∧ t.enc = s.enc) ∧
  (∀ t0 line x s, alive s = true → s.cal.runs = [] → s.cal.spareHome = none → s.bar0.placed = [] →
    setupModes s.hub.mode = true → s.hub.auto = some x → x.target = .safe →
    (∃ i, x.due = .instant i ∧ i ≤ max s.now t0) → Runs (exec (.modeTransitionInstant t0 line) s) fun t =>
      t.hub.mode = .safe ∧ t.hub.auto = none ∧ t.hub.trans = none ∧ t.hub.modeTime = max s.now t0
        ∧ t.mem.committed = false) ∧
  (∀ t0 line s, Calm s → s.hub.trans = none → s.hub.mode ≠ .armed →
    Runs (exec (.modeTransitionInstant t0 line) s) fun t => OnlyParts [] s t)

/-- Drain, resume, watchdog and interlock (R23, R24, R26, R68, R365): a complete drain goes to its target, PRINT is scheduled
again, a passed deadline takes its action once, and the interlock sets and clears its cause. -/
def Obligations.ModeCauseRows : Prop :=
  (∀ t0 s, Calm s → drainDone (advance t0 s) = true → s.hub.safe = [] →
    Runs (exec (.drainComplete t0) s) fun t =>
      t.hub.mode = (if s.hub.drainStandby then .standby else .armed) ∧ t.hub.modeTime = max s.now t0
        ∧ t.hub.lastCause = 7) ∧
  (∀ t0 r s, Calm s → s.hub.mode = .armed → s.hub.resume = some r → s.hub.trans = none →
    resumeHolds (advance t0 s) r.cause = true → webForward s = true → rateOk (advance t0 s) = true →
    s.hub.interlockOpen = false → Runs (exec (.autoResume t0) s) fun t => ∃ x,
      t.hub.trans = some x ∧ x.target = .print ∧ x.cause = 8 ∧ x.due = .print (max s.now t0) ∧ t.hub.resume = none) ∧
  (∀ t0 d s, Calm s → s.hub.wdDeadline = some d → d ≤ max s.now t0 → u8 (cfgGet s .hub) 2 = 0 →
    Runs (exec (.hostWatchdogExpiry t0) s) fun t =>
      t.hub = { s.hub with wdDeadline := none } ∧ OnlyParts (.hub :: eventParts) s t) ∧
  (∀ t0 d s, Calm s → s.hub.wdDeadline = some d → d ≤ max s.now t0 → u8 (cfgGet s .hub) 2 = 2 →
    setupModes s.hub.mode = true → s.hub.trans = none → Runs (exec (.hostWatchdogExpiry t0) s) fun t => ∃ x,
      t.hub.wdDeadline = none ∧ t.hub.trans = some x ∧ x.target = .safe ∧ x.origin = 3
        ∧ x.due = .instant (hostInstant (max s.now t0)) ∧ OnlyParts (.hub :: eventParts) s t) ∧
  (∀ t0 since s, Calm s → s.hub.interlockOpen = false → since + 10 * tpUs ≤ max s.now t0 →
    s.hub.mode ≠ .boot → s.hub.mode ≠ .safe → Runs (exec (.interlockOpen t0 since) s) fun t =>
      t.hub.interlockOpen = true ∧ bit (safeWord t) 0 = true ∧ autoIsSafe t = true ∧ OnlyParts [.hub] s t) ∧
  (∀ t0 since s, Calm s → since + 10 * tpMs ≤ max s.now t0 → (∀ c ∈ s.hub.safe, c.bit = 0 → c.block = 0x01) →
    Runs (exec (.interlockClose t0 since) s) fun t =>
      t.hub.interlockOpen = false ∧ bit (safeWord t) 0 = false ∧ OnlyParts [.hub] s t)

/-- The boot states (R30, R31): each step of boot ends in the next state, or in FAILED with its faults. -/
def Obligations.BootRows : Prop :=
  (∀ t0 ok s, Calm s → s.hub.mode = .boot → s.hub.bootState = .rom → Runs (exec (.romDone t0 ok) s) fun t =>
    t.hub = { s.hub with bootState := .image } ∧ (ok = true → OnlyParts [.hub] s t)
      ∧ (ok = false → t.mss.trngFailed = true)) ∧
  (∀ t0 rB s, Calm s → s.hub.mode = .boot → s.hub.bootState = .image → s.nvm.preferredB = false →
    imageReason s false 0 = 0 → Runs (exec (.imageDone t0 0 rB none true) s) fun t =>
      t.hub = { s.hub with bootState := .selftest } ∧ t.mss = { s.mss with activeB := false }
        ∧ OnlyParts [.hub, .mss] s t) ∧
  (∀ t0 rA rB hubOk s, Calm s → s.hub.mode = .boot → s.hub.bootState = .image → rA ≠ 0 → rB ≠ 0 →
    Runs (exec (.imageDone t0 rA rB none hubOk) s) fun t =>
      t.hub = { s.hub with bootState := .failed } ∧ OnlyParts (.hub :: eventParts) s t) ∧
  (∀ t0 s, Calm s → s.hub.mode = .boot → s.hub.bootState = .selftest → Runs (exec (.selftestDone t0 0) s) fun t =>
    t.hub = { s.hub with bootState := .nvm, bistFailed := 0, tested := true, dead := false }
      ∧ OnlyParts [.hub] s t) ∧
  (∀ t0 failed s, Calm s → s.hub.mode = .boot → s.hub.bootState = .selftest → bit failed.toNat 1 = true →
    Runs (exec (.selftestDone t0 failed) s) fun t =>
      t.hub.bootState = .failed ∧ t.hub.dead = true ∧ t.hub.bistFailed = failed &&& 0x7FFC) ∧
  (∀ t0 ok0 ok1 s, Calm s → s.hub.mode = .boot → s.hub.bootState = .nvm →
    Runs (exec (.nvmCheckDone t0 ok0 ok1) s) fun t =>
      t.hub.bootState = .dram
        ∧ (((ok0 && !s.nvm.failed0) || (ok1 && !s.nvm.failed1)) = false →
            t.hub.bootFaults = s.hub.bootFaults ||| 4)) ∧
  (∀ t0 ok s, Calm s → s.hub.mode = .boot → s.hub.bootState = .dram → Runs (exec (.dramInitDone t0 ok) s) fun t =>
    t.hub.bootState = .recovery ∧ (ok = false → t.hub.bootFaults = s.hub.bootFaults ||| 2)) ∧
  (∀ t0 s, Calm s → s.hub.mode = .boot → s.hub.bootState = .recovery → Runs (exec (.recoveryDone t0) s) fun t =>
    t.hub = { s.hub with bootState := .ready })

/-- The resets (R23, R89, R288, R328, R344, R355): assertion holds the device, release and the other resets take it to BOOT
at device time 0 with every setting at its default, and the stores and the queue keep what they hold. -/
def Obligations.ResetRows : Prop :=
  (∀ t0 s, Runs (exec (.powerOnReset t0) s) fun t =>
    t.hub.inReset = true ∧ alive t = false ∧ t.hub.mode = .boot ∧ t.nvm = s.nvm ∧ t.pending = s.pending
      ∧ t.out = s.out) ∧
  (∀ t0 s, s.mss.shutdown = none → Runs (exec (.resetNLow t0) s) fun t =>
    t.hub.inReset = true ∧ alive t = false ∧ t.nvm = s.nvm ∧ t.pending = s.pending ∧ t.out = s.out) ∧
  (∀ t0 s, s.mss.coreOff = false → Runs (exec (.perst t0) s) fun t =>
    t.hub.inReset = true ∧ alive t = false ∧ t.nvm = s.nvm ∧ t.pending = s.pending ∧ t.out = s.out) ∧
  (∀ t0 s, s.hub.inReset = true → Runs (exec (.powerOnResetRelease t0) s) fun t =>
    t.now = 0 ∧ t.hub.mode = .boot ∧ t.hub.bootState = .rom ∧ alive t = true
      ∧ t.nvm = { s.nvm with bootCount := s.nvm.bootCount + 1 } ∧ (∀ k, k ≠ .dram → cfgGet t k = cfgDefault k)
      ∧ t.pending = s.pending ∧ t.out = s.out) ∧
  (∀ t0 s, s.hub.inReset = true → Runs (exec (.perstRelease t0) s) fun t =>
    t.now = 0 ∧ t.hub.mode = .boot ∧ t.hub.bootState = .rom ∧ alive t = true
      ∧ t.nvm = { s.nvm with bootCount := s.nvm.bootCount + 1 } ∧ (∀ k, k ≠ .dram → cfgGet t k = cfgDefault k)
      ∧ t.pending = s.pending ∧ t.out = s.out) ∧
  (∀ t0 at_ s, alive s = true → s.hub.resetAt = some at_ → at_ ≤ max s.now t0 →
    Runs (exec (.deviceResetExecute t0) s) fun t =>
      t.now = 0 ∧ t.hub.mode = .boot ∧ t.hub.bootState = .rom ∧ t.hub.resetAt = none
        ∧ t.nvm = { s.nvm with bootCount := s.nvm.bootCount + 1 } ∧ (∀ k, k ≠ .dram → cfgGet t k = cfgDefault k)
        ∧ t.pending = s.pending ∧ t.out = s.out) ∧
  (∀ t0 k at_ s, alive s = true → s.mss.shutdown = some (k, at_) → (k = 3 ∨ k = 4) →
    at_ + 2 * tpMs ≤ max s.now t0 → Runs (exec (.lockstepReset t0) s) fun t =>
      t.now = 0 ∧ t.hub.mode = .boot ∧ t.hub.bootState = .rom ∧ t.mss.shutdown = none
        ∧ t.nvm = { s.nvm with bootCount := s.nvm.bootCount + 1 } ∧ t.pending = s.pending ∧ t.out = s.out) ∧
  (∀ t0 at_ s, s.mss.shutdown = some (2, at_) → s.mss.coreOff = true → Runs (exec (.coreRestart t0) s) fun t =>
    t.now = 0 ∧ t.hub.mode = .boot ∧ t.hub.bootState = .rom ∧ t.mss.coreOff = false ∧ t.mss.shutdown = none
      ∧ t.nvm = { s.nvm with bootCount := s.nvm.bootCount + 1 } ∧ t.pending = s.pending ∧ t.out = s.out)
/-- The commands of the management subsystem complete (17). -/
def Obligations.ManagementCommandsComplete : Prop :=
  (∀ c s, Accepted mssConfigSetSpec c s → Runs (exec (.mssConfigSet c) s) fun t =>
    Answered c 0x0E01 eOk [] s t ∧ SettingTaken .mss (slice c.params 0 8) s t) ∧
  (∀ c s, Accepted mssKeyReadSpec c s → Runs (exec (.mssKeyRead c) s) fun t => ∃ b,
    Answered c 0x0E02 eOk b s t ∧ u64 b 0 = Config.deviceSerial.toNat ∧ slice b 8 8 = keyId
      ∧ slice b 16 97 = padTo 97 Config.devicePublicKey ∧ OnlyParts replyParts s t) ∧
  (∀ c s, Accepted mssUpdateBeginSpec c s → Runs (exec (.mssUpdateBegin c) s) fun t =>
    Answered c 0x0E03 ePending [] s t ∧ t.mss = { s.mss with erasing := true } ∧ OnlyParts (.mss :: replyParts) s t) ∧
  (∀ c s, Accepted mssUpdateWriteSpec c s → Runs (exec (.mssUpdateWrite c) s) fun t =>
    Answered c 0x0E04 eOk [] s t
      ∧ t.mss = { s.mss with written := s.mss.written ++ [(u32 c.params 0, c.params.drop 8)] }
      ∧ slotOf t s.mss.activeB = slotOf s s.mss.activeB ∧ OnlyParts [.mss, .nvm, .bar0, .out] s t) ∧
  (∀ c s, Accepted mssUpdateVerifySpec c s → Runs (exec (.mssUpdateVerify c) s) fun t =>
    Answered c 0x0E05 ePending [] s t ∧ t.mss = { s.mss with verifying := true }
      ∧ OnlyParts (.mss :: replyParts) s t) ∧
  (∀ c s, Accepted mssUpdateActivateSpec c s → Runs (exec (.mssUpdateActivate c) s) fun t => ∃ a,
    Answered c 0x0E06 ePending [] s t ∧ t.mss.update = .pending ∧ t.mss.activation = some a
      ∧ a.live = (u8 c.params 0 == 1)
      ∧ (a.live = true → s.hub.mode ≠ .print → s.hub.mode ≠ .drain →
          a.t = some (ceilTo tpMs (max s.now c.t + tpMs)))
      ∧ OnlyParts (.mss :: replyParts) s t) ∧
  (∀ c s, Accepted mssRollbackFenceSpec c s → Runs (exec (.mssRollbackFence c) s) fun t =>
    Answered c 0x0E07 eOk [] s t ∧ t.nvm.minSecurity = max s.nvm.minSecurity (activeImage s).security
      ∧ t.nvm.rootRevoke = s.nvm.rootRevoke ||| BitVec.ofNat 4 (u32 c.params 4)
      ∧ OnlyParts (.nvm :: replyParts) s t) ∧
  (∀ c s, Accepted mssSealSpec c s → Runs (exec (.mssSeal c) s) fun t =>
    Answered c 0x0E08 eOk [] s t ∧ t.nvm = { s.nvm with sealed_ := true } ∧ OnlyParts (.nvm :: replyParts) s t) ∧
  (∀ c s, Accepted mssLogReadSpec c s → s.nvm.anchor.length = 32 → Runs (exec (.mssLogRead c) s) fun t => ∃ b,
    Answered c 0x0E09 eOk b s t ∧ b.take 32 = s.nvm.anchor ∧ u64 b 40 = s.nvm.logCount % 2 ^ 64
      ∧ OnlyParts replyParts s t) ∧
  (∀ c s, Accepted attestSpec c s → Runs (exec (.attest c) s) fun t => ∃ b,
    Answered c 0x0E10 eOk b s t ∧ u16 b 0 = 1 ∧ u8 b 4 = s.rng.address.toNat ∧ u64 b 8 = Config.deviceSerial.toNat
      ∧ slice b 32 32 = padTo 32 c.params ∧ OnlyParts replyParts s t)

/-- Firmware update and activation (R341 to R343): erase and verification end, the cores switch bank at T_a, and a trial is
confirmed, runs out or is reverted. -/
def Obligations.FirmwareRows : Prop :=
  (∀ t0 s, alive s = true → s.mss.erasing = true → s.nvm.failed0 = false →
    Runs (exec (.slotEraseDone t0 true true) s) fun t =>
      t.mss.erasing = false ∧ t.mss.update = .writing ∧ t.mss.written = [] ∧ (slotOf t (!s.mss.activeB)).present = false
        ∧ slotOf t s.mss.activeB = slotOf s s.mss.activeB ∧ OnlyParts (.nvm :: eventParts) s t) ∧
  (∀ t0 a b k s, alive s = true → s.mss.verifying = true → Runs (exec (.updateVerifyDone t0 a b k) s) fun t =>
    t.mss.verifying = false ∧ t.mss.update = (if verifyReason s a b k = 0 then .verified else s.mss.update)
      ∧ slotOf t s.mss.activeB = slotOf s s.mss.activeB ∧ OnlyParts (.nvm :: eventParts) s t) ∧
  (∀ t0 begin a at_ s, alive s = true → s.mss.activation = some a → a.live = true → a.notBefore = none →
    a.t = some at_ → at_ ≤ max s.now t0 → s.hub.safe = [] → Runs (exec (.activation t0 begin) s) fun t =>
      t.mss.activeB = (!s.mss.activeB) ∧ t.mss.update = .idle ∧ t.mss.activation = none
        ∧ t.mss.activateTime = max s.now t0 ∧ t.mss.trial = some (max s.now t0 + u8 (cfgGet s .mss) 1 * tpS)
        ∧ t.hub = s.hub ∧ t.cfg = s.cfg) ∧
  (∀ t0 d s, alive s = true → s.mss.trial = some d → max s.now t0 ≤ d → s.mss.trialOver = false →
    Runs (exec (.imageConfirm t0) s) fun t =>
      t.mss.trial = none ∧ t.mss.journal = s.mss.journal ++ [.preferred s.mss.activeB]
        ∧ t.mss.activeB = s.mss.activeB ∧ OnlyParts eventParts s t) ∧
  (∀ t0 d s, alive s = true → s.mss.trial = some d → d ≤ max s.now t0 → s.hub.mode ≠ .print → s.hub.mode ≠ .drain →
    Runs (exec (.trialTimeout t0) s) fun t =>
      t.mss.activeB = (!s.mss.activeB) ∧ t.mss.trial = none ∧ t.hub = s.hub ∧ t.cfg = s.cfg) ∧
  (∀ t0 n s, alive s = true → s.mss.trialOver = true → Runs (exec (.trialRevert t0 (some n)) s) fun t =>
    t.mss.activeB = (!s.mss.activeB) ∧ t.mss.trial = none ∧ t.mss.trialOver = false ∧ t.hub = s.hub
      ∧ t.cfg = s.cfg)

/-- Journal, event log, random numbers, lockstep and supplies (R328, R329, R333, R338, R340, R344): what is programmed, what
stands as a SAFE cause, and which sequence begins. -/
def Obligations.ManagementRows : Prop :=
  (∀ t0 b rest s, alive s = true → s.mss.journal = .preferred b :: rest → s.nvm.failed0 = false →
    Runs (exec (.journalCommit t0 true true) s) fun t =>
      t.mss.journal = rest ∧ t.nvm = { s.nvm with preferredB := b } ∧ OnlyParts [.mss, .nvm] s t) ∧
  (∀ t0 e s, alive s = true → s.mss.logQueue = [e] → s.nvm.failed0 = false → s.nvm.log.length < logCapacity →
    Runs (exec (.eventLogAppend t0 true true) s) fun t =>
      t.mss.logQueue = [] ∧ t.nvm.logCount = s.nvm.logCount + 1 ∧ t.nvm.logHead = sha256 (s.nvm.logHead ++ e)
        ∧ t.nvm.log = s.nvm.log ++ [{ event := e, h := sha256 (s.nvm.logHead ++ e) }]
        ∧ OnlyParts [.mss, .nvm] s t) ∧
  (∀ t0 n s, alive s = true → s.hub.mode ≠ .boot → Runs (exec (.trngHealthFailure t0 n) s) fun t =>
    t.mss.trngFailed = true ∧ OnlyParts eventParts s t) ∧
  (∀ t0 s, alive s = true → s.mss.shutdown = none → Runs (exec (.lockstepMismatch t0) s) fun t =>
    bit (safeWord t) 2 = true ∧ t.mss.shutdown = some (3, max s.now t0) ∧ t.nvm.shutdownCause = 3
      ∧ OnlyParts [.hub, .mss, .nvm] s t) ∧
  (∀ t0 s, alive s = true → s.hub.bootState ≠ .failed → s.mss.shutdown = none →
    Runs (exec (.mssWatchdogExpiry t0) s) fun t =>
      bit (safeWord t) 5 = true ∧ t.mss.shutdown = some (4, max s.now t0) ∧ t.nvm.shutdownCause = 4
        ∧ OnlyParts [.hub, .mss, .nvm] s t) ∧
  (∀ t0 (p : Fin 7) mv s, alive s = true → outsideMv p mv 3 = true → bit s.mss.warn.toNat p = false →
    Runs (exec (.supplyWarning t0 p mv) s) fun t =>
      t.mss.warn = s.mss.warn ||| BitVec.ofNat 7 (2 ^ p.val) ∧ tget 0 t.mss.supplyMv p.val = mv
        ∧ OnlyParts eventParts s t) ∧
  (∀ t0 (p : Fin 7) mv s, alive s = true → outsideMv p mv 5 = true → bit s.mss.fault.toNat p = false →
    Runs (exec (.supplyFault t0 p mv) s) fun t =>
      t.mss.fault = s.mss.fault ||| BitVec.ofNat 7 (2 ^ p.val) ∧ bit (safeWord t) 3 = true
        ∧ OnlyParts (.hub :: eventParts) s t) ∧
  (∀ t0 (p : Fin 2) mv s, alive s = true → mv * 100 < nominalMv p * 92 → s.mss.shutdown = none →
    Runs (exec (.supplyCollapse t0 p mv) s) fun t =>
      t.mss.shutdown = some (2, max s.now t0) ∧ t.nvm.shutdownCause = 2 ∧ t.nvm.shutdownTime = max s.now t0
        ∧ OnlyParts (.hub :: .nvm :: eventParts) s t) ∧
  (∀ t0 (p : Fin 7) mv s, alive s = true → outsideMv p mv 3 = false → Runs (exec (.supplyClear t0 p mv) s) fun t =>
    bit t.mss.warn.toNat p = false ∧ bit t.mss.fault.toNat p = false ∧ tget 0 t.mss.supplyMv p.val = mv
      ∧ OnlyParts [.hub, .mss] s t)
/-- The commands of the page store complete (07): a load begins, a page is freed or shown, the queue grows, is committed or
emptied, and the memory settings are taken. -/
def Obligations.PageStoreCommandsComplete : Prop :=
  (∀ c s, Accepted pageLoadSpec c s → Runs (exec (.pageLoad c) s) fun t => ∃ p,
    Answered c 0x0201 ePending [] s t ∧ t.mem = { s.mem with pages := s.mem.pages ++ [p] } ∧ p.id = u32 c.params 0
      ∧ p.params = slice c.params 0 48 ∧ p.state = .loading ∧ p.data = [] ∧ OnlyParts (.mem :: replyParts) s t) ∧
  (∀ c s, Accepted pageDiscardSpec c s → Runs (exec (.pageDiscard c) s) fun t =>
    Answered c 0x0202 eOk [] s t ∧ pageState t (u32 c.params 0) = .empty
      ∧ (∀ id, id ≠ u32 c.params 0 → findPage t id = findPage s id) ∧ t.mem.queue = s.mem.queue
      ∧ OnlyParts (.mem :: .ins :: .cal :: eventParts) s t) ∧
  (∀ c s, Accepted pageQuerySpec c s → Runs (exec (.pageQuery c) s) fun t => ∃ b,
    Answered c 0x0203 eOk b s t ∧ b.length = 36 ∧ u32 b 0 = u32 c.params 0
      ∧ u8 b 4 = stateCode (pageState s (u32 c.params 0)) ∧ OnlyParts (.free :: replyParts) s t) ∧
  (∀ c s, Accepted queueAppendSpec c s → Runs (exec (.queueAppend c) s) fun t =>
    Answered c 0x0204 eOk [] s t ∧ t.mem = { s.mem with queue := s.mem.queue ++ appendIds c.params }
      ∧ OnlyParts [.mem, .ldg, .bar0, .out] s t) ∧
  (∀ c s, Accepted queueCommitSpec c s → Runs (exec (.queueCommit c) s) fun t =>
    Answered c 0x0205 eOk [] s t ∧ t.mem = { s.mem with committed := true, endAction := u8 c.params 0 }
      ∧ OnlyParts [.mem, .ldg, .bar0, .out] s t) ∧
  (∀ c s, Accepted queueClearSpec c s → Runs (exec (.queueClear c) s) fun t =>
    Answered c 0x0206 eOk [] s t ∧ t.mem = { s.mem with committed := false, queue := [] }
      ∧ OnlyParts (.mem :: replyParts) s t) ∧
  (∀ c s, Accepted memPortSetSpec c s → Runs (exec (.memPortSet c) s) fun t =>
    Answered c 0x0207 eOk [] s t
      ∧ SettingTaken (.memPort (Fin.ofNat 7 (u8 c.params 0))) (slice c.params 1 7 ++ [0]) s t) ∧
  (∀ c s, Accepted memConfigSetSpec c s → u8 c.params 0 ≤ insRegionGib s → Runs (exec (.memConfigSet c) s) fun t =>
    Answered c 0x0208 eOk [] s t ∧ SettingTaken .memConfig (slice c.params 0 8) s t) ∧
  (∀ c s, Accepted memConfigSetSpec c s → insRegionGib s < u8 c.params 0 → Runs (exec (.memConfigSet c) s) fun t =>
    (Answered c 0x0208 eOk [] s t ∧ cfgGet t .memConfig = slice c.params 0 8)
      ∨ (Answered c 0x0208 eNoResource [] s t ∧ t.cfg = s.cfg)) ∧
  (∀ c s, Accepted memDramDescribeSpec c s → Runs (exec (.memDramDescribe c) s) fun t =>
    Answered c 0x0209 ePending [] s t ∧ t.mem = { s.mem with describing := some (slice c.params 0 8) }
      ∧ OnlyParts (.mem :: replyParts) s t) ∧
  (∀ c s, Accepted memDelayMeasureSpec c s → Runs (exec (.memDelayMeasure c) s) fun t =>
    Answered c 0x020A ePending [] s t ∧ t.mem = { s.mem with measuring := some s.thm.dieBand }
      ∧ OnlyParts (.mem :: replyParts) s t)

/-- Memory events (R128, R135 to R138): a load ends RESIDENT or INVALID, the scrub goes on and acts on what it finds, refresh
follows the temperatures, a sub-channel takes the nearest measured delay set, and measurements and descriptions end. -/
def Obligations.MemoryRows : Prop :=
  (∀ t0 (id : BitVec 32) p total cells s, alive s = true → firstLoading s = some p → p.id = id.toNat →
    total = sizeOf (pageRows p) (pagePitch p) → pageCrcCheck p = false →
    Runs (exec (.pageLoadEnd t0 id (.loaded total cells)) s) fun t => ∃ g,
      findPage t p.id = some g ∧ g.state = .resident ∧ g.loaded = total ∧ g.residentAt = max s.now t0
        ∧ Memory.wf g.data ∧ OnlyParts (.mem :: eventParts) s t) ∧
  (∀ t0 (id : BitVec 32) p o s, alive s = true → firstLoading s = some p → p.id = id.toNat →
    (o = .listError ∨ o = .dmaError ∨ o = .uncorrectable) → Runs (exec (.pageLoadEnd t0 id o) s) fun t =>
      pageState t p.id = .invalid ∧ OnlyParts (.mem :: .ins :: .cal :: .free :: eventParts) s t) ∧
  (∀ t0 addr s, alive s = true → addr + 64 < memBytes s → Runs (exec (.patrolScrubRead t0 addr .clean) s) fun t =>
    t.mem = { s.mem with scrubAddr := addr + 64 } ∧ OnlyParts [.mem] s t) ∧
  (∀ t0 addr pos id burst s, alive s = true → pageState s id = .resident →
    Runs (exec (.patrolScrubRead t0 addr (.uncorrectable pos id burst)) s) fun t =>
      pageState t id = .invalid ∧ t.mem.uncorrectable = satInc 32 s.mem.uncorrectable
        ∧ OnlyParts (.mem :: .ins :: .cal :: eventParts) s t) ∧
  (∀ t0 l s, alive s = true → (∃ d ∈ l, d.above85 = true) → Runs (exec (.dramTempRead t0 l) s) fun t =>
    t.mem.refresh2 = true ∧ t.mem.coolSince = none ∧ OnlyParts (.mem :: eventParts) s t) ∧
  (∀ t0 l s, alive s = true → (∀ d ∈ l, d.above85 = false) → Runs (exec (.dramTempRead t0 l) s) fun t =>
    t.mem.refresh2 = s.mem.refresh2 ∧ t.mem.coolSince = some (s.mem.coolSince.getD (max s.now t0))) ∧
  (∀ t0 at_ s, alive s = true → s.mem.coolSince = some at_ → s.mem.refresh2 = true → at_ + tpS ≤ max s.now t0 →
    Runs (exec (.refreshRelax t0) s) fun t => t.mem = { s.mem with refresh2 := false }
      ∧ OnlyParts (.mem :: eventParts) s t) ∧
  (∀ t0 (a b : Fin 2) u s, alive s = true → nearestBand s s.thm.dieBand = some u →
    Runs (exec (.allBankRefresh t0 a b) s) fun t =>
      tget s.thm.dieBand t.mem.bandUsed (a.val, b.val) = u ∧ t.mem.stale = decide (u ≠ s.thm.dieBand)
        ∧ OnlyParts (.mem :: eventParts) s t) ∧
  (∀ t0 eye b s, alive s = true → s.mem.measuring = some b → Runs (exec (.delayMeasureDone t0 true eye) s) fun t =>
    t.mem = { s.mem with measuring := none } ∧ t.nvm.delaySets = s.nvm.delaySets ||| BitVec.ofNat 6 (2 ^ b)
      ∧ OnlyParts (.mem :: .nvm :: eventParts) s t) ∧
  (∀ t0 d s, alive s = true → s.mem.describing = some d → s.nvm.failed0 = false →
    Runs (exec (.dramDescribeDone t0 true true) s) fun t =>
      t.nvm.dram = d ∧ t.mem = { s.mem with describing := none } ∧ cfgGet t .dram = cfgGet s .dram
        ∧ OnlyParts (.mem :: .nvm :: eventParts) s t)

/-- The commands of bar geometry and of the Escapement complete (08, 09). -/
def Obligations.GeometryCommandsComplete : Prop :=
  (∀ c s, Accepted grtBarSetSpec c s → Runs (exec (.grtBarSet c) s) fun t =>
    Answered c 0x0301 eOk [] s t ∧ cfgGet t .grtBar = slice c.params 0 8
      ∧ (∀ m, m < 24 → ((tget {} t.hlk.modules m).state = 0 ↔ u8 c.params 0 ≤ m))
      ∧ OnlyParts [.settings, .held, .hub, .hlk, .thm, .bar0, .out] s t) ∧
  (∀ c s, Accepted grtModuleSetSpec c s → Runs (exec (.grtModuleSet c) s) fun t =>
    Answered c 0x0302 eOk [] s t
      ∧ SettingTaken (.grtModule (Fin.ofNat 24 (u8 c.params 0))) (slice c.params 0 16) s t) ∧
  (∀ c s, Accepted grtStitchSetSpec c s → Runs (exec (.grtStitchSet c) s) fun t =>
    Answered c 0x0303 eOk [] s t
      ∧ SettingTaken (.grtStitch (Fin.ofNat 23 (u8 c.params 0))) (padTo 776 c.params) s t) ∧
  (∀ c s, Accepted grtNozzleStageSpec c s → Runs (exec (.grtNozzleStage c) s) fun t =>
    Answered c 0x0304 eOk [] s t ∧ t.grt = { s.grt with staged := stagedAfter c.params s }
      ∧ OnlyParts (.grt :: replyParts) s t) ∧
  (∀ c s, Accepted grtNozzleCommitSpec c s → Runs (exec (.grtNozzleCommit c) s) fun t =>
    Answered c 0x0305 eOk [] s t ∧ t.grt.staged = [] ∧ t.grt.gen = s.grt.gen + 1
      ∧ t.grt.host = s.grt.staged.foldl (fun h e => tset h e.1 e.2) s.grt.host
      ∧ t.grt.detected = (if u8 c.params 0 = 1 then [] else s.grt.detected)
      ∧ OnlyParts (.grt :: eventParts) s t) ∧
  (∀ c s, Accepted grtNozzleReadSpec c s → Runs (exec (.grtNozzleRead c) s) fun t => ∃ b,
    Answered c 0x0306 eOk b s t ∧ b.length = 16 + u16 c.params 4 ∧ u32 b 0 = u32 c.params 0
      ∧ u16 b 4 = u16 c.params 4 ∧ u32 b 8 = s.grt.gen.toNat ∧ OnlyParts replyParts s t) ∧
  (∀ c s, Accepted escConfigSetSpec c s → Runs (exec (.escConfigSet c) s) fun t =>
    Answered c 0x0401 eOk [] s t ∧ SettingTaken .escConfig (slice c.params 0 8) s t) ∧
  (∀ c s, Accepted escRunaheadSetSpec c s → Runs (exec (.escRunaheadSet c) s) fun t =>
    Answered c 0x0402 eOk [] s t ∧ SettingTaken .runAhead (slice c.params 0 4) s t) ∧
  (∀ c s, Accepted escHeadProfileSetSpec c s → Runs (exec (.escHeadProfileSet c) s) fun t =>
    Answered c 0x0403 eOk [] s t ∧ cfgGet t .profile = slice c.params 0 96 ∧ t.esc = s.esc ∧ t.mem = s.mem) ∧
  (∀ c s, Accepted escRowOffsetSetSpec c s → Runs (exec (.escRowOffsetSet c) s) fun t =>
    Answered c 0x0404 eOk [] s t
      ∧ SettingTaken (.rowOffset (Fin.ofNat 24 (u8 c.params 0))) (slice c.params 4 8) s t) ∧
  (∀ c s, Accepted escTimingReadSpec c s → Runs (exec (.escTimingRead c) s) fun t => ∃ b,
    Answered c 0x0405 eOk b s t ∧ b.length = 40 ∧ u8 b 0 = u8 c.params 0
      ∧ u8 b 1 = tget 0 (mapNow s).band (u8 c.params 0) % 256 ∧ OnlyParts replyParts s t)

/-- The print path (R145, R148, R166, R173): a slot is fixed with the instants that the routine of R163 gives, a line is
fetched and assembled, a slot fires, and the overspeed states end. -/
def Obligations.SlotRows : Prop :=
  (∀ t0 f p s, Calm s → p = preparePrint (advance t0 s) → mayFix p (nextSlot p) = true → webReady p = true →
    nearEnough p (nextSlot p) = true → computeSlot p (nextSlot p) = some f → leadOk p f = true →
    earlyEnough p f = true → spacingFault p f = none → p.esc.state = 2 →
    Runs (exec (.slotFix t0) s) fun t => f ∈ t.esc.slots ∧ f.n = nextSlot p ∧ f.n ≤ t.esc.taken
      ∧ f.n ≤ t.esc.fixedTop) ∧
  (∀ t0 n blank ecc k s, Calm s → fetchNext (preparePrint (advance t0 s)) = some n →
    Runs (exec (.lineFetch t0 n blank ecc k) s) fun t => t.grt.slot = n) ∧
  (∀ t0 f s, Calm s → s.esc.slots.find? (fun f => decide (s.esc.fired < f.n)) = some f → latest f ≤ max s.now t0 →
    Runs (exec (.slotFired t0 f.n) s) fun t => t.esc.fired = f.n) ∧
  (∀ t0 at_ s, Calm s → s.esc.overspeed = 1 → s.esc.lowSince = some at_ → at_ + 10 * tpMs ≤ max s.now t0 →
    rateAtLeast (advance t0 s) 95 = false → Runs (exec (.overspeedWarnClear t0) s) fun t =>
      t.esc = { s.esc with overspeed := 0 } ∧ OnlyParts (.esc :: eventParts) s t) ∧
  (∀ t0 s, Calm s → s.esc.overspeed = 2 → ticketPitch s ≤ s.esc.qualify →
    Runs (exec (.overspeedQualified t0) s) fun t =>
      t.esc.overspeed = (if rateAtLeast (advance t0 s) 95 then 1 else 0) ∧ OnlyParts (.esc :: eventParts) s t)
/-- The commands of the head links complete (10): settings in force, lanes restarted, scanned or tested, a module restored
or read, and a purge begun or ended. -/
def Obligations.HeadLinkCommandsComplete : Prop :=
  (∀ c s, Accepted hlkConfigSetSpec c s → Runs (exec (.hlkConfigSet c) s) fun t =>
    Answered c 0x0501 eOk [] s t ∧ SettingTaken .hlkConfig (slice c.params 0 8) s t) ∧
  (∀ c s, Accepted hlkLaneSetSpec c s → Runs (exec (.hlkLaneSet c) s) fun t =>
    Answered c 0x0502 eOk [] s t
      ∧ cfgGet t (.lane (Fin.ofNat 48 (u8 c.params 0))) = slice c.params 1 7 ++ [0]
      ∧ (laneOf t (u8 c.params 0)).state = (if bit (u8 c.params 1) 0 then 1 else 0)
      ∧ (laneOf t (u8 c.params 0)).scan = none ∧ (laneOf t (u8 c.params 0)).test = none
      ∧ (laneOf t (u8 c.params 0)).preset = wantedPreset t (u8 c.params 0)
      ∧ (∀ k, k ≠ u8 c.params 0 → laneOf t k = laneOf s k) ∧ t.mem = s.mem ∧ t.ldg = s.ldg) ∧
  (∀ c s, Accepted hlkLaneRestoreSpec c s → Runs (exec (.hlkLaneRestore c) s) fun t =>
    Answered c 0x0503 eOk [] s t ∧ (moduleOf t (u8 c.params 0)).state = 2 ∧ (moduleOf t (u8 c.params 0)).timeB = false
      ∧ (∀ k, k ≠ u8 c.params 0 → moduleOf t k = moduleOf s k) ∧ (∀ k, laneOf t k = laneOf s k)
      ∧ OnlyParts (.hlk :: eventParts) s t) ∧
  (∀ c s, Accepted hlkEyeScanSpec c s → Runs (exec (.hlkEyeScan c) s) fun t =>
    Answered c 0x0504 ePending [] s t
      ∧ laneOf t (u8 c.params 0) = { laneOf s (u8 c.params 0) with scan := some (u8 c.params 1, 0) }
      ∧ (∀ k, k ≠ u8 c.params 0 → laneOf t k = laneOf s k) ∧ (∀ m, moduleOf t m = moduleOf s m)
      ∧ OnlyParts (.hlk :: replyParts) s t) ∧
  (∀ c s, Accepted hlkLaneTestSpec c s → Runs (exec (.hlkLaneTest c) s) fun t =>
    Answered c 0x0505 ePending [] s t ∧ (laneOf t (u8 c.params 0)).state = 5
      ∧ (laneOf t (u8 c.params 0)).test
          = some (u8 c.params 1, max s.now c.t + u16 c.params 2 * tpMs, (laneOf s (u8 c.params 0)).lockLoss)
      ∧ (∀ k, k ≠ u8 c.params 0 → laneOf t k = laneOf s k) ∧ t.mem = s.mem ∧ t.ldg = s.ldg) ∧
  (∀ c s, Accepted hlkModuleReadSpec c s → Runs (exec (.hlkModuleRead c) s) fun t => ∃ b,
    Answered c 0x0506 eOk b s t ∧ b.length = 48 ∧ u8 b 0 = u8 c.params 0
      ∧ u8 b 1 = (moduleOf s (u8 c.params 0)).state % 256
      ∧ u8 b 2 = (laneOf s (2 * u8 c.params 0)).state % 256
      ∧ u8 b 3 = (laneOf s (2 * u8 c.params 0 + 1)).state % 256
      ∧ OnlyParts replyParts s t) ∧
  (∀ c s, Accepted hlkPurgeSpec c s → u8 c.params 0 = 0 → Runs (exec (.hlkPurge c) s) fun t => ∃ p,
    Answered c 0x0507 ePending [] s t ∧ t.hlk = { s.hlk with purge := some p } ∧ p.modules = u32 c.params 4
      ∧ p.rate = u32 c.params 8 ∧ p.count = u16 c.params 12 ∧ p.first = s.esc.hwm + 1
      ∧ p.t0 = ceilTo tpUs (max s.now c.t + 200 * tpUs) ∧ t.esc.hwm = s.esc.hwm + u16 c.params 12
      ∧ OnlyParts (.esc :: .hlk :: replyParts) s t) ∧
  (∀ c s, Accepted hlkPurgeSpec c s → u8 c.params 0 = 1 → s.hlk.purge = none → Runs (exec (.hlkPurge c) s) fun t =>
    Answered c 0x0507 eOk [] s t ∧ OnlyParts replyParts s t) ∧
  (∀ c s p, Accepted hlkPurgeSpec c s → u8 c.params 0 = 1 → s.hlk.purge = some p → p.ending = none →
    Runs (exec (.hlkPurge c) s) fun t => ∃ q,
      Answered c 0x0507 ePending [] s t ∧ t.hlk.purge = some q ∧ q.ending = some 2 ∧ q.first = p.first
        ∧ OnlyParts (.hlk :: replyParts) s t)

/-- Lanes (R186, R187, R193, R204, R211, R212): block lock, failure by loss of lock, silence, the module's report or a
missing acknowledgement, the retry, the end of a scan or a test, a TIME block sent and its echo, and the next IDLE block. -/
def Obligations.LaneRows : Prop :=
  (∀ t0 n s, alive s = true → (laneOf s n.val).state = 1 → Runs (exec (.blockLock t0 n) s) fun t =>
    laneOf t n.val = { laneOf s n.val with state := 2 } ∧ (∀ k, k ≠ n.val → laneOf t k = laneOf s k)
      ∧ (∀ m, moduleOf t m = moduleOf s m) ∧ OnlyParts [.hlk] s t) ∧
  (∀ t0 n tc s, Calm s → laneReceives s n.val = true → Runs (exec (.lockLost t0 n tc) s) fun t =>
    (laneOf t n.val).state = 4 ∧ (laneOf t n.val).cause = 1 ∧ (laneOf t n.val).failedAt = max s.now t0
      ∧ (laneOf t n.val).lockLoss = satInc 16 (laneOf s n.val).lockLoss
      ∧ (∀ k, k ≠ n.val → laneOf t k = laneOf s k)) ∧
  (∀ t0 n tc s, alive s = true → laneReceives s n.val = false → Runs (exec (.lockLost t0 n tc) s) fun t =>
    OnlyParts [] s t) ∧
  (∀ t0 n tc s, Calm s → laneReceives s n.val = true → Runs (exec (.laneSilence t0 n tc) s) fun t =>
    (laneOf t n.val).state = 4 ∧ (laneOf t n.val).cause = 2 ∧ (laneOf t n.val).lockLoss = (laneOf s n.val).lockLoss
      ∧ (∀ k, k ≠ n.val → laneOf t k = laneOf s k)) ∧
  (∀ t0 n lostB q h s, Calm s → laneReceives s (2 * (n.val / 2) + b2n lostB) = true →
    Runs (exec (.laneLossReceived t0 n lostB q h) s) fun t =>
      (laneOf t (2 * (n.val / 2) + b2n lostB)).state = 4 ∧ (laneOf t (2 * (n.val / 2) + b2n lostB)).cause = 3
        ∧ (∀ k, k ≠ 2 * (n.val / 2) + b2n lostB → laneOf t k = laneOf s k)) ∧
  (∀ t0 n s r, Calm s → laneReceives s n.val = true →
    s.esc.revokes.find? (fun r => r.lanes.contains n.val && decide (r.detected + 20 * tpUs ≤ max s.now t0)) = some r →
    Runs (exec (.revokeAckTimeout t0 n) s) fun t =>
      (laneOf t n.val).state = 4 ∧ (laneOf t n.val).cause = 5 ∧ (∀ x ∈ t.esc.revokes, n.val ∉ x.lanes)) ∧
  (∀ t0 n s, alive s = true → (laneOf s n.val).state = 4 → (laneOf s n.val).failedAt + tpMs ≤ max s.now t0 →
    Runs (exec (.laneRetry t0 n) s) fun t =>
      (laneOf t n.val).state = 1 ∧ (laneOf t n.val).echoes = 0 ∧ (laneOf t n.val).delays = []
        ∧ (∀ k, k ≠ n.val → laneOf t k = laneOf s k) ∧ OnlyParts [.hlk, .out] s t) ∧
  (∀ t0 n l r u d dwell s, Calm s → (laneOf s n.val).scan = some (dwell, 0) →
    Runs (exec (.eyeScanDone t0 n l r u d) s) fun t =>
      laneOf t n.val = { laneOf s n.val with scan := none } ∧ (∀ k, k ≠ n.val → laneOf t k = laneOf s k)
        ∧ OnlyParts (.hlk :: eventParts) s t) ∧
  (∀ t0 n e b l k loop end_ was s, alive s = true → (laneOf s n.val).state = 5 →
    (laneOf s n.val).test = some (loop, end_, was) → end_ ≤ max s.now t0 →
    Runs (exec (.laneTestDone t0 n e b l k) s) fun t =>
      (laneOf t n.val).state = 1 ∧ (laneOf t n.val).test = none
        ∧ (laneOf t n.val).lockLoss = min 0xFFFF ((laneOf s n.val).lockLoss + l)
        ∧ (∀ k, k ≠ n.val → laneOf t k = laneOf s k) ∧ OnlyParts (.hlk :: eventParts) s t) ∧
  (∀ t0 s, alive s = true → Runs (exec (.timeBlockSend t0) s) fun t =>
    (∀ n, n < 48 → 1 ≤ (laneOf s n).state → (laneOf s n).state ≤ 4 →
        (laneOf t n).tag = (laneOf s n).tag + 1 ∧ (laneOf t n).state = (laneOf s n).state
          ∧ tget 0 (laneOf t n).departures ((laneOf s n).tag + 1) = max s.now t0)
      ∧ (∀ n, (laneOf s n).state = 0 ∨ (laneOf s n).state = 5 → laneOf t n = laneOf s n)
      ∧ OnlyParts [.hlk, .out] s t) ∧
  (∀ t0 n tag t2 fr ta t1 s, Calm s → laneReceives s n.val = true →
    (laneOf s n.val).departures.find? (fun x => decide (x.1 = tag)) = some (tag, t1) →
    Runs (exec (.timeEchoReceived t0 n tag t2 fr ta) s) fun t =>
      (laneOf t n.val).delays
          = ((((max s.now t0 : Nat) : Int) - t1 - ta.toNat) * 1000 / (2 * 65536) :: (laneOf s n.val).delays).take 16
        ∧ (laneOf t n.val).echoes = (laneOf s n.val).echoes + 1
        ∧ (laneOf t n.val).departures = terase (laneOf s n.val).departures tag
        ∧ (∀ k, k ≠ n.val → laneOf t k = laneOf s k)) ∧
  (∀ t0 n s, Calm s → (laneOf s n.val).nextSampler = none → Runs (exec (.nextIdleBlock t0 n) s) fun t =>
    laneOf t n.val = { laneOf s n.val with
      preset := (laneOf s n.val).nextPreset.getD (laneOf s n.val).preset, nextPreset := none }
      ∧ (∀ k, k ≠ n.val → laneOf t k = laneOf s k) ∧ OnlyParts [.hlk] s t) ∧
  (∀ t0 n p q s, Calm s → (laneOf s n.val).nextSampler = some (p, q) → Runs (exec (.nextIdleBlock t0 n) s) fun t =>
    (laneOf t n.val).phase = p ∧ (laneOf t n.val).volt = q ∧ (laneOf t n.val).nextSampler = none
      ∧ (∀ k, k ≠ n.val → laneOf t k = laneOf s k) ∧ OnlyParts [.hlk] s t)

/-- Sending a slot (R197, R198): a slot that is ready and reaches the module in time is sent and held for its receipt, and
one that is not ready is not sent. -/
def Obligations.SlotSendRows : Prop :=
  (∀ t0 m n pay ins gen s, Calm s → s.hlk.purge = none → readySlot (advance t0 s) m.val n = some (pay, ins, gen) →
    moduleUsable s m.val = true → (moduleOf s m.val).sentTop < n → lowerWaits s m.val n = false →
    occupancy (advance t0 s) (moduleOf s m.val) < queueDepth (moduleOf s m.val) →
    inTime s m.val (slotBlocks s m.val 36) (max s.now t0) ins = true →
    Runs (exec (.slotSend t0 m n) s) fun t =>
      (moduleOf t m.val).sentTop = n
        ∧ (moduleOf t m.val).lines = (moduleOf s m.val).lines
            ++ [{ slot := n, payload := pay, instants := ins, gen := gen : SentLine }]
        ∧ t.hlk.sentGen = gen ∧ (∀ k, k ≠ m.val → moduleOf t k = moduleOf s k)
        ∧ (∀ k, laneOf t k = laneOf s k) ∧ OnlyParts [.esc, .hlk, .out] s t) ∧
  (∀ t0 m n s, Calm s → readySlot (advance t0 s) m.val n = none → Runs (exec (.slotSend t0 m n) s) fun t =>
    OnlyParts [] s t) ∧
  (∀ t0 m n s, Calm s → n ≤ (moduleOf s m.val).sentTop → Runs (exec (.slotSend t0 m n) s) fun t => OnlyParts [] s t)

/-- What the head reports of what it fired (R199, R200, R202, R206, R207, R209): receipts that come, differ or are missing,
a pair fired blank, acknowledgements, a module restored, and the end of a purge. -/
def Obligations.HeadReportRows : Prop :=
  (∀ t0 n g bm crc l s, Calm s →
    (moduleOf s (n.val / 2)).lines.find? (fun l => decide ((l.slot / 64) % 2 ^ 16 = (g.toNat : Int))) = some l →
    Runs (exec (.receiptReceived t0 n g bm crc) s) fun t =>
      (moduleOf t (n.val / 2)).lines
          = (moduleOf s (n.val / 2)).lines.filter (fun x => decide (x.slot / 64 ≠ l.slot / 64))
        ∧ (moduleOf t (n.val / 2)).group = ((l.slot / 64) % 2 ^ 16).toNat
        ∧ (moduleOf t (n.val / 2)).mismatched
            = (if expectedReceipt (moduleOf s (n.val / 2)) (l.slot / 64) = (bm.toNat, crc.toNat)
               then (moduleOf s (n.val / 2)).mismatched else satInc 16 (moduleOf s (n.val / 2)).mismatched)) ∧
  (∀ t0 m g s, Calm s → groupLines (moduleOf s m.val) g ≠ [] → groupComplete s (moduleOf s m.val) g = true →
    maxTime ((groupLines (moduleOf s m.val) g).map fun x => maxTime x.instants) + 100 * tpUs ≤ max s.now t0 →
    Runs (exec (.receiptTimeout t0 m g) s) fun t =>
      (moduleOf t m.val).lines = (moduleOf s m.val).lines.filter (fun x => decide (x.slot / 64 ≠ g))
        ∧ (moduleOf t m.val).mismatched = satInc 16 (moduleOf s m.val).mismatched
        ∧ t.hlk.receiptErr = satInc 32 s.hlk.receiptErr) ∧
  (∀ t0 n q cd cause l s, Calm s →
    (moduleOf s (n.val / 2)).lines.find?
      (fun l => decide (l.slot = expandSeq (moduleOf s (n.val / 2)).sentTop q)) = some l →
    (if cd then l.blankCD else l.blankAB) = false →
    Runs (exec (.lineErrReceived t0 n q cd cause) s) fun t =>
      t.hlk.lineErrs = satInc 32 s.hlk.lineErrs
        ∧ (∃ x ∈ (moduleOf t (n.val / 2)).lines, x.slot = l.slot ∧ (if cd then x.blankCD else x.blankAB) = true)) ∧
  (∀ t0 n q cd cause l s, Calm s →
    (moduleOf s (n.val / 2)).lines.find?
      (fun l => decide (l.slot = expandSeq (moduleOf s (n.val / 2)).sentTop q)) = some l →
    (if cd then l.blankCD else l.blankAB) = true →
    Runs (exec (.lineErrReceived t0 n q cd cause) s) fun t => OnlyParts [] s t) ∧
  (∀ t0 n gen a r s, Calm s →
    s.esc.revokes.find? (fun r => r.gen.toNat % 256 = gen.toNat ∧ r.lanes.contains n.val) = some r →
    Runs (exec (.revokeAckReceived t0 n gen a false) s) fun t =>
      (∀ x ∈ t.esc.revokes, x.gen = r.gen → n.val ∉ x.lanes) ∧ OnlyParts (.esc :: .hlk :: eventParts) s t) ∧
  (∀ t0 n gen a f s, Calm s → (moduleOf s (n.val / 2)).failover = some f →
    Runs (exec (.revokeAckReceived t0 n gen a true) s) fun t =>
      moduleOf t (n.val / 2) = { moduleOf s (n.val / 2) with failover := none }
        ∧ (∀ k, k ≠ n.val / 2 → moduleOf t k = moduleOf s k) ∧ OnlyParts (.hlk :: eventParts) s t) ∧
  (∀ t0 m since s, alive s = true → bit (u8 (hlkCfg s) 1) 0 = true → restorable s m.val = true →
    (laneOf s (if (moduleOf s m.val).state = 3 then 2 * m.val + 1 else 2 * m.val)).opSince = some since →
    since + u16 (hlkCfg s) 2 * tpMs ≤ max s.now t0 → Runs (exec (.restoreHoldExpiry t0 m) s) fun t =>
      (moduleOf t m.val).state = 2 ∧ (moduleOf t m.val).timeB = false
        ∧ (∀ k, k ≠ m.val → moduleOf t k = moduleOf s k) ∧ (∀ k, laneOf t k = laneOf s k)
        ∧ OnlyParts (.hlk :: eventParts) s t) ∧
  (∀ t0 p s, alive s = true → s.hlk.purge = some p → p.ending = none → 0 < p.count →
    purgeInstant p (p.first + p.count - 1) ≤ max s.now t0 → p.cut = none →
    (∀ m ∈ purgeModules p, p.first + p.count - 1 ≤ (moduleOf s m).sentTop ∧ (moduleOf s m).lines = []) →
    Runs (exec (.purgeEnd t0) s) fun t =>
      t.hlk.purge = none ∧ (∀ k, laneOf t k = laneOf s k) ∧ OnlyParts (.esc :: .hlk :: eventParts) s t)

/-- IDENT and STATUS (R196, R203, R204, R277): an IDENT that passes every check is kept, one that fails a check has its
module REFUSED, and STATUS gives receive locks and readings. -/
def Obligations.HeadIdentityRows : Prop :=
  (∀ t0 n id s, Calm s → laneReceives s n.val = true → (moduleOf s (n.val / 2)).state ≠ 0 →
    identFault s n.val id = none → Runs (exec (.identReceived t0 n id) s) fun t =>
      (moduleOf t (n.val / 2)).ident = some id ∧ (laneOf t n.val).ident = true
        ∧ (∀ k, k ≠ n.val → laneOf t k = laneOf s k)) ∧
  (∀ t0 n id r s, Calm s → laneReceives s n.val = true → (moduleOf s (n.val / 2)).state ≠ 0 →
    identFault s n.val id = some r → Runs (exec (.identReceived t0 n id) s) fun t =>
      (moduleOf t (n.val / 2)).state = 6 ∧ (∀ k, laneOf t k = laneOf s k)) ∧
  (∀ t0 n st s, Calm s → laneReceives s n.val = true → Runs (exec (.statusReceived t0 n st) s) fun t =>
    (laneOf t (2 * (n.val / 2))).rxLock = st.lockA ∧ (laneOf t (2 * (n.val / 2) + 1)).rxLock = st.lockB
      ∧ (moduleOf t (n.val / 2)).sensor0 = st.sensor0.getD (moduleOf s (n.val / 2)).sensor0
      ∧ (moduleOf t (n.val / 2)).sensor1 = st.sensor1.getD (moduleOf s (n.val / 2)).sensor1
      ∧ (∀ v, st.sensor0 = some v → (sensorOf t (16 + 2 * (n.val / 2))).raw = some v)
      ∧ (∀ v, st.sensor1 = some v → (sensorOf t (17 + 2 * (n.val / 2))).raw = some v)) ∧
  (∀ t0 n st s, Calm s → laneReceives s n.val = false → Runs (exec (.statusReceived t0 n st) s) fun t =>
    OnlyParts [] s t)
/-- The commands of the Thermostat complete (14): the settings with the receive presets they bring, and sensors cleared at
their next reading. -/
def Obligations.ThermalCommandsComplete : Prop :=
  (∀ c s, Accepted thmConfigSetSpec c s → Runs (exec (.thmConfigSet c) s) fun t =>
    Answered c 0x0D01 eOk [] s t ∧ cfgGet t .thermal = slice c.params 0 16
      ∧ (∀ n, n < 48 → (laneOf t n).preset = (laneOf s n).preset
          ∧ (laneOf t n).nextPreset
              = if wantedPreset t n = (laneOf s n).preset then none else some (wantedPreset t n))
      ∧ OnlyParts [.settings, .held, .hub, .hlk, .bar0, .out] s t) ∧
  (∀ c s, Accepted thmSensorClearSpec c s → Runs (exec (.thmSensorClear c) s) fun t =>
    Answered c 0x0D02 eOk [] s t
      ∧ (∀ i, i < 64 → sensorOf t i
          = if (u8 c.params 0 = i ∨ u8 c.params 0 = 0xFF) ∧ (sensorOf s i).failed = true
            then { sensorOf s i with clearing := true } else sensorOf s i)
      ∧ OnlyParts (.thm :: replyParts) s t)

/-- Sensors (R277 to R280, R284, R288): a reading with its offset, the shutdown of the die, the cross-check, and the loss of
core power 2 ms after the trigger. -/
def Obligations.ThermalRows : Prop :=
  (∀ t0 r s, Calm s → r.length = 16 → Runs (exec (.dieSensorReading t0 r) s) fun t =>
    (∀ i, i < 16 → (sensorOf t i).raw = some (r.getD i 0)
        ∧ (sensorOf t i).value = some (tenths (10 * r.getD i 0 + tget 0 s.thm.offsets i))
        ∧ (sensorOf t i).time = max s.now t0
        ∧ (sensorOf t i).failed = ((sensorOf s i).failed && !(sensorOf s i).clearing))
      ∧ (∀ i, 16 ≤ i → sensorOf t i = sensorOf s i) ∧ t.hub.mode = s.hub.mode) ∧
  (∀ t0 r i s, Calm s → r.length = 16 → i < 16 → s.mss.shutdown = none → (sensorOf s i).failed = false →
    1150 ≤ tenths (10 * r.getD i 0 + tget 0 s.thm.offsets i) → Runs (exec (.dieSensorReading t0 r) s) fun t =>
      t.mss.shutdown = some (1, max s.now t0) ∧ bit (safeWord t) 4 = true ∧ t.nvm.shutdownCause = 1
        ∧ t.nvm.shutdownTime = max s.now t0) ∧
  (∀ t0 i c k s, Calm s → i < 64 → available s i = true → (sensorOf s i).failed = false →
    checkSensor (advance t0 s) i = (some c, k) → Runs (exec (.sensorCrossCheck t0) s) fun t =>
      (sensorOf t i).failed = true ∧ t.thm.floor ≠ none ∧ (sensorOf t i).value = (sensorOf s i).value) ∧
  (∀ t0 i k s, Calm s → i < 64 → available s i = true → (sensorOf s i).failed = false →
    checkSensor (advance t0 s) i = (none, k) → Runs (exec (.sensorCrossCheck t0) s) fun t =>
      sensorOf t i = { sensorOf s i with deviations := k }) ∧
  (∀ t0 k t1 s, alive s = true → s.mss.shutdown = some (k, t1) → k = 1 ∨ k = 2 → t1 + 2 * tpMs ≤ max s.now t0 →
    Runs (exec (.corePowerDown t0) s) fun t => t.mss = { s.mss with coreOff := true } ∧ OnlyParts [.mss] s t)
/-- The commands of the ledger complete (11): settings in force, the stream's ring, blocks acknowledged, a ticket read,
tickets voided, and the open block closed. -/
def Obligations.LedgerCommandsComplete : Prop :=
  (∀ c s, Accepted ldgConfigSetSpec c s → Runs (exec (.ldgConfigSet c) s) fun t =>
    Answered c 0x0701 eOk [] s t ∧ SettingTaken .ldgConfig (slice c.params 0 24) s t) ∧
  (∀ c s, Accepted ldgStreamSetSpec c s → bit (u8 c.params 12) 0 = false → Runs (exec (.ldgStreamSet c) s) fun t =>
    Answered c 0x0702 eOk [] s t
      ∧ t.ldg = { s.ldg with stream :=
          { s.ldg.stream with base := u64 c.params 0, size := u32 c.params 8, enabled := false } }
      ∧ OnlyParts (.ldg :: replyParts) s t) ∧
  (∀ c s, Accepted ldgStreamSetSpec c s → bit (u8 c.params 12) 0 = true → s.ldg.stream.enabled = false →
    Runs (exec (.ldgStreamSet c) s) fun t =>
      Answered c 0x0702 eOk [] s t
        ∧ t.ldg.stream = { base := u64 c.params 0, size := u32 c.params 8, enabled := true }
        ∧ t.ldg.blocks = s.ldg.blocks.map (fun b => { b with frame := none }) ∧ t.ldg.tickets = s.ldg.tickets
        ∧ OnlyParts (.ldg :: replyParts) s t) ∧
  (∀ c s, Accepted ldgStreamSetSpec c s → bit (u8 c.params 12) 0 = true → s.ldg.stream.enabled = true →
    Runs (exec (.ldgStreamSet c) s) fun t => Answered c 0x0702 eOk [] s t ∧ OnlyParts replyParts s t) ∧
  (∀ c s, Accepted ldgBlockAckSpec c s → ackedAlready s (u64 c.params 0) = true →
    Runs (exec (.ldgBlockAck c) s) fun t => Answered c 0x0703 eOk [] s t ∧ OnlyParts replyParts s t) ∧
  (∀ c s x, Accepted ldgBlockAckSpec c s → ackedAlready s (u64 c.params 0) = false →
    s.ldg.blocks.find? (fun x => decide (x.number = u64 c.params 0)) = some x →
    Runs (exec (.ldgBlockAck c) s) fun t =>
      Answered c 0x0703 eOk [] s t ∧ t.ldg.acked = some (u64 c.params 0)
        ∧ t.ldg.ackedHash = sha256 (x.header.getD []) ∧ t.ldg.ackedSeq = x.firstSeq + x.records.length
        ∧ t.ldg.blocks = s.ldg.blocks.filter (fun y => decide (u64 c.params 0 < y.number))
        ∧ OnlyParts [.hub, .ldg, .bar0, .out] s t) ∧
  (∀ c s, Accepted ldgTicketQuerySpec c s → Runs (exec (.ldgTicketQuery c) s) fun t => ∃ b,
    Answered c 0x0704 eOk b s t ∧ b.length = 24 ∧ u64 b 0 = u64 c.params 0
      ∧ (∀ k, findTicket s (BitVec.ofNat 64 (u64 c.params 0)) = some k →
          u8 b 8 = k.state % 256 ∧ u64 b 16 = k.seq.getD 0 % 2 ^ 64)
      ∧ OnlyParts replyParts s t) ∧
  (∀ c s, Accepted ldgVoidSpec c s → Runs (exec (.ldgVoid c) s) fun t =>
    Answered c 0x0705 eOk [] s t
      ∧ (∀ r ∈ voidRanges c.params, ∀ id ∈ rangeIds r, ∀ k, findTicket s id = some k → 2 ≤ k.state → k.state ≤ 4 →
          ∃ k', findTicket t id = some k' ∧ k'.state = 5 ∧ k'.reason = 6)
      ∧ OnlyParts (.hub :: .ldg :: eventParts) s t) ∧
  (∀ c s b, Accepted ldgSealSpec c s → s.ldg.current = some b → b.openTime < max s.now c.t →
    Runs (exec (.ldgSeal c) s) fun t =>
      Answered c 0x0706 eOk [] s t ∧ t.ldg.nextBlock = b.number + 1
        ∧ (∃ x ∈ t.ldg.blocks, x.number = b.number ∧ x.cause = 4 ∧ x.closeTime = max s.now c.t)
        ∧ OnlyParts (.ldg :: eventParts) s t) ∧
  (∀ c s, Accepted ldgSealSpec c s → s.ldg.current = none → Runs (exec (.ldgSeal c) s) fun t =>
    Answered c 0x0706 eOk [] s t ∧ OnlyParts replyParts s t)

/-- The ledger's own steps (R218, R225, R228, R229, R231): a ticket closes at its deadline, a block closes after its
second, is signed and is delivered, and a checkpoint is written and committed. -/
def Obligations.LedgerRows : Prop :=
  (∀ t0 id k s, alive s = true → findTicket s id = some k → k.state = 2 → inspection s = true → k.verdict = 0 →
    fireComplete s k = true → k.deadline * 2 ^ 32 ≤ webLine (advance t0 s) (max s.now t0) →
    Runs (exec (.verdictDeadline t0) s) fun t => ∃ k',
      findTicket t id = some k' ∧ k'.state = 4 ∧ bit k'.flags 6 = true) ∧
  (∀ t0 b s, alive s = true → s.ldg.current = some b → b.openTime + tpS ≤ max s.now t0 → b.extended = false →
    ¬(s.hub.mode = .armed ∧ ledgerFree s < 2 ^ 20) → Runs (exec (.ledgerBlockTimeClose t0) s) fun t =>
      t.ldg.nextBlock = b.number + 1
        ∧ (∃ x ∈ t.ldg.blocks, x.number = b.number ∧ x.cause = 1 ∧ x.closeTime = b.openTime + tpS)
        ∧ OnlyParts (.ldg :: eventParts) s t) ∧
  (∀ t0 b s, alive s = true → s.ldg.current = some b → b.openTime + tpS ≤ max s.now t0 → s.hub.mode = .armed →
    ledgerFree s < 2 ^ 20 → Runs (exec (.ledgerBlockTimeClose t0) s) fun t =>
      t.ldg = { s.ldg with current := some { b with extended := true } } ∧ OnlyParts [.ldg] s t) ∧
  (∀ t0 b s, alive s = true → s.ldg.current = some b → max s.now t0 < b.openTime + tpS →
    Runs (exec (.ledgerBlockTimeClose t0) s) fun t => OnlyParts [] s t) ∧
  (∀ t0 b s, alive s = true → hasFeature s 5 = true → s.ldg.blocks.find? (fun b => b.header.isNone) = some b →
    Runs (exec (.blockSigned t0) s) fun t =>
      t.ldg.sealedTop = some b.number ∧ t.ldg.lastSeal = b.closeTime
        ∧ t.ldg.prevHash = sha256 (headerOf true b (advance t0 s))
        ∧ (∃ x ∈ t.ldg.blocks, x.number = b.number ∧ x.header = some (headerOf true b (advance t0 s)))
        ∧ OnlyParts (.ldg :: eventParts) s t) ∧
  (∀ t0 s, alive s = true → hasFeature s 5 = false → Runs (exec (.blockSigned t0) s) fun t => OnlyParts [] s t) ∧
  (∀ t0 b s, alive s = true → s.ldg.blocks.find? (fun b => b.header.isSome && b.frame.isNone) = some b →
    s.ldg.stream.enabled = true → dmaOk s = true → s.ldg.stream.offset + frameBytes b ≤ s.ldg.stream.size →
    streamUsed s + frameBytes b ≤ s.ldg.stream.size → Runs (exec (.ledgerFrameDelivery t0 true) s) fun t =>
      t.out = .ledger s.ldg.stream.offset (frameOf s.ldg.stream.phase (some b)) :: s.out
        ∧ t.ldg.stream = { s.ldg.stream with offset := s.ldg.stream.offset + frameBytes b }
        ∧ OnlyParts [.ldg, .out] s t) ∧
  (∀ t0 b s, alive s = true → s.ldg.blocks.find? (fun b => b.header.isSome && b.frame.isNone) = some b →
    s.ldg.stream.enabled = true → s.ldg.stream.offset + frameBytes b ≤ s.ldg.stream.size →
    streamUsed s + frameBytes b ≤ s.ldg.stream.size → Runs (exec (.ledgerFrameDelivery t0 false) s) fun t =>
      t.ldg = { s.ldg with stream := { s.ldg.stream with enabled := false, error := true } }
        ∧ OnlyParts (.ldg :: eventParts) s t) ∧
  (∀ t0 s, alive s = true → checkpointDue (advance t0 s) = true → checkpointSpaced (advance t0 s) = true →
    s.ldg.writing = none → Runs (exec (.checkpointWrite t0) s) fun t => ∃ k,
      t.ldg = { s.ldg with wanted := false, wroteAt := some (max s.now t0), writing := some k }
        ∧ k.hash = s.ldg.ackedHash ∧ k.block = s.ldg.acked ∧ k.nextSeq = s.ldg.ackedSeq ∧ OnlyParts [.ldg] s t) ∧
  (∀ t0 k s, alive s = true → s.ldg.writing = some k → s.nvm.failed0 = false →
    Runs (exec (.checkpointCommit t0 true true) s) fun t =>
      t.nvm = { s.nvm with checkpoint := some k } ∧ t.ldg.writing = none ∧ t.ldg.ckptCount = s.ldg.ckptCount + 1
        ∧ OnlyParts [.ldg, .nvm] s t) ∧
  (∀ t0 k s, alive s = true → s.ldg.writing = some k → Runs (exec (.checkpointCommit t0 false false) s) fun t =>
    t.nvm.checkpoint = s.nvm.checkpoint ∧ t.ldg.writing = none ∧ t.ldg.wanted = true
      ∧ OnlyParts (.ldg :: .nvm :: eventParts) s t)
/-- The commands of INS complete (12): settings held or in force, pipelines started and stopped, an exposure committed, the
output ring set and acknowledged, a stripe added, and a strip's statistics read. -/
def Obligations.InspectionCommandsComplete : Prop :=
  (∀ c s, Accepted insCameraSetSpec c s → Runs (exec (.insCameraSet c) s) fun t =>
    Answered c 0x0801 eOk [] s t
      ∧ SettingHeld (.camera (Fin.ofNat 4 (u8 c.params 0))) (slice c.params 0 24) s t) ∧
  (∀ c s, Accepted insCameraStartSpec c s → camRun s (u8 c.params 0) = false → Runs (exec (.insCameraStart c) s) fun t =>
    Answered c 0x0802 eOk [] s t ∧ (camOf t (u8 c.params 0)).state = 1 ∧ (camOf t (u8 c.params 0)).nextStrip = 0
      ∧ cfgGet t (.camera (Fin.ofNat 4 (u8 c.params 0))) = cfgLast s (.camera (Fin.ofNat 4 (u8 c.params 0)))
      ∧ (∀ k, k ≠ u8 c.params 0 → camOf t k = camOf s k)
      ∧ OnlyParts (.settings :: .held :: .hub :: .ins :: eventParts) s t) ∧
  (∀ c s, Accepted insCameraStartSpec c s → camRun s (u8 c.params 0) = true → Runs (exec (.insCameraStart c) s) fun t =>
    Answered c 0x0802 eOk [] s t ∧ OnlyParts replyParts s t) ∧
  (∀ c s, Accepted insCameraStopSpec c s → camRun s (u8 c.params 0) = true → Runs (exec (.insCameraStop c) s) fun t =>
    Answered c 0x0803 eOk [] s t ∧ (camOf t (u8 c.params 0)).state = 0
      ∧ (∀ k, k ≠ u8 c.params 0 → camOf t k = camOf s k) ∧ t.cfg = s.cfg ∧ t.mem = s.mem) ∧
  (∀ c s, Accepted insCameraStopSpec c s → camRun s (u8 c.params 0) = false → Runs (exec (.insCameraStop c) s) fun t =>
    Answered c 0x0803 eOk [] s t ∧ OnlyParts replyParts s t) ∧
  (∀ c s, Accepted exposureSetSpec c s → Runs (exec (.exposureSet c) s) fun t => ∃ b e n,
    Answered c 0x0804 eOk b s t ∧ b.length = 8 ∧ e = ((camOf s (u8 c.params 0)).committed + 1) % 256 ∧ u8 b 0 = e
      ∧ u32 b 4 = n % 2 ^ 32
      ∧ camOf t (u8 c.params 0)
          = { camOf s (u8 c.params 0) with committed := e, pending := some (e, n, slice c.params 0 24) }
      ∧ (∀ k, k ≠ u8 c.params 0 → camOf t k = camOf s k) ∧ OnlyParts (.ins :: replyParts) s t) ∧
  (∀ c s, Accepted insCompareSetSpec c s → Runs (exec (.insCompareSet c) s) fun t =>
    Answered c 0x0805 eOk [] s t ∧ SettingTaken .compare (slice c.params 0 32) s t) ∧
  (∀ c s, Accepted insDisplaySetSpec c s → Runs (exec (.insDisplaySet c) s) fun t =>
    Answered c 0x0806 eOk [] s t ∧ SettingTaken .display (slice c.params 0 16) s t) ∧
  (∀ c s, Accepted insOutputSetSpec c s → Runs (exec (.insOutputSet c) s) fun t =>
    Answered c 0x0807 eOk [] s t ∧ (camOf t (u8 c.params 0)).enabled = bit (u8 c.params 1) 0
      ∧ (camOf t (u8 c.params 0)).base = u64 c.params 8 ∧ (camOf t (u8 c.params 0)).size = u32 c.params 4
      ∧ (camOf t (u8 c.params 0)).mask = u8 c.params 1 / 2
      ∧ (bit (u8 c.params 1) 0 = false → (camOf t (u8 c.params 0)).stored = [])
      ∧ (∀ k, k ≠ u8 c.params 0 → camOf t k = camOf s k) ∧ OnlyParts (.ins :: replyParts) s t) ∧
  (∀ c s, Accepted insOutputAckSpec c s → deliveredStrip (camOf s (u8 c.params 0)) (u32 c.params 4) = true →
    Runs (exec (.insOutputAck c) s) fun t =>
      Answered c 0x0808 eOk [] s t ∧ (camOf t (u8 c.params 0)).acked = some (u32 c.params 4)
        ∧ (camOf t (u8 c.params 0)).stored = freeStored (u32 c.params 4) (camOf s (u8 c.params 0)).stored
        ∧ (∀ k, k ≠ u8 c.params 0 → camOf t k = camOf s k) ∧ OnlyParts (.ins :: replyParts) s t) ∧
  (∀ c s, Accepted insOutputAckSpec c s → deliveredStrip (camOf s (u8 c.params 0)) (u32 c.params 4) = false →
    Runs (exec (.insOutputAck c) s) fun t => Answered c 0x0808 eOk [] s t ∧ OnlyParts replyParts s t) ∧
  (∀ c s, Accepted insStripeAddSpec c s → Runs (exec (.insStripeAdd c) s) fun t => ∃ k : Stripe,
    Answered c 0x0809 eOk [] s t ∧ t.ins = { s.ins with stripes := s.ins.stripes ++ [k] }
      ∧ k.page = u32 c.params 0 ∧ k.l0 = u16 c.params 4 ∧ k.lo = u16 c.params 8 ∧ k.hi = u16 c.params 10
      ∧ OnlyParts (.ins :: replyParts) s t) ∧
  (∀ c s st, Accepted insStatsReadSpec c s → statsStrip (camOf s (u8 c.params 0)) (u32 c.params 4) = some st →
    Runs (exec (.insStatsRead c) s) fun t => ∃ b,
      Answered c 0x080A eOk b s t ∧ b.length = 56 ∧ u32 b 0 = st.number % 2 ^ 32 ∧ u8 b 4 = u8 c.params 0
        ∧ u8 b 5 = st.epoch % 256 ∧ OnlyParts (.free :: replyParts) s t)

/-- What the cameras send (R242 to R244, R251, R252, R257): a strip is placed, takes its lines and ends, a pipeline becomes
FAULTY and waits again, a stored strip is delivered, and a ticket that no camera covers is judged. -/
def Obligations.CameraRows : Prop :=
  (∀ t0 c p s, Calm s → (camOf s c.val).state = 1 ∨ (camOf s c.val).state = 2 →
    s.enc.pulses.find? (fun p => decide (p.t < max s.now t0)) = some p →
    Runs (exec (.frameStart t0 c 0) s) fun t => ∃ st,
      (camOf t c.val).state = 2 ∧ (camOf t c.val).current = some st
        ∧ st.start = (p.index : Int) - u8 (camCfg s c.val) 15 ∧ st.number = (camOf s c.val).nextStrip
        ∧ st.length = u16 (camCfg s c.val) 4 ∧ (∀ k, k ≠ c.val → camOf t k = camOf s k)
        ∧ OnlyParts (.ins :: .free :: eventParts) s t) ∧
  (∀ t0 (c ch : Fin 4) s, Calm s → (camOf s c.val).state ≠ 0 → ch ≠ 0 → Runs (exec (.frameStart t0 c ch) s) fun t =>
    (camOf t c.val).lineErr = satInc 32 (camOf s c.val).lineErr ∧ (camOf t c.val).current = (camOf s c.val).current
      ∧ (∀ k, k ≠ c.val → camOf t k = camOf s k) ∧ OnlyParts (.ins :: eventParts) s t) ∧
  (∀ t0 c (p : CsiPacket) st q s, alive s = true → (camOf s c.val).state = 2 → (camOf s c.val).current = some st →
    p.headerOk = true → p.channel = 0 → p.dataType = (if bit (u8 (camCfg s c.val) 1) 0 then 0x2C else 0x2B) →
    p.crcOk = true → p.pixels.length = 4352 → st.count < st.length → pulseAt s (st.start + st.count) = some q →
    Runs (exec (.csiLine t0 c p) s) fun t => ∃ st',
      (camOf t c.val).current = some st' ∧ st'.count = st.count + 1 ∧ st'.flags = st.flags
        ∧ st'.lines = st.lines ++ [{
            index := st.count, raw := if bit (u8 st.setup 1) 1 then p.pixels.reverse else p.pixels
            q := q.pos, t := q.t }]
        ∧ (∀ k, k ≠ c.val → camOf t k = camOf s k) ∧ OnlyParts [.ins] s t) ∧
  (∀ t0 c (p : CsiPacket) s, alive s = true → (camOf s c.val).state ≠ 0 → p.headerOk = false →
    Runs (exec (.csiLine t0 c p) s) fun t =>
      (max s.now t0) ∈ (camOf t c.val).headerErrs ∧ (camOf t c.val).current = (camOf s c.val).current
        ∧ (∀ k, k ≠ c.val → camOf t k = camOf s k) ∧ OnlyParts [.ins] s t) ∧
  (∀ t0 c st s, Calm s → (camOf s c.val).state = 2 → (camOf s c.val).current = some st →
    Runs (exec (.frameEnd t0 c 0) s) fun t => ∃ x,
      (camOf t c.val).current = none ∧ (camOf t c.val).done_.head? = some x ∧ x.number = st.number
        ∧ x.lines = st.lines ∧ (∀ k, k ≠ c.val → camOf t k = camOf s k)) ∧
  (∀ t0 (c cause : Fin 4) s, alive s = true → (camOf s c.val).state = 2 → cause.val ≠ 2 →
    causeHolds (advance t0 s) c.val cause.val = true → Runs (exec (.cameraFault t0 c cause) s) fun t =>
      (camOf t c.val).state = 3 ∧ (camOf t c.val).causes = [cause.val] ∧ (camOf t c.val).current = none
        ∧ (∀ k, k ≠ c.val → camOf t k = camOf s k)) ∧
  (∀ t0 (c : Fin 4) s, alive s = true → (camOf s c.val).state = 2 → causeHolds (advance t0 s) c.val 2 = true →
    Runs (exec (.cameraSilent t0 c) s) fun t =>
      (camOf t c.val).state = 3 ∧ (camOf t c.val).causes = [2] ∧ (∀ k, k ≠ c.val → camOf t k = camOf s k)) ∧
  (∀ t0 (c : Fin 4) s, alive s = true → causeHolds (advance t0 s) c.val 2 = false →
    Runs (exec (.cameraSilent t0 c) s) fun t => OnlyParts [] s t) ∧
  (∀ t0 (c : Fin 4) s, alive s = true → (camOf s c.val).state = 3 →
    (camOf s c.val).causeAt + 100 * tpMs ≤ max s.now t0 → Runs (exec (.cameraRecover t0 c) s) fun t =>
      (camOf t c.val).state = 1 ∧ (camOf t c.val).causes = [] ∧ (camOf t c.val).nextStrip = 0
        ∧ (∀ k, k ≠ c.val → camOf t k = camOf s k) ∧ OnlyParts (.ins :: eventParts) s t) ∧
  (∀ t0 (c : Fin 4) x s, alive s = true → (camOf s c.val).stored.find? (fun x => x.frame.isNone) = some x →
    (camOf s c.val).enabled = true → dmaOk s = true →
    (camOf s c.val).offset + stripFrameSize x ≤ (camOf s c.val).size →
    outputUsed (camOf s c.val) + stripFrameSize x ≤ (camOf s c.val).size →
    Runs (exec (.insFrameDelivery t0 c true) s) fun t =>
      t.out = .frame c.val (camOf s c.val).offset (stripFrame c.val (camOf s c.val).phase (some x)) :: s.out
        ∧ (camOf t c.val).offset = (camOf s c.val).offset + stripFrameSize x
        ∧ (∀ k, k ≠ c.val → camOf t k = camOf s k) ∧ OnlyParts [.ins, .out] s t) ∧
  (∀ t0 k s, alive s = true → s.ins.tickets = [k] → s.ins.stripes = [] → coveringCams s k = [] →
    cameraList.any (fun c => momentCome (advance t0 s) c (ticketLast s k)) = true →
    Runs (exec (.verdictMoment t0) s) fun t =>
      t.ins.tickets = []
        ∧ t.ins.lastVerdict
            = (verdictOf k.compare (if bit (u8 k.compare 0) 0 then tallyCells (advance t0 s) k else {})).1) ∧
  (∀ t0 s, alive s = true → s.ins.tickets = [] → s.ins.stripes = [] → Runs (exec (.verdictMoment t0) s) fun t =>
    OnlyParts [] s t)
/-- The commands of CAL complete (13): the policy in force, runs queued, a reference given to a run in its first pass, a
patch added, a run aborted, a result read, and a correction set to its default. -/
def Obligations.CalibrationCommandsComplete : Prop :=
  (∀ c s, Accepted calPolicySetSpec c s → Runs (exec (.calPolicySet c) s) fun t =>
    Answered c 0x0A01 eOk [] s t ∧ SettingTaken .calPolicy (slice c.params 0 32) s t) ∧
  (∀ c s, Accepted calRunSpec c s → Runs (exec (.calRun c) s) fun t => ∃ b,
    Answered c 0x0A02 ePending b s t ∧ b.length = 4 ∧ u16 b 0 = s.cal.nextId % 2 ^ 16
      ∧ u16 b 2 = (namedTargets s (u8 c.params 0) (u8 c.params 1)).length % 2 ^ 16
      ∧ t.cal.runs.map (fun r => (r.type, r.target))
          = (namedTargets s (u8 c.params 0) (u8 c.params 1)).map (fun x => (u8 c.params 0, x))
      ∧ (∀ r ∈ t.cal.runs, r.state ≤ 3) ∧ t.nvm = s.nvm ∧ t.ldg = s.ldg) ∧
  (∀ c s r, Served calReferenceSpec c s → s.cal.runs = [r] → r.state = 2 → 1 ≤ r.type → r.type ≤ 4 → calRuns s = true →
    Runs (exec (.calReference c) s) fun t => ∃ r',
      Answered c 0x0A03 eOk [] s t ∧ t.cal.runs = [r'] ∧ r'.id = r.id ∧ r'.state = 3 ∧ r'.ref = none
        ∧ (r.type = 1 → r'.pass1.length = 1) ∧ t.nvm = s.nvm ∧ t.ldg = s.ldg) ∧
  (∀ c s, Accepted calPatchAddSpec c s → Runs (exec (.calPatchAdd c) s) fun t =>
    Answered c 0x0A04 eOk [] s t
      ∧ t.cal = { s.cal with patches := s.cal.patches ++
          [{ page := u32 c.params 0, l0 := u16 c.params 4, type := u8 c.params 6, target := u8 c.params 7 }] }
      ∧ OnlyParts (.cal :: replyParts) s t) ∧
  (∀ c s r, Served calAbortSpec c s → s.cal.runs = [r] → r.state ≤ 4 → Runs (exec (.calAbort c) s) fun t =>
    Answered c 0x0A05 eOk [] s t
      ∧ t.cal.runs = [{ r with state := 8, reason := 5, final := s.cal.finals + 1 }]
      ∧ t.cal.failed = satInc 16 s.cal.failed ∧ OnlyParts (.cal :: .axs :: .hlk :: eventParts) s t) ∧
  (∀ c s, Accepted calAbortSpec c s → Runs (exec (.calAbort c) s) fun t =>
    Answered c 0x0A05 eOk [] s t ∧ OnlyParts replyParts s t) ∧
  (∀ c s, Accepted calResultReadSpec c s → Runs (exec (.calResultRead c) s) fun t =>
    Answered c 0x0A06 eOk (zeros 48) s t ∧ OnlyParts replyParts s t) ∧
  (∀ c s r, Served calResultReadSpec c s → s.cal.runs = [r] → 6 ≤ r.state → r.type = u8 c.params 0 →
    r.target = u8 c.params 1 → Runs (exec (.calResultRead c) s) fun t => ∃ b,
      Answered c 0x0A06 eOk b s t ∧ b.length = 48 ∧ u16 b 0 = r.id % 2 ^ 16 ∧ u8 b 2 = r.state % 256
        ∧ u8 b 3 = r.reason % 256 ∧ OnlyParts replyParts s t) ∧
  (∀ c s, Accepted calClearSpec c s → Runs (exec (.calClear c) s) fun t =>
    Answered c 0x0A07 eOk [] s t
      ∧ (u8 c.params 1 ≠ 0xFF → u8 c.params 0 ∈ [1, 2, 4, 5, 9, 10] →
          correctionOf t (u8 c.params 0) (u8 c.params 1) = correctionDefault (u8 c.params 0) (u8 c.params 1))
      ∧ t.mss.journal.length = s.mss.journal.length + (namedTargets s (u8 c.params 0) (u8 c.params 1)).length
      ∧ t.cfg = s.cfg ∧ t.nvm = s.nvm ∧ t.ldg = s.ldg)

/-- Triggers and the timeout of runs, and the end of an AXIS_SCALE position (R266, R268, R308). -/
def Obligations.CalibrationRows : Prop :=
  (∀ t0 e m s, Calm s → bit (u8 (cfgGet s .calPolicy) 0) 2 = true →
    s.hub.mode = .calibrate ∨ s.hub.mode = .armed → e ∈ ([6, 7, 8, 9].flatMap fun k => (calTargets s k).map fun x => (k, x)) →
    dueMoved s e.1 e.2 = some m → Runs (exec (.calTriggerCheck t0) s) fun t =>
      e ∈ t.cal.due ∧ t.cal.runs ≠ [] ∧ t.nvm = s.nvm ∧ t.cfg = s.cfg) ∧
  (∀ t0 s, Calm s → bit (u8 (cfgGet s .calPolicy) 0) 2 = false → s.hub.mode ≠ .armed →
    Runs (exec (.calTriggerCheck t0) s) fun t => OnlyParts [] s t) ∧
  (∀ t0 r s, Steady s → s.cal.runs = [r] → 2 ≤ r.state → r.state ≤ 4 → calRuns s = false →
    r.started + u16 r.policy 2 * tpS ≤ max s.now t0 → Runs (exec (.calRunTimeout t0) s) fun t =>
      t.cal.runs = [{ r with state := 8, reason := 4, final := s.cal.finals + 1 }]
        ∧ t.cal.failed = satInc 16 s.cal.failed ∧ OnlyParts (.cal :: .axs :: .hlk :: eventParts) s t) ∧
  (∀ t0 (a : Fin 2) r s, Steady s → s.cal.runs = [r] → inPass r = true → r.type = 4 → r.target = a.val → r.step = 5 →
    r.numB = 0 → r.ref = none → r.stepAt + 110 * tpMs ≤ max s.now t0 → Runs (exec (.axisScaleSettle t0 a) s) fun t =>
      t.cal.runs = [{ r with sumB := feedbackAt s a.val (max s.now t0), numB := 1, step := 6, seen := true }]
        ∧ OnlyParts (.cal :: eventParts) s t)
/-- The commands of the bar axes complete (15). -/
def Obligations.AxisCommandsComplete : Prop :=
  (∀ c s, Accepted axsConfigSetSpec c s → Runs (exec (.axsConfigSet c) s) fun t =>
    Answered c 0x0B01 eOk [] s t
      ∧ cfgLast t (.axis (Fin.ofNat 2 (u8 c.params 0))) = slice c.params 0 80 ∧ t.cfg = s.cfg
      ∧ (axisOf t (u8 c.params 0)).referenced = false ∧ (∀ k, k ≠ u8 c.params 0 → axisOf t k = axisOf s k)
      ∧ OnlyParts [.held, .axs, .bar0, .out] s t) ∧
  (∀ c s, Accepted axsStartSpec c s → axisRun s (u8 c.params 0) = false → Runs (exec (.axsStart c) s) fun t =>
    Answered c 0x0B02 eOk [] s t ∧ (axisOf t (u8 c.params 0)).state = 1 ∧ (axisOf t (u8 c.params 0)).frames = true
      ∧ (axisOf t (u8 c.params 0)).stallSince = none
      ∧ cfgGet t (.axis (Fin.ofNat 2 (u8 c.params 0))) = cfgLast s (.axis (Fin.ofNat 2 (u8 c.params 0)))
      ∧ (∀ k, k ≠ u8 c.params 0 → axisOf t k = axisOf s k)
      ∧ OnlyParts (.settings :: .held :: .hub :: .axs :: eventParts) s t) ∧
  (∀ c s, Accepted axsStartSpec c s → axisRun s (u8 c.params 0) = true → Runs (exec (.axsStart c) s) fun t =>
    Answered c 0x0B02 eOk [] s t ∧ OnlyParts replyParts s t) ∧
  (∀ c s, Accepted axsStopSpec c s → (axisOf s (u8 c.params 0)).state = 2 ∨ (axisOf s (u8 c.params 0)).state = 3 →
    Runs (exec (.axsStop c) s) fun t =>
      Answered c 0x0B03 eOk [] s t ∧ (axisOf t (u8 c.params 0)).state = 4 ∧ (axisOf t (u8 c.params 0)).goal = 2
        ∧ (axisOf t (u8 c.params 0)).toStopped = (u8 c.params 1 == 0)
        ∧ (∀ k, k ≠ u8 c.params 0 → axisOf t k = axisOf s k) ∧ OnlyParts (.axs :: eventParts) s t) ∧
  (∀ c s, Accepted axsStopSpec c s → (axisOf s (u8 c.params 0)).state = 1 ∨ (axisOf s (u8 c.params 0)).state = 5 →
    Runs (exec (.axsStop c) s) fun t =>
      Answered c 0x0B03 eOk [] s t
        ∧ (axisOf t (u8 c.params 0)).state = (if u8 c.params 1 = 0 then 0 else (axisOf s (u8 c.params 0)).state)
        ∧ (∀ k, k ≠ u8 c.params 0 → axisOf t k = axisOf s k) ∧ OnlyParts (.axs :: eventParts) s t) ∧
  (∀ c s, Accepted axsStopSpec c s → (axisOf s (u8 c.params 0)).state = 0 → Runs (exec (.axsStop c) s) fun t =>
    Answered c 0x0B03 eOk [] s t ∧ OnlyParts replyParts s t) ∧
  (∀ c s, Accepted axsMoveSpec c s → Runs (exec (.axsMove c) s) fun t =>
    Answered c 0x0B04 ePending [] s t ∧ (axisOf t (u8 c.params 0)).state = 2
      ∧ (axisOf t (u8 c.params 0)).owed = true ∧ (axisOf t (u8 c.params 0)).seq = c.seq.toNat
      ∧ (u8 c.params 1 ≠ 2 → (axisOf t (u8 c.params 0)).goal = 0
          ∧ (axisOf t (u8 c.params 0)).target = moveTarget c.params (axisOf s (u8 c.params 0)))
      ∧ (∀ k, k ≠ u8 c.params 0 → axisOf t k = axisOf s k) ∧ OnlyParts (.axs :: eventParts) s t) ∧
  (∀ c s, Accepted axsHomeSpec c s → homeMethod (axisCfg s (u8 c.params 0)) ∈ [1, 2, 3] →
    Runs (exec (.axsHome c) s) fun t =>
      Answered c 0x0B05 ePending [] s t ∧ (axisOf t (u8 c.params 0)).state = 3 ∧ (axisOf t (u8 c.params 0)).homing = 1
        ∧ (axisOf t (u8 c.params 0)).vgoal
            = searchSign (axisCfg s (u8 c.params 0)) * u32 (axisCfg s (u8 c.params 0)) 52
        ∧ (∀ k, k ≠ u8 c.params 0 → axisOf t k = axisOf s k) ∧ OnlyParts (.axs :: eventParts) s t) ∧
  (∀ c s, Accepted axsHomeSpec c s → homeMethod (axisCfg s (u8 c.params 0)) = 4 → Runs (exec (.axsHome c) s) fun t =>
    Answered c 0x0B05 eOk [] s t ∧ (axisOf t (u8 c.params 0)).referenced = true
      ∧ (axisOf t (u8 c.params 0)).fb = s32 (axisCfg s (u8 c.params 0)) 64
      ∧ (axisOf t (u8 c.params 0)).state = (axisOf s (u8 c.params 0)).state
      ∧ (∀ k, k ≠ u8 c.params 0 → axisOf t k = axisOf s k) ∧ OnlyParts (.axs :: eventParts) s t) ∧
  (∀ c s, Accepted axsHomeSpec c s → homeMethod (axisCfg s (u8 c.params 0)) = 0 → Runs (exec (.axsHome c) s) fun t =>
    Answered c 0x0B05 eOk [] s t ∧ (axisOf t (u8 c.params 0)).absolute = true
      ∧ (axisOf t (u8 c.params 0)).offset = s32 (axisCfg s (u8 c.params 0)) 64
      ∧ (axisOf t (u8 c.params 0)).state = (axisOf s (u8 c.params 0)).state
      ∧ (∀ k, k ≠ u8 c.params 0 → axisOf t k = axisOf s k) ∧ OnlyParts (.axs :: eventParts) s t) ∧
  (∀ c s, Accepted axsFaultClearSpec c s → Runs (exec (.axsFaultClear c) s) fun t =>
    Answered c 0x0B06 eOk [] s t ∧ (axisOf t (u8 c.params 0)).state = 1 ∧ (axisOf t (u8 c.params 0)).causes = []
      ∧ (axisOf t (u8 c.params 0)).vel = 0
      ∧ (axisOf t (u8 c.params 0)).pos = (axisOf s (u8 c.params 0)).fb * unit32
      ∧ (∀ k, k ≠ u8 c.params 0 → axisOf t k = axisOf s k) ∧ OnlyParts (.axs :: eventParts) s t)

/-- What the axes tell (R294 to R299, R302 to R307): set-point frames, feedback counts and reads, causes that come and go,
switches, stall, homing's search limit, and the holding current. -/
def Obligations.AxisRows : Prop :=
  (∀ t0 (a : Fin 2) s, Calm s → max s.now t0 % (16 * tpUs) = 0 → (axisOf s a.val).frames = true →
    Runs (exec (.setpointFrame t0) s) fun t =>
      (axisOf t a.val).frameCount = (axisOf s a.val).frameCount + 1 ∧ (axisOf t a.val).frameTime = max s.now t0
        ∧ ((axisOf s a.val).state = 2 ∨ (axisOf s a.val).state = 3 ∨ (axisOf s a.val).state = 4 →
            (axisOf t a.val).pos = (axisOf s a.val).pos + (generate (axisCfg s a.val) (axisOf s a.val)).x)
        ∧ ((axisOf s a.val).state = 0 ∨ (axisOf s a.val).state = 1 ∨ (axisOf s a.val).state = 5 →
            (axisOf t a.val).pos = (axisOf s a.val).pos)
        ∧ (∃ w, Output.setpoint a.val w ∈ sent s t) ∧ OnlyParts (.axs :: eventParts) s t) ∧
  (∀ t0 s, Calm s → max s.now t0 % (16 * tpUs) ≠ 0 → Runs (exec (.setpointFrame t0) s) fun t => OnlyParts [] s t) ∧
  (∀ t0 (a : Fin 2) rev s, alive s = true → ssiFeedback (axisCfg s a.val) = false →
    Runs (exec (.axisFeedbackCount t0 a (.count rev)) s) fun t =>
      (axisOf t a.val).fb = (axisOf s a.val).fb + (if rev != bit (u8 (axisCfg s a.val) 1) 1 then -1 else 1)
        ∧ (axisOf t a.val).pos = (axisOf s a.val).pos ∧ (∀ k, k ≠ a.val → axisOf t k = axisOf s k)
        ∧ OnlyParts [.axs] s t) ∧
  (∀ t0 (a : Fin 2) s, alive s = true → ssiFeedback (axisCfg s a.val) = false →
    Runs (exec (.axisFeedbackCount t0 a .invalid) s) fun t =>
      (axisOf t a.val).quadErr = satInc 16 (axisOf s a.val).quadErr ∧ (axisOf t a.val).fb = (axisOf s a.val).fb
        ∧ (∀ k, k ≠ a.val → axisOf t k = axisOf s k) ∧ OnlyParts (.axs :: eventParts) s t) ∧
  (∀ t0 (a : Fin 2) s, alive s = true → ssiFeedback (axisCfg s a.val) = false → (axisOf s a.val).state = 3 →
    (axisOf s a.val).homing = 2 → Runs (exec (.axisFeedbackCount t0 a .index) s) fun t =>
      (axisOf t a.val).homing = 3 ∧ (axisOf t a.val).referenced = true
        ∧ (axisOf t a.val).bench = (axisOf s a.val).fb ∧ (axisOf t a.val).fb = s32 (axisCfg s a.val) 64
        ∧ (axisOf t a.val).goal = 2 ∧ OnlyParts [.axs] s t) ∧
  (∀ t0 (a : Fin 2) ok l v s, alive s = true → ssiFeedback (axisCfg s a.val) = true →
    ssiResult (axisCfg s a.val) ok l = .ok v → Runs (exec (.ssiReadDone t0 a ok l) s) fun t =>
      (axisOf t a.val).fb = v + (axisOf s a.val).offset ∧ (axisOf t a.val).ssiFails = 0
        ∧ (axisOf t a.val).ssiErr = (axisOf s a.val).ssiErr ∧ (∀ k, k ≠ a.val → axisOf t k = axisOf s k)
        ∧ OnlyParts [.axs] s t) ∧
  (∀ t0 (a : Fin 2) ok l k s, alive s = true → ssiFeedback (axisCfg s a.val) = true →
    ssiResult (axisCfg s a.val) ok l = .error k → Runs (exec (.ssiReadDone t0 a ok l) s) fun t =>
      (axisOf t a.val).ssiErr = satInc 16 (axisOf s a.val).ssiErr ∧ (axisOf t a.val).ssiGood = 0
        ∧ (axisOf t a.val).ssiCause = k ∧ (∀ k, k ≠ a.val → axisOf t k = axisOf s k)
        ∧ OnlyParts (.axs :: eventParts) s t) ∧
  (∀ t0 (a : Fin 2) s, alive s = true → (axisOf s a.val).state ≠ 0 →
    (axisOf s a.val).present.any (fun p => decide (p.1 = 8)) = false → Runs (exec (.feedbackFault t0 a 0) s) fun t =>
      (axisOf t a.val).state = 5 ∧ 8 ∈ (axisOf t a.val).causes ∧ (8, max s.now t0) ∈ (axisOf t a.val).present
        ∧ (∀ k, k ≠ a.val → axisOf t k = axisOf s k) ∧ OnlyParts (.axs :: eventParts) s t) ∧
  (∀ t0 (a : Fin 2) (k : Fin 5) u s, alive s = true → k.val ≤ 1 → (axisOf s a.val).present = [(8 + k.val, u)] →
    u + 10 * tpMs ≤ max s.now t0 → Runs (exec (.feedbackCauseClear t0 a k) s) fun t =>
      (axisOf t a.val).present = [] ∧ (axisOf t a.val).causes = (axisOf s a.val).causes
        ∧ (axisOf t a.val).state = (axisOf s a.val).state ∧ OnlyParts [.axs] s t) ∧
  (∀ t0 (a : Fin 2) (w : Fin 3) high s, alive s = true →
    (switchOf (axisOf s a.val) w.val).level = false → (switchOf (axisOf s a.val) w.val).confirmed = false →
    (high != bit (u8 (axisCfg s a.val) 14) (if w.val = 2 then 3 else 4)) = true →
    Runs (exec (.switchEdge t0 a w high) s) fun t =>
      (switchOf (axisOf t a.val) w.val).level = true
        ∧ (switchOf (axisOf t a.val) w.val).candidate = some (max s.now t0, feedbackAt s a.val (max s.now t0))
        ∧ OnlyParts [.axs] s t) ∧
  (∀ t0 (a : Fin 2) (w : Fin 3) high s, alive s = true →
    (switchOf (axisOf s a.val) w.val).level = true →
    (high != bit (u8 (axisCfg s a.val) 14) (if w.val = 2 then 3 else 4)) = false →
    Runs (exec (.switchEdge t0 a w high) s) fun t =>
      (switchOf (axisOf t a.val) w.val).level = false ∧ (switchOf (axisOf t a.val) w.val).candidate = none
        ∧ (switchOf (axisOf t a.val) w.val).inactive = max s.now t0 ∧ OnlyParts [.axs] s t) ∧
  (∀ t0 (a : Fin 2) (w : Fin 3) u p s, alive s = true → w.val ≠ 2 → (axisOf s a.val).state = 2 →
    (switchOf (axisOf s a.val) w.val).candidate = some (u, p) →
    u + switchFilter (axisCfg s a.val) ≤ max s.now t0 → Runs (exec (.switchConfirm t0 a w) s) fun t =>
      (switchOf (axisOf t a.val) w.val).confirmed = true
        ∧ (axisOf t a.val).state = (if limitRamped (axisCfg s a.val) w.val then 4 else 1)
        ∧ (∀ k, k ≠ a.val → axisOf t k = axisOf s k)) ∧
  (∀ t0 (a : Fin 2) (w : Fin 3) u p s, alive s = true → (axisOf s a.val).state = 1 →
    (switchOf (axisOf s a.val) w.val).candidate = some (u, p) →
    u + switchFilter (axisCfg s a.val) ≤ max s.now t0 → Runs (exec (.switchConfirm t0 a w) s) fun t =>
      (switchOf (axisOf t a.val) w.val).confirmed = true ∧ (switchOf (axisOf t a.val) w.val).candidate = none
        ∧ (axisOf t a.val).state = 1 ∧ OnlyParts [.axs] s t) ∧
  (∀ t0 (a : Fin 2) (w : Fin 3) s, alive s = true → (switchOf (axisOf s a.val) w.val).confirmed = true →
    (switchOf (axisOf s a.val) w.val).level = false →
    (switchOf (axisOf s a.val) w.val).inactive + switchFilter (axisCfg s a.val) ≤ max s.now t0 →
    Runs (exec (.switchRelease t0 a w) s) fun t =>
      (switchOf (axisOf t a.val) w.val).confirmed = false ∧ OnlyParts [.axs] s t) ∧
  (∀ t0 (a : Fin 2) u s, alive s = true → (axisOf s a.val).stallSince = some u → (axisOf s a.val).state ≠ 0 →
    (axisOf s a.val).state ≠ 5 → u + u8 (axisCfg s a.val) 70 * tpMs ≤ max s.now t0 →
    Runs (exec (.axisStall t0 a) s) fun t =>
      (axisOf t a.val).state = 5 ∧ 13 ∈ (axisOf t a.val).causes ∧ (axisOf t a.val).vel = 0
        ∧ (∀ k, k ≠ a.val → axisOf t k = axisOf s k)) ∧
  (∀ t0 (a : Fin 2) s, alive s = true → (axisOf s a.val).state = 3 →
    (axisOf s a.val).homing = 1 ∨ (axisOf s a.val).homing = 2 →
    (u32 (axisCfg s a.val) 60 : Int) * unit32 ≤ (((axisOf s a.val).pos - (axisOf s a.val).searchFrom).natAbs : Int) →
    Runs (exec (.homingSearchLimit t0 a) s) fun t =>
      (axisOf t a.val).homing = 5 ∧ (axisOf t a.val).homeFail = 1 ∧ (axisOf t a.val).referenced = false
        ∧ (axisOf t a.val).goal = 2 ∧ OnlyParts [.axs] s t) ∧
  (∀ t0 (a : Fin 2) s, alive s = true → (axisOf s a.val).vel = 0 →
    (axisOf s a.val).zeroSince + u16 (axisCfg s a.val) 72 * tpMs ≤ max s.now t0 →
    Runs (exec (.holdDelayExpiry t0 a) s) fun t =>
      axisOf t a.val = { axisOf s a.val with holdNow := true } ∧ OnlyParts [.axs] s t)
/-- The commands of VIEW complete (16). -/
def Obligations.ViewCommandsComplete : Prop :=
  (∀ c s, Accepted viewModeSetSpec c s → Runs (exec (.viewModeSet c) s) fun t =>
    Answered c 0x0901 eOk [] s t ∧ SettingHeld .view (slice c.params 0 16) s t) ∧
  (∀ c s, Accepted viewStartSpec c s → viewRun s = false → Runs (exec (.viewStart c) s) fun t =>
    Answered c 0x0902 ePending [] s t ∧ t.view.state = 1 ∧ t.view.startedAt = max s.now c.t
      ∧ cfgGet t .view = cfgLast s .view ∧ OnlyParts (.settings :: .held :: .hub :: .view :: eventParts) s t) ∧
  (∀ c s, Accepted viewStartSpec c s → viewRun s = true → Runs (exec (.viewStart c) s) fun t =>
    Answered c 0x0902 eOk [] s t ∧ OnlyParts replyParts s t) ∧
  (∀ c s, Accepted viewStopSpec c s → s.view.state = 0 → Runs (exec (.viewStop c) s) fun t =>
    Answered c 0x0903 eOk [] s t ∧ OnlyParts replyParts s t) ∧
  (∀ c s, Accepted viewStopSpec c s → s.view.state = 1 → Runs (exec (.viewStop c) s) fun t =>
    Answered c 0x0903 ePending [] s t ∧ t.view.state = 0 ∧ t.view.frame = s.view.frame
      ∧ OnlyParts (.view :: eventParts) s t) ∧
  (∀ c s, Accepted viewStopSpec c s → s.view.state = 2 → Runs (exec (.viewStop c) s) fun t =>
    Answered c 0x0903 ePending [] s t ∧ t.view = { s.view with state := 3 }
      ∧ OnlyParts (.view :: eventParts) s t) ∧
  (∀ c s, Accepted viewFrameSetSpec c s → Runs (exec (.viewFrameSet c) s) fun t => ∃ b f first,
    Answered c 0x0904 eOk b s t ∧ b.length = 8 ∧ u64 b 0 = f % 2 ^ 64 ∧ (f, first) = commitTarget (advance c.t s)
      ∧ t.view = (if first then { s.view with shadow := some (slice c.params 0 20, f) }
          else { s.view with late := some (slice c.params 0 20, f) })
      ∧ OnlyParts (.view :: replyParts) s t)

/-- The display output's own steps (R317 to R319, R323 to R325). -/
def Obligations.ViewRows : Prop :=
  (∀ t0 s, alive s = true → s.view.state = 1 → max s.now t0 ≤ s.view.startedAt + 5 * tpMs →
    Runs (exec (.pixelClockLock t0) s) fun t =>
      t.view.state = 2 ∧ t.view.frame = 0 ∧ t.view.line = 0 ∧ t.view.latchTime = max s.now t0
        ∧ t.view.shadow = s.view.late ∧ t.view.late = none ∧ OnlyParts (.view :: eventParts) s t) ∧
  (∀ t0 s, alive s = true → s.view.state = 1 → s.view.startedAt + 5 * tpMs ≤ max s.now t0 →
    Runs (exec (.pixelClockTimeout t0) s) fun t => t.view.state = 0 ∧ OnlyParts (.view :: eventParts) s t) ∧
  (∀ t0 p q s, alive s = true → s.view.state = 2 → Runs (exec (.latchPoint t0 p q) s) fun t =>
    t.view.state = 2 ∧ t.view.frame = s.view.frame + 1 ∧ t.view.line = 0 ∧ t.view.latchTime = max s.now t0
      ∧ t.view.shadow = s.view.late ∧ t.view.late = none ∧ OnlyParts (.view :: eventParts) s t) ∧
  (∀ t0 p q s, alive s = true → s.view.state = 3 → Runs (exec (.latchPoint t0 p q) s) fun t =>
    t.view.state = 0 ∧ t.view.frame = s.view.frame ∧ OnlyParts (.view :: eventParts) s t) ∧
  (∀ t0 p q s, alive s = true → s.view.state ≠ 2 → s.view.state ≠ 3 → Runs (exec (.latchPoint t0 p q) s) fun t =>
    OnlyParts [] s t) ∧
  (∀ t0 n d l s, alive s = true → s.view.state = 2 ∨ s.view.state = 3 → n = s.view.line + 1 → n < (viewMode s).vTotal →
    Runs (exec (.viewLineStart t0 n d l) s) fun t =>
      t.view.line = n ∧ t.view.buffered = min l.toNat 32768 ∧ t.view.frame = s.view.frame
        ∧ t.view.shadow = s.view.shadow ∧ OnlyParts (.view :: .mem :: eventParts) s t) ∧
  (∀ t0 n d l s, alive s = true → n ≠ s.view.line + 1 → Runs (exec (.viewLineStart t0 n d l) s) fun t =>
    OnlyParts [] s t)
/-- No command of the table stops the block: every step at a command answers a next state, whose queue is the rest, in
order (log entry 1, the model's choice of the queue). -/
def Obligations.EveryCommandCompletes : Prop :=
  ∀ (c : Instr) (rest : List Instr) (s : State), s.pending = c :: rest → ∃ t, step s = .next t ∧ t.pending = rest

/-- A block in reset or without power stays so through every step, as long as no reset, no release and no restart of the
core waits (R89, R344, R355). -/
def Obligations.DormantStaysDormant : Prop :=
  ∀ s t, Dormant s → step s = .next t → Dormant t

/-- In reset or without power nothing changes but device time, and nothing leaves a port (R89, R355). -/
def Obligations.DormantIsSilent : Prop :=
  ∀ s t, Dormant s → step s = .next t → SameButTime t s ∧ Silent s t

/-- Right after reset every page and the display surface are in canonical form, every setting is as long as its default, and the core runs. -/
def Obligations.ResetInvariants : Prop :=
  PagesWf State.reset ∧ Memory.wf State.reset.ins.surface ∧ alive State.reset = true
    ∧ CfgSized State.reset

/-- Loading, printing and discarding keep every page's bytes in canonical form (R126; log entry 31, the model's own
form). -/
def Obligations.PagesKeepCanonicalForm : Prop :=
  (∀ t0 id o s t, Calm s → PagesWf s → exec (.pageLoadEnd t0 id o) s = .next t → PagesWf t) ∧
  (∀ t0 n b e k s t, Calm s → PagesWf s → exec (.lineFetch t0 n b e k) s = .next t → PagesWf t) ∧
  (∀ c s t, Accepted pageLoadSpec c s → PagesWf s → exec (.pageLoad c) s = .next t → PagesWf t) ∧
  (∀ c s t, Accepted pageDiscardSpec c s → PagesWf s → exec (.pageDiscard c) s = .next t → PagesWf t)

/-- The line code of the head links is lossless (R184, R185): descrambling and the removal of stuff bits give back what was
sent, with no stuff violation, and no more than 48 equal bits follow one another. -/
def Obligations.LineCodeRoundTrip : Prop :=
  (∀ r bs, descramble r (scramble r bs).1 = (bs, (scramble r bs).2)) ∧
  (∀ last run bs, run ≤ 48 → unstuff last run (stuff last run bs) = (bs, 0)) ∧
  (∀ last run bs v, 1 ≤ run → run ≤ 48 → ¬ List.replicate 49 v <:+: List.replicate run last ++ stuff last run bs)

/-- The descrambler finds its place by itself (R184): whatever its register holds, every bit after the first 31 comes out
right. -/
def Obligations.DescramblerSynchronises : Prop :=
  ∀ r r' bs, (descramble r' (scramble r bs).1).1.drop 31 = bs.drop 31

/-- The fields of FIRE, CTRL and TIME blocks lie at the bits that R190, R193 and R195 give them. -/
def Obligations.BlockFields : Prop :=
  (∀ data cd resend gen n first second,
    (fireBlock data cd resend gen n first second).extractLsb' 120 8 = 2
      ∧ (fireBlock data cd resend gen n first second).getLsbD 112 = data
      ∧ (fireBlock data cd resend gen n first second).getLsbD 113 = cd
      ∧ (fireBlock data cd resend gen n first second).getLsbD 114 = resend
      ∧ (fireBlock data cd resend gen n first second).extractLsb' 104 8 = gen.setWidth 8
      ∧ ((fireBlock data cd resend gen n first second).extractLsb' 80 24).toNat = seq24 n
      ∧ ((fireBlock data cd resend gen n first second).extractLsb' 40 40).toNat = first % 2 ^ 40
      ∧ ((fireBlock data cd resend gen n first second).extractLsb' 0 40).toNat = second % 2 ^ 40) ∧
  (∀ gen n discard,
    (revokeBlock gen n discard).extractLsb' 120 8 = 3 ∧ (revokeBlock gen n discard).extractLsb' 112 8 = 1
      ∧ (revokeBlock gen n discard).extractLsb' 104 8 = gen.setWidth 8
      ∧ ((revokeBlock gen n discard).extractLsb' 80 24).toNat = seq24 n
      ∧ (revokeBlock gen n discard).getLsbD 72 = discard) ∧
  (∀ tag t1 fraction rate d,
    (timeBlock tag t1 fraction rate d).extractLsb' 120 8 = 1 ∧ (timeBlock tag t1 fraction rate d).extractLsb' 112 8 = tag
      ∧ ((timeBlock tag t1 fraction rate d).extractLsb' 72 40).toNat = t1 % 2 ^ 40
      ∧ ((timeBlock tag t1 fraction rate d).extractLsb' 59 13).toNat = fraction % 2 ^ 13)

/-- R61: which severities the on-chip buffer discards at which occupancy, and that what it takes goes in last. -/
def Obligations.EventBufferThresholds : Prop :=
  (∀ e s, 512 ≤ s.bar0.buffer.length → (bufferEvent e s).bar0.buffer = s.bar0.buffer) ∧
  (∀ e s, 448 ≤ s.bar0.buffer.length → severity e ≤ 2 → (bufferEvent e s).bar0.buffer = s.bar0.buffer) ∧
  (∀ e s, 384 ≤ s.bar0.buffer.length → severity e ≤ 1 → (bufferEvent e s).bar0.buffer = s.bar0.buffer) ∧
  (∀ e s, s.bar0.buffer.length < 384 → (bufferEvent e s).bar0.buffer = s.bar0.buffer ++ [e]) ∧
  (∀ e s, s.bar0.buffer.length < 448 → severity e = 2 → (bufferEvent e s).bar0.buffer = s.bar0.buffer ++ [e]) ∧
  (∀ e s, s.bar0.buffer.length < 512 → severity e = 3 → (bufferEvent e s).bar0.buffer = s.bar0.buffer ++ [e]) ∧
  (∀ e s, 512 ≤ s.bar0.buffer.length → severity e = 3 → (bufferEvent e s).bar0.lostFault = s.bar0.lostFault + 1)

/-- While DMA cannot reach the host (R40), no event, no reply and no message leaves: an event goes to the buffer's rules, a
reply waits on chip, and a message sets its pending bit. -/
def Obligations.NothingLeavesWithoutDma : Prop :=
  (∀ e s, dmaOk s = false → (deliverEvent e s).out = s.out) ∧
  (∀ r s, dmaOk s = false → (reply r s).out = s.out ∧ (reply r s).bar0.heldReplies = s.bar0.heldReplies ++ [r]) ∧
  (∀ n s, dmaOk s = false → (sendMessage n s).out = s.out) ∧
  (∀ n s, dmaOk s = false → bit (intMapOf s n) 8 = true →
    bits (intMapOf s n) 5 0 ∈ (sendMessage n s).bar0.pba)
/-- R191: head time is device time in units of 125 ps, modulo 2^40; it wraps every 137.438953472 s. Every boundary and row
instant that ESC computes is a whole number of 125 ps, so its head time is that number modulo 2^40. -/
def Obligations.HeadTime : Prop :=
  (∀ sec ns frac : Nat, frac < 65536 →
    headTime ((sec * 10 ^ 9 + ns) * 65536 + frac) = ((sec * 10 ^ 9 + ns) * 8 + frac / 8192) % 2 ^ 40) ∧
  (∀ t : Time, headTime (t + 137438953472 * 65536) = headTime t) ∧
  (∀ (s : State) (n : Int), (boundaryInstant s n).all fun b => decide (b % 8192 = 0)) ∧
  (∀ (s : State) (n : Int) (m r : Nat), (rowInstant s n m r).all fun b => decide (b % 8192 = 0)) ∧
  (∀ k : Nat, headTime (k * 8192) = k % 2 ^ 40)

/-- R322: red, green and blue by the full-range inverse, each the nearest value, halves up, held within 0 to 255. The
arguments of the conversion are in millionths. -/
def Obligations.ColourConversion : Prop :=
  let nearest (x : Int) (c : Nat) : Prop :=
    c ≤ 255 ∧ (c ≠ 0 → 1000000 * (c : Int) - 500000 ≤ x) ∧ (c ≠ 255 → x < 1000000 * (c : Int) + 500000)
  ∀ y cb cr : Nat, y ≤ 255 → cb ≤ 255 → cr ≤ 255 →
    nearest (1000000 * (y : Int) + 1402000 * ((cr : Int) - 128)) (toRgb y cb cr).1
      ∧ nearest (1000000 * (y : Int) - 344136 * ((cb : Int) - 128) - 714136 * ((cr : Int) - 128)) (toRgb y cb cr).2.1
      ∧ nearest (1000000 * (y : Int) + 1772000 * ((cb : Int) - 128)) (toRgb y cb cr).2.2

/-- R124, R159, R180, R213, R262: the configuration records of ENC, GRT, ESC, HLK and INS, their lengths and what they hold
in order. -/
def Obligations.ConfigurationRecords : Prop :=
  ∀ s, CfgSized s →
    ((blockRecord s 0x03).length = 92 ∧ blockRecord s 0x03
      = cfgGet s (.encInput 0) ++ cfgGet s (.encInput 1) ++ cfgGet s .regulator ++ cfgGet s .pulse) ∧
    ((blockRecord s 0x05).length = 18240 ∧ blockRecord s 0x05
      = cfgGet s .grtBar ++ (List.finRange 24).flatMap (fun m => cfgGet s (.grtModule m))
        ++ (List.finRange 23).flatMap (fun j => cfgGet s (.grtStitch j))) ∧
    ((blockRecord s 0x06).length = 300 ∧ blockRecord s 0x06
      = cfgGet s .escConfig ++ (if hasFeature s 3 then cfgGet s .runAhead else [16, 0, 0, 0]) ++ cfgGet s .profile
        ++ (List.finRange 24).flatMap (fun m => cfgGet s (.rowOffset m))) ∧
    ((blockRecord s 0x07).length = 392 ∧ blockRecord s 0x07
      = cfgGet s .hlkConfig ++ (List.finRange 48).flatMap (fun n => cfgGet s (.lane n))) ∧
    ((blockRecord s 0x0A).length = 144 ∧ blockRecord s 0x0A
      = (List.finRange 4).flatMap (fun c => cfgGet s (.camera c)) ++ cfgGet s .compare ++ cfgGet s .display)
end

