-- ==== Sys2Proof/Laws/Memory.lean ====
section
/-! SUPPORT. The byte store of a page: every write keeps the canonical form, a read after a write of the same offset gives
the byte written, and every other offset reads as before. -/
namespace Sys2Proof.Machine.Laws
open Sys2Proof.Machine

theorem memRead_of_below (m : List Host.Cell) (a : Nat) (h : ∀ c ∈ m, a < c.1) : memRead m a = 0 := by
  induction m with
  | nil => rfl
  | cons c r ih =>
    have hc : a < c.1 := h c (List.mem_cons_self ..)
    have hne : ¬ c.1 = a := by omega
    simp only [memRead, if_neg hne]
    exact ih fun x hx => h x (List.mem_cons_of_mem _ hx)

/-- Every cell of a written store is the written one or one that stood there. -/
theorem mem_memWrite {a : Nat} {v : Byte} {m : List Host.Cell} {c : Host.Cell} (h : c ∈ memWrite a v m) :
    (c = (a, v) ∧ v ≠ 0) ∨ c ∈ m := by
  induction m with
  | nil => by_cases hv : v = 0 <;> simp_all [memWrite]
  | cons d r ih =>
    obtain ⟨b, w⟩ := d
    simp only [memWrite] at h
    by_cases h1 : a < b
    · by_cases hv : v = 0 <;> simp_all
    · by_cases h2 : a = b
      · by_cases hv : v = 0 <;> simp_all
        rcases h with h | h <;> simp_all
      · simp only [if_neg h1, if_neg h2, List.mem_cons] at h
        rcases h with h | h
        · exact .inr (by simp [h])
        · rcases ih h with h | h
          · exact .inl h
          · exact .inr (List.mem_cons_of_mem _ h)

theorem memWrite_rising (a : Nat) (v : Byte) (m : List Host.Cell) (hp : m.Pairwise (fun a b => a.1 < b.1)) :
    (memWrite a v m).Pairwise (fun a b => a.1 < b.1) := by
  induction m with
  | nil =>
    unfold memWrite
    split
    · exact List.Pairwise.nil
    · exact List.pairwise_singleton _ _
  | cons d r ih =>
    obtain ⟨b, w⟩ := d
    have hr := (List.pairwise_cons.1 hp).1
    have ht := (List.pairwise_cons.1 hp).2
    unfold memWrite
    split
    · next h1 =>
      split
      · exact hp
      · refine List.pairwise_cons.2 ⟨fun c hc => ?_, hp⟩
        rcases List.mem_cons.1 hc with rfl | hc
        · exact h1
        · exact Nat.lt_trans h1 (hr c hc)
    · next h1 =>
      split
      · next h2 =>
        subst h2
        split
        · exact ht
        · exact List.pairwise_cons.2 ⟨hr, ht⟩
      · next h2 =>
        refine List.pairwise_cons.2 ⟨fun c hc => ?_, ih ht⟩
        rcases mem_memWrite hc with ⟨rfl, _⟩ | hc
        · show b < a
          omega
        · exact hr c hc

theorem memWrite_wf (a : Nat) (v : Byte) (m : List Host.Cell) (h : Memory.wf m) : Memory.wf (memWrite a v m) := by
  refine ⟨memWrite_rising a v m h.1, fun c hc => ?_⟩
  rcases mem_memWrite hc with ⟨rfl, hv⟩ | hc
  · exact hv
  · exact h.2 c hc

theorem memOf_wf (cells : List (Nat × Byte)) : Memory.wf (memOf cells) := by
  have go : ∀ (l : List (Nat × Byte)) (m : List Host.Cell), Memory.wf m →
      Memory.wf (l.foldl (fun m c => memWrite c.1 c.2 m) m) := by
    intro l
    induction l with
    | nil => exact fun m h => h
    | cons c r ih => exact fun m h => ih _ (memWrite_wf c.1 c.2 m h)
  exact go cells [] ⟨List.Pairwise.nil, by simp⟩

theorem memRead_memWrite (a b : Nat) (v : Byte) (m : List Host.Cell) (h : Memory.wf m) :
    memRead (memWrite a v m) b = if a = b then v else memRead m b := by
  obtain ⟨hp, hz⟩ := h
  clear hz
  induction m with
  | nil =>
    unfold memWrite
    split
    · next hv => split <;> simp [memRead, hv]
    · rfl
  | cons d r ih =>
    obtain ⟨k, w⟩ := d
    have hr := (List.pairwise_cons.1 hp).1
    have ih := ih (List.pairwise_cons.1 hp).2
    unfold memWrite
    split
    · next h1 =>
      split
      · next hv =>
        split
        · next hab =>
          subst hab
          rw [hv]
          apply memRead_of_below
          intro c hc
          rcases List.mem_cons.1 hc with rfl | hc
          · exact h1
          · exact Nat.lt_trans h1 (hr c hc)
        · rfl
      · rfl
    · next h1 =>
      split
      · next h2 =>
        subst h2
        split
        · next hv =>
          split
          · next hab =>
            subst hab
            rw [hv]
            exact memRead_of_below r a hr
          · next hab => simp only [memRead, if_neg hab]
        · simp only [memRead]
          split <;> rfl
      · next h2 =>
        simp only [memRead, ih]
        by_cases hk : k = b
        · subst hk
          simp only [if_pos, if_neg h2]
        · simp only [if_neg hk]

/-- A read after a write of the same offset gives the byte written. -/
theorem memRead_memWrite_same (a : Nat) (v : Byte) (m : List Host.Cell) (h : Memory.wf m) :
    memRead (memWrite a v m) a = v := by
  rw [memRead_memWrite a a v m h, if_pos rfl]

/-- A write leaves every other offset alone. -/
theorem memRead_memWrite_other (a b : Nat) (v : Byte) (m : List Host.Cell) (h : Memory.wf m) (hab : a ≠ b) :
    memRead (memWrite a v m) b = memRead m b := by
  rw [memRead_memWrite a b v m h, if_neg hab]

end Sys2Proof.Machine.Laws
end

