-- ==== Sys2Proof/Laws/State.lean ====
section
/-! SUPPORT. What each elementary update of the state leaves and what it changes, one lemma for each field, so that no
later proof unfolds a record update. -/
namespace Sys2Proof.Machine.Laws
open Sys2Proof.Machine

/-! advance -/

@[simp] theorem advance_now (t : Time) (s : State) : (advance t s).now = max s.now t := rfl
@[simp] theorem advance_hub (t : Time) (s : State) : (advance t s).hub = s.hub := rfl
@[simp] theorem advance_bar0 (t : Time) (s : State) : (advance t s).bar0 = s.bar0 := rfl
@[simp] theorem advance_link (t : Time) (s : State) : (advance t s).link = s.link := rfl
@[simp] theorem advance_rng (t : Time) (s : State) : (advance t s).rng = s.rng := rfl
@[simp] theorem advance_mer (t : Time) (s : State) : (advance t s).mer = s.mer := rfl
@[simp] theorem advance_enc (t : Time) (s : State) : (advance t s).enc = s.enc := rfl
@[simp] theorem advance_mem (t : Time) (s : State) : (advance t s).mem = s.mem := rfl
@[simp] theorem advance_grt (t : Time) (s : State) : (advance t s).grt = s.grt := rfl
@[simp] theorem advance_esc (t : Time) (s : State) : (advance t s).esc = s.esc := rfl
@[simp] theorem advance_hlk (t : Time) (s : State) : (advance t s).hlk = s.hlk := rfl
@[simp] theorem advance_ldg (t : Time) (s : State) : (advance t s).ldg = s.ldg := rfl
@[simp] theorem advance_ins (t : Time) (s : State) : (advance t s).ins = s.ins := rfl
@[simp] theorem advance_cal (t : Time) (s : State) : (advance t s).cal = s.cal := rfl
@[simp] theorem advance_axs (t : Time) (s : State) : (advance t s).axs = s.axs := rfl
@[simp] theorem advance_view (t : Time) (s : State) : (advance t s).view = s.view := rfl
@[simp] theorem advance_thm (t : Time) (s : State) : (advance t s).thm = s.thm := rfl
@[simp] theorem advance_mss (t : Time) (s : State) : (advance t s).mss = s.mss := rfl
@[simp] theorem advance_nvm (t : Time) (s : State) : (advance t s).nvm = s.nvm := rfl
@[simp] theorem advance_cfg (t : Time) (s : State) : (advance t s).cfg = s.cfg := rfl
@[simp] theorem advance_held (t : Time) (s : State) : (advance t s).held = s.held := rfl
@[simp] theorem advance_freeCtr (t : Time) (s : State) : (advance t s).freeCtr = s.freeCtr := rfl
@[simp] theorem advance_out (t : Time) (s : State) : (advance t s).out = s.out := rfl
@[simp] theorem advance_pending (t : Time) (s : State) : (advance t s).pending = s.pending := rfl

/-! send -/

@[simp] theorem send_now (o : Output) (s : State) : (send o s).now = s.now := rfl
@[simp] theorem send_hub (o : Output) (s : State) : (send o s).hub = s.hub := rfl
@[simp] theorem send_bar0 (o : Output) (s : State) : (send o s).bar0 = s.bar0 := rfl
@[simp] theorem send_link (o : Output) (s : State) : (send o s).link = s.link := rfl
@[simp] theorem send_rng (o : Output) (s : State) : (send o s).rng = s.rng := rfl
@[simp] theorem send_mer (o : Output) (s : State) : (send o s).mer = s.mer := rfl
@[simp] theorem send_enc (o : Output) (s : State) : (send o s).enc = s.enc := rfl
@[simp] theorem send_mem (o : Output) (s : State) : (send o s).mem = s.mem := rfl
@[simp] theorem send_grt (o : Output) (s : State) : (send o s).grt = s.grt := rfl
@[simp] theorem send_esc (o : Output) (s : State) : (send o s).esc = s.esc := rfl
@[simp] theorem send_hlk (o : Output) (s : State) : (send o s).hlk = s.hlk := rfl
@[simp] theorem send_ldg (o : Output) (s : State) : (send o s).ldg = s.ldg := rfl
@[simp] theorem send_ins (o : Output) (s : State) : (send o s).ins = s.ins := rfl
@[simp] theorem send_cal (o : Output) (s : State) : (send o s).cal = s.cal := rfl
@[simp] theorem send_axs (o : Output) (s : State) : (send o s).axs = s.axs := rfl
@[simp] theorem send_view (o : Output) (s : State) : (send o s).view = s.view := rfl
@[simp] theorem send_thm (o : Output) (s : State) : (send o s).thm = s.thm := rfl
@[simp] theorem send_mss (o : Output) (s : State) : (send o s).mss = s.mss := rfl
@[simp] theorem send_nvm (o : Output) (s : State) : (send o s).nvm = s.nvm := rfl
@[simp] theorem send_cfg (o : Output) (s : State) : (send o s).cfg = s.cfg := rfl
@[simp] theorem send_held (o : Output) (s : State) : (send o s).held = s.held := rfl
@[simp] theorem send_freeCtr (o : Output) (s : State) : (send o s).freeCtr = s.freeCtr := rfl
@[simp] theorem send_out (o : Output) (s : State) : (send o s).out = o :: s.out := rfl
@[simp] theorem send_pending (o : Output) (s : State) : (send o s).pending = s.pending := rfl

/-! drawNat -/

@[simp] theorem drawNat_now (k : Nat) (s : State) : (drawNat k s).2.now = s.now := rfl
@[simp] theorem drawNat_hub (k : Nat) (s : State) : (drawNat k s).2.hub = s.hub := rfl
@[simp] theorem drawNat_bar0 (k : Nat) (s : State) : (drawNat k s).2.bar0 = s.bar0 := rfl
@[simp] theorem drawNat_link (k : Nat) (s : State) : (drawNat k s).2.link = s.link := rfl
@[simp] theorem drawNat_rng (k : Nat) (s : State) : (drawNat k s).2.rng = s.rng := rfl
@[simp] theorem drawNat_mer (k : Nat) (s : State) : (drawNat k s).2.mer = s.mer := rfl
@[simp] theorem drawNat_enc (k : Nat) (s : State) : (drawNat k s).2.enc = s.enc := rfl
@[simp] theorem drawNat_mem (k : Nat) (s : State) : (drawNat k s).2.mem = s.mem := rfl
@[simp] theorem drawNat_grt (k : Nat) (s : State) : (drawNat k s).2.grt = s.grt := rfl
@[simp] theorem drawNat_esc (k : Nat) (s : State) : (drawNat k s).2.esc = s.esc := rfl
@[simp] theorem drawNat_hlk (k : Nat) (s : State) : (drawNat k s).2.hlk = s.hlk := rfl
@[simp] theorem drawNat_ldg (k : Nat) (s : State) : (drawNat k s).2.ldg = s.ldg := rfl
@[simp] theorem drawNat_ins (k : Nat) (s : State) : (drawNat k s).2.ins = s.ins := rfl
@[simp] theorem drawNat_cal (k : Nat) (s : State) : (drawNat k s).2.cal = s.cal := rfl
@[simp] theorem drawNat_axs (k : Nat) (s : State) : (drawNat k s).2.axs = s.axs := rfl
@[simp] theorem drawNat_view (k : Nat) (s : State) : (drawNat k s).2.view = s.view := rfl
@[simp] theorem drawNat_thm (k : Nat) (s : State) : (drawNat k s).2.thm = s.thm := rfl
@[simp] theorem drawNat_mss (k : Nat) (s : State) : (drawNat k s).2.mss = s.mss := rfl
@[simp] theorem drawNat_nvm (k : Nat) (s : State) : (drawNat k s).2.nvm = s.nvm := rfl
@[simp] theorem drawNat_cfg (k : Nat) (s : State) : (drawNat k s).2.cfg = s.cfg := rfl
@[simp] theorem drawNat_held (k : Nat) (s : State) : (drawNat k s).2.held = s.held := rfl
@[simp] theorem drawNat_freeCtr (k : Nat) (s : State) : (drawNat k s).2.freeCtr = s.freeCtr + 1 := rfl
@[simp] theorem drawNat_out (k : Nat) (s : State) : (drawNat k s).2.out = s.out := rfl
@[simp] theorem drawNat_pending (k : Nat) (s : State) : (drawNat k s).2.pending = s.pending := rfl

/-! drawInt -/

@[simp] theorem drawInt_now (k : Nat) (s : State) : (drawInt k s).2.now = s.now := rfl
@[simp] theorem drawInt_hub (k : Nat) (s : State) : (drawInt k s).2.hub = s.hub := rfl
@[simp] theorem drawInt_bar0 (k : Nat) (s : State) : (drawInt k s).2.bar0 = s.bar0 := rfl
@[simp] theorem drawInt_link (k : Nat) (s : State) : (drawInt k s).2.link = s.link := rfl
@[simp] theorem drawInt_rng (k : Nat) (s : State) : (drawInt k s).2.rng = s.rng := rfl
@[simp] theorem drawInt_mer (k : Nat) (s : State) : (drawInt k s).2.mer = s.mer := rfl
@[simp] theorem drawInt_enc (k : Nat) (s : State) : (drawInt k s).2.enc = s.enc := rfl
@[simp] theorem drawInt_mem (k : Nat) (s : State) : (drawInt k s).2.mem = s.mem := rfl
@[simp] theorem drawInt_grt (k : Nat) (s : State) : (drawInt k s).2.grt = s.grt := rfl
@[simp] theorem drawInt_esc (k : Nat) (s : State) : (drawInt k s).2.esc = s.esc := rfl
@[simp] theorem drawInt_hlk (k : Nat) (s : State) : (drawInt k s).2.hlk = s.hlk := rfl
@[simp] theorem drawInt_ldg (k : Nat) (s : State) : (drawInt k s).2.ldg = s.ldg := rfl
@[simp] theorem drawInt_ins (k : Nat) (s : State) : (drawInt k s).2.ins = s.ins := rfl
@[simp] theorem drawInt_cal (k : Nat) (s : State) : (drawInt k s).2.cal = s.cal := rfl
@[simp] theorem drawInt_axs (k : Nat) (s : State) : (drawInt k s).2.axs = s.axs := rfl
@[simp] theorem drawInt_view (k : Nat) (s : State) : (drawInt k s).2.view = s.view := rfl
@[simp] theorem drawInt_thm (k : Nat) (s : State) : (drawInt k s).2.thm = s.thm := rfl
@[simp] theorem drawInt_mss (k : Nat) (s : State) : (drawInt k s).2.mss = s.mss := rfl
@[simp] theorem drawInt_nvm (k : Nat) (s : State) : (drawInt k s).2.nvm = s.nvm := rfl
@[simp] theorem drawInt_cfg (k : Nat) (s : State) : (drawInt k s).2.cfg = s.cfg := rfl
@[simp] theorem drawInt_held (k : Nat) (s : State) : (drawInt k s).2.held = s.held := rfl
@[simp] theorem drawInt_freeCtr (k : Nat) (s : State) : (drawInt k s).2.freeCtr = s.freeCtr + 1 := rfl
@[simp] theorem drawInt_out (k : Nat) (s : State) : (drawInt k s).2.out = s.out := rfl
@[simp] theorem drawInt_pending (k : Nat) (s : State) : (drawInt k s).2.pending = s.pending := rfl

/-! drawBool -/

@[simp] theorem drawBool_now (k : Nat) (s : State) : (drawBool k s).2.now = s.now := rfl
@[simp] theorem drawBool_hub (k : Nat) (s : State) : (drawBool k s).2.hub = s.hub := rfl
@[simp] theorem drawBool_bar0 (k : Nat) (s : State) : (drawBool k s).2.bar0 = s.bar0 := rfl
@[simp] theorem drawBool_link (k : Nat) (s : State) : (drawBool k s).2.link = s.link := rfl
@[simp] theorem drawBool_rng (k : Nat) (s : State) : (drawBool k s).2.rng = s.rng := rfl
@[simp] theorem drawBool_mer (k : Nat) (s : State) : (drawBool k s).2.mer = s.mer := rfl
@[simp] theorem drawBool_enc (k : Nat) (s : State) : (drawBool k s).2.enc = s.enc := rfl
@[simp] theorem drawBool_mem (k : Nat) (s : State) : (drawBool k s).2.mem = s.mem := rfl
@[simp] theorem drawBool_grt (k : Nat) (s : State) : (drawBool k s).2.grt = s.grt := rfl
@[simp] theorem drawBool_esc (k : Nat) (s : State) : (drawBool k s).2.esc = s.esc := rfl
@[simp] theorem drawBool_hlk (k : Nat) (s : State) : (drawBool k s).2.hlk = s.hlk := rfl
@[simp] theorem drawBool_ldg (k : Nat) (s : State) : (drawBool k s).2.ldg = s.ldg := rfl
@[simp] theorem drawBool_ins (k : Nat) (s : State) : (drawBool k s).2.ins = s.ins := rfl
@[simp] theorem drawBool_cal (k : Nat) (s : State) : (drawBool k s).2.cal = s.cal := rfl
@[simp] theorem drawBool_axs (k : Nat) (s : State) : (drawBool k s).2.axs = s.axs := rfl
@[simp] theorem drawBool_view (k : Nat) (s : State) : (drawBool k s).2.view = s.view := rfl
@[simp] theorem drawBool_thm (k : Nat) (s : State) : (drawBool k s).2.thm = s.thm := rfl
@[simp] theorem drawBool_mss (k : Nat) (s : State) : (drawBool k s).2.mss = s.mss := rfl
@[simp] theorem drawBool_nvm (k : Nat) (s : State) : (drawBool k s).2.nvm = s.nvm := rfl
@[simp] theorem drawBool_cfg (k : Nat) (s : State) : (drawBool k s).2.cfg = s.cfg := rfl
@[simp] theorem drawBool_held (k : Nat) (s : State) : (drawBool k s).2.held = s.held := rfl
@[simp] theorem drawBool_freeCtr (k : Nat) (s : State) : (drawBool k s).2.freeCtr = s.freeCtr + 1 := rfl
@[simp] theorem drawBool_out (k : Nat) (s : State) : (drawBool k s).2.out = s.out := rfl
@[simp] theorem drawBool_pending (k : Nat) (s : State) : (drawBool k s).2.pending = s.pending := rfl

/-! clearSafe -/

@[simp] theorem clearSafe_now (i b : Nat) (s : State) : (clearSafe i b s).now = s.now := rfl
@[simp] theorem clearSafe_bar0 (i b : Nat) (s : State) : (clearSafe i b s).bar0 = s.bar0 := rfl
@[simp] theorem clearSafe_link (i b : Nat) (s : State) : (clearSafe i b s).link = s.link := rfl
@[simp] theorem clearSafe_rng (i b : Nat) (s : State) : (clearSafe i b s).rng = s.rng := rfl
@[simp] theorem clearSafe_mer (i b : Nat) (s : State) : (clearSafe i b s).mer = s.mer := rfl
@[simp] theorem clearSafe_enc (i b : Nat) (s : State) : (clearSafe i b s).enc = s.enc := rfl
@[simp] theorem clearSafe_mem (i b : Nat) (s : State) : (clearSafe i b s).mem = s.mem := rfl
@[simp] theorem clearSafe_grt (i b : Nat) (s : State) : (clearSafe i b s).grt = s.grt := rfl
@[simp] theorem clearSafe_esc (i b : Nat) (s : State) : (clearSafe i b s).esc = s.esc := rfl
@[simp] theorem clearSafe_hlk (i b : Nat) (s : State) : (clearSafe i b s).hlk = s.hlk := rfl
@[simp] theorem clearSafe_ldg (i b : Nat) (s : State) : (clearSafe i b s).ldg = s.ldg := rfl
@[simp] theorem clearSafe_ins (i b : Nat) (s : State) : (clearSafe i b s).ins = s.ins := rfl
@[simp] theorem clearSafe_cal (i b : Nat) (s : State) : (clearSafe i b s).cal = s.cal := rfl
@[simp] theorem clearSafe_axs (i b : Nat) (s : State) : (clearSafe i b s).axs = s.axs := rfl
@[simp] theorem clearSafe_view (i b : Nat) (s : State) : (clearSafe i b s).view = s.view := rfl
@[simp] theorem clearSafe_thm (i b : Nat) (s : State) : (clearSafe i b s).thm = s.thm := rfl
@[simp] theorem clearSafe_mss (i b : Nat) (s : State) : (clearSafe i b s).mss = s.mss := rfl
@[simp] theorem clearSafe_nvm (i b : Nat) (s : State) : (clearSafe i b s).nvm = s.nvm := rfl
@[simp] theorem clearSafe_cfg (i b : Nat) (s : State) : (clearSafe i b s).cfg = s.cfg := rfl
@[simp] theorem clearSafe_held (i b : Nat) (s : State) : (clearSafe i b s).held = s.held := rfl
@[simp] theorem clearSafe_freeCtr (i b : Nat) (s : State) : (clearSafe i b s).freeCtr = s.freeCtr := rfl
@[simp] theorem clearSafe_out (i b : Nat) (s : State) : (clearSafe i b s).out = s.out := rfl
@[simp] theorem clearSafe_pending (i b : Nat) (s : State) : (clearSafe i b s).pending = s.pending := rfl

/-! setAxis -/

@[simp] theorem setAxis_now (a : Nat) (v : Axis) (s : State) : (setAxis a v s).now = s.now := rfl
@[simp] theorem setAxis_hub (a : Nat) (v : Axis) (s : State) : (setAxis a v s).hub = s.hub := rfl
@[simp] theorem setAxis_bar0 (a : Nat) (v : Axis) (s : State) : (setAxis a v s).bar0 = s.bar0 := rfl
@[simp] theorem setAxis_link (a : Nat) (v : Axis) (s : State) : (setAxis a v s).link = s.link := rfl
@[simp] theorem setAxis_rng (a : Nat) (v : Axis) (s : State) : (setAxis a v s).rng = s.rng := rfl
@[simp] theorem setAxis_mer (a : Nat) (v : Axis) (s : State) : (setAxis a v s).mer = s.mer := rfl
@[simp] theorem setAxis_enc (a : Nat) (v : Axis) (s : State) : (setAxis a v s).enc = s.enc := rfl
@[simp] theorem setAxis_mem (a : Nat) (v : Axis) (s : State) : (setAxis a v s).mem = s.mem := rfl
@[simp] theorem setAxis_grt (a : Nat) (v : Axis) (s : State) : (setAxis a v s).grt = s.grt := rfl
@[simp] theorem setAxis_esc (a : Nat) (v : Axis) (s : State) : (setAxis a v s).esc = s.esc := rfl
@[simp] theorem setAxis_hlk (a : Nat) (v : Axis) (s : State) : (setAxis a v s).hlk = s.hlk := rfl
@[simp] theorem setAxis_ldg (a : Nat) (v : Axis) (s : State) : (setAxis a v s).ldg = s.ldg := rfl
@[simp] theorem setAxis_ins (a : Nat) (v : Axis) (s : State) : (setAxis a v s).ins = s.ins := rfl
@[simp] theorem setAxis_cal (a : Nat) (v : Axis) (s : State) : (setAxis a v s).cal = s.cal := rfl
@[simp] theorem setAxis_view (a : Nat) (v : Axis) (s : State) : (setAxis a v s).view = s.view := rfl
@[simp] theorem setAxis_thm (a : Nat) (v : Axis) (s : State) : (setAxis a v s).thm = s.thm := rfl
@[simp] theorem setAxis_mss (a : Nat) (v : Axis) (s : State) : (setAxis a v s).mss = s.mss := rfl
@[simp] theorem setAxis_nvm (a : Nat) (v : Axis) (s : State) : (setAxis a v s).nvm = s.nvm := rfl
@[simp] theorem setAxis_cfg (a : Nat) (v : Axis) (s : State) : (setAxis a v s).cfg = s.cfg := rfl
@[simp] theorem setAxis_held (a : Nat) (v : Axis) (s : State) : (setAxis a v s).held = s.held := rfl
@[simp] theorem setAxis_freeCtr (a : Nat) (v : Axis) (s : State) : (setAxis a v s).freeCtr = s.freeCtr := rfl
@[simp] theorem setAxis_out (a : Nat) (v : Axis) (s : State) : (setAxis a v s).out = s.out := rfl
@[simp] theorem setAxis_pending (a : Nat) (v : Axis) (s : State) : (setAxis a v s).pending = s.pending := rfl

/-! setRun -/

@[simp] theorem setRun_now (r : CalRun) (s : State) : (setRun r s).now = s.now := rfl
@[simp] theorem setRun_hub (r : CalRun) (s : State) : (setRun r s).hub = s.hub := rfl
@[simp] theorem setRun_bar0 (r : CalRun) (s : State) : (setRun r s).bar0 = s.bar0 := rfl
@[simp] theorem setRun_link (r : CalRun) (s : State) : (setRun r s).link = s.link := rfl
@[simp] theorem setRun_rng (r : CalRun) (s : State) : (setRun r s).rng = s.rng := rfl
@[simp] theorem setRun_mer (r : CalRun) (s : State) : (setRun r s).mer = s.mer := rfl
@[simp] theorem setRun_enc (r : CalRun) (s : State) : (setRun r s).enc = s.enc := rfl
@[simp] theorem setRun_mem (r : CalRun) (s : State) : (setRun r s).mem = s.mem := rfl
@[simp] theorem setRun_grt (r : CalRun) (s : State) : (setRun r s).grt = s.grt := rfl
@[simp] theorem setRun_esc (r : CalRun) (s : State) : (setRun r s).esc = s.esc := rfl
@[simp] theorem setRun_hlk (r : CalRun) (s : State) : (setRun r s).hlk = s.hlk := rfl
@[simp] theorem setRun_ldg (r : CalRun) (s : State) : (setRun r s).ldg = s.ldg := rfl
@[simp] theorem setRun_ins (r : CalRun) (s : State) : (setRun r s).ins = s.ins := rfl
@[simp] theorem setRun_axs (r : CalRun) (s : State) : (setRun r s).axs = s.axs := rfl
@[simp] theorem setRun_view (r : CalRun) (s : State) : (setRun r s).view = s.view := rfl
@[simp] theorem setRun_thm (r : CalRun) (s : State) : (setRun r s).thm = s.thm := rfl
@[simp] theorem setRun_mss (r : CalRun) (s : State) : (setRun r s).mss = s.mss := rfl
@[simp] theorem setRun_nvm (r : CalRun) (s : State) : (setRun r s).nvm = s.nvm := rfl
@[simp] theorem setRun_cfg (r : CalRun) (s : State) : (setRun r s).cfg = s.cfg := rfl
@[simp] theorem setRun_held (r : CalRun) (s : State) : (setRun r s).held = s.held := rfl
@[simp] theorem setRun_freeCtr (r : CalRun) (s : State) : (setRun r s).freeCtr = s.freeCtr := rfl
@[simp] theorem setRun_out (r : CalRun) (s : State) : (setRun r s).out = s.out := rfl
@[simp] theorem setRun_pending (r : CalRun) (s : State) : (setRun r s).pending = s.pending := rfl

/-! setLane -/

@[simp] theorem setLane_now (n : Nat) (v : Lane) (s : State) : (setLane n v s).now = s.now := rfl
@[simp] theorem setLane_hub (n : Nat) (v : Lane) (s : State) : (setLane n v s).hub = s.hub := rfl
@[simp] theorem setLane_bar0 (n : Nat) (v : Lane) (s : State) : (setLane n v s).bar0 = s.bar0 := rfl
@[simp] theorem setLane_link (n : Nat) (v : Lane) (s : State) : (setLane n v s).link = s.link := rfl
@[simp] theorem setLane_rng (n : Nat) (v : Lane) (s : State) : (setLane n v s).rng = s.rng := rfl
@[simp] theorem setLane_mer (n : Nat) (v : Lane) (s : State) : (setLane n v s).mer = s.mer := rfl
@[simp] theorem setLane_enc (n : Nat) (v : Lane) (s : State) : (setLane n v s).enc = s.enc := rfl
@[simp] theorem setLane_mem (n : Nat) (v : Lane) (s : State) : (setLane n v s).mem = s.mem := rfl
@[simp] theorem setLane_grt (n : Nat) (v : Lane) (s : State) : (setLane n v s).grt = s.grt := rfl
@[simp] theorem setLane_esc (n : Nat) (v : Lane) (s : State) : (setLane n v s).esc = s.esc := rfl
@[simp] theorem setLane_ldg (n : Nat) (v : Lane) (s : State) : (setLane n v s).ldg = s.ldg := rfl
@[simp] theorem setLane_ins (n : Nat) (v : Lane) (s : State) : (setLane n v s).ins = s.ins := rfl
@[simp] theorem setLane_cal (n : Nat) (v : Lane) (s : State) : (setLane n v s).cal = s.cal := rfl
@[simp] theorem setLane_axs (n : Nat) (v : Lane) (s : State) : (setLane n v s).axs = s.axs := rfl
@[simp] theorem setLane_view (n : Nat) (v : Lane) (s : State) : (setLane n v s).view = s.view := rfl
@[simp] theorem setLane_thm (n : Nat) (v : Lane) (s : State) : (setLane n v s).thm = s.thm := rfl
@[simp] theorem setLane_mss (n : Nat) (v : Lane) (s : State) : (setLane n v s).mss = s.mss := rfl
@[simp] theorem setLane_nvm (n : Nat) (v : Lane) (s : State) : (setLane n v s).nvm = s.nvm := rfl
@[simp] theorem setLane_cfg (n : Nat) (v : Lane) (s : State) : (setLane n v s).cfg = s.cfg := rfl
@[simp] theorem setLane_held (n : Nat) (v : Lane) (s : State) : (setLane n v s).held = s.held := rfl
@[simp] theorem setLane_freeCtr (n : Nat) (v : Lane) (s : State) : (setLane n v s).freeCtr = s.freeCtr := rfl
@[simp] theorem setLane_out (n : Nat) (v : Lane) (s : State) : (setLane n v s).out = s.out := rfl
@[simp] theorem setLane_pending (n : Nat) (v : Lane) (s : State) : (setLane n v s).pending = s.pending := rfl

/-! setModule -/

@[simp] theorem setModule_now (m : Nat) (v : HeadModule) (s : State) : (setModule m v s).now = s.now := rfl
@[simp] theorem setModule_hub (m : Nat) (v : HeadModule) (s : State) : (setModule m v s).hub = s.hub := rfl
@[simp] theorem setModule_bar0 (m : Nat) (v : HeadModule) (s : State) : (setModule m v s).bar0 = s.bar0 := rfl
@[simp] theorem setModule_link (m : Nat) (v : HeadModule) (s : State) : (setModule m v s).link = s.link := rfl
@[simp] theorem setModule_rng (m : Nat) (v : HeadModule) (s : State) : (setModule m v s).rng = s.rng := rfl
@[simp] theorem setModule_mer (m : Nat) (v : HeadModule) (s : State) : (setModule m v s).mer = s.mer := rfl
@[simp] theorem setModule_enc (m : Nat) (v : HeadModule) (s : State) : (setModule m v s).enc = s.enc := rfl
@[simp] theorem setModule_mem (m : Nat) (v : HeadModule) (s : State) : (setModule m v s).mem = s.mem := rfl
@[simp] theorem setModule_grt (m : Nat) (v : HeadModule) (s : State) : (setModule m v s).grt = s.grt := rfl
@[simp] theorem setModule_esc (m : Nat) (v : HeadModule) (s : State) : (setModule m v s).esc = s.esc := rfl
@[simp] theorem setModule_ldg (m : Nat) (v : HeadModule) (s : State) : (setModule m v s).ldg = s.ldg := rfl
@[simp] theorem setModule_ins (m : Nat) (v : HeadModule) (s : State) : (setModule m v s).ins = s.ins := rfl
@[simp] theorem setModule_cal (m : Nat) (v : HeadModule) (s : State) : (setModule m v s).cal = s.cal := rfl
@[simp] theorem setModule_axs (m : Nat) (v : HeadModule) (s : State) : (setModule m v s).axs = s.axs := rfl
@[simp] theorem setModule_view (m : Nat) (v : HeadModule) (s : State) : (setModule m v s).view = s.view := rfl
@[simp] theorem setModule_thm (m : Nat) (v : HeadModule) (s : State) : (setModule m v s).thm = s.thm := rfl
@[simp] theorem setModule_mss (m : Nat) (v : HeadModule) (s : State) : (setModule m v s).mss = s.mss := rfl
@[simp] theorem setModule_nvm (m : Nat) (v : HeadModule) (s : State) : (setModule m v s).nvm = s.nvm := rfl
@[simp] theorem setModule_cfg (m : Nat) (v : HeadModule) (s : State) : (setModule m v s).cfg = s.cfg := rfl
@[simp] theorem setModule_held (m : Nat) (v : HeadModule) (s : State) : (setModule m v s).held = s.held := rfl
@[simp] theorem setModule_freeCtr (m : Nat) (v : HeadModule) (s : State) : (setModule m v s).freeCtr = s.freeCtr := rfl
@[simp] theorem setModule_out (m : Nat) (v : HeadModule) (s : State) : (setModule m v s).out = s.out := rfl
@[simp] theorem setModule_pending (m : Nat) (v : HeadModule) (s : State) : (setModule m v s).pending = s.pending := rfl

/-! setCam -/

@[simp] theorem setCam_now (c : Nat) (v : Camera) (s : State) : (setCam c v s).now = s.now := rfl
@[simp] theorem setCam_hub (c : Nat) (v : Camera) (s : State) : (setCam c v s).hub = s.hub := rfl
@[simp] theorem setCam_bar0 (c : Nat) (v : Camera) (s : State) : (setCam c v s).bar0 = s.bar0 := rfl
@[simp] theorem setCam_link (c : Nat) (v : Camera) (s : State) : (setCam c v s).link = s.link := rfl
@[simp] theorem setCam_rng (c : Nat) (v : Camera) (s : State) : (setCam c v s).rng = s.rng := rfl
@[simp] theorem setCam_mer (c : Nat) (v : Camera) (s : State) : (setCam c v s).mer = s.mer := rfl
@[simp] theorem setCam_enc (c : Nat) (v : Camera) (s : State) : (setCam c v s).enc = s.enc := rfl
@[simp] theorem setCam_mem (c : Nat) (v : Camera) (s : State) : (setCam c v s).mem = s.mem := rfl
@[simp] theorem setCam_grt (c : Nat) (v : Camera) (s : State) : (setCam c v s).grt = s.grt := rfl
@[simp] theorem setCam_esc (c : Nat) (v : Camera) (s : State) : (setCam c v s).esc = s.esc := rfl
@[simp] theorem setCam_hlk (c : Nat) (v : Camera) (s : State) : (setCam c v s).hlk = s.hlk := rfl
@[simp] theorem setCam_ldg (c : Nat) (v : Camera) (s : State) : (setCam c v s).ldg = s.ldg := rfl
@[simp] theorem setCam_cal (c : Nat) (v : Camera) (s : State) : (setCam c v s).cal = s.cal := rfl
@[simp] theorem setCam_axs (c : Nat) (v : Camera) (s : State) : (setCam c v s).axs = s.axs := rfl
@[simp] theorem setCam_view (c : Nat) (v : Camera) (s : State) : (setCam c v s).view = s.view := rfl
@[simp] theorem setCam_thm (c : Nat) (v : Camera) (s : State) : (setCam c v s).thm = s.thm := rfl
@[simp] theorem setCam_mss (c : Nat) (v : Camera) (s : State) : (setCam c v s).mss = s.mss := rfl
@[simp] theorem setCam_nvm (c : Nat) (v : Camera) (s : State) : (setCam c v s).nvm = s.nvm := rfl
@[simp] theorem setCam_cfg (c : Nat) (v : Camera) (s : State) : (setCam c v s).cfg = s.cfg := rfl
@[simp] theorem setCam_held (c : Nat) (v : Camera) (s : State) : (setCam c v s).held = s.held := rfl
@[simp] theorem setCam_freeCtr (c : Nat) (v : Camera) (s : State) : (setCam c v s).freeCtr = s.freeCtr := rfl
@[simp] theorem setCam_out (c : Nat) (v : Camera) (s : State) : (setCam c v s).out = s.out := rfl
@[simp] theorem setCam_pending (c : Nat) (v : Camera) (s : State) : (setCam c v s).pending = s.pending := rfl

/-! setTicket -/

@[simp] theorem setTicket_now (k : Ticket) (s : State) : (setTicket k s).now = s.now := rfl
@[simp] theorem setTicket_hub (k : Ticket) (s : State) : (setTicket k s).hub = s.hub := rfl
@[simp] theorem setTicket_bar0 (k : Ticket) (s : State) : (setTicket k s).bar0 = s.bar0 := rfl
@[simp] theorem setTicket_link (k : Ticket) (s : State) : (setTicket k s).link = s.link := rfl
@[simp] theorem setTicket_rng (k : Ticket) (s : State) : (setTicket k s).rng = s.rng := rfl
@[simp] theorem setTicket_mer (k : Ticket) (s : State) : (setTicket k s).mer = s.mer := rfl
@[simp] theorem setTicket_enc (k : Ticket) (s : State) : (setTicket k s).enc = s.enc := rfl
@[simp] theorem setTicket_mem (k : Ticket) (s : State) : (setTicket k s).mem = s.mem := rfl
@[simp] theorem setTicket_grt (k : Ticket) (s : State) : (setTicket k s).grt = s.grt := rfl
@[simp] theorem setTicket_esc (k : Ticket) (s : State) : (setTicket k s).esc = s.esc := rfl
@[simp] theorem setTicket_hlk (k : Ticket) (s : State) : (setTicket k s).hlk = s.hlk := rfl
@[simp] theorem setTicket_ins (k : Ticket) (s : State) : (setTicket k s).ins = s.ins := rfl
@[simp] theorem setTicket_cal (k : Ticket) (s : State) : (setTicket k s).cal = s.cal := rfl
@[simp] theorem setTicket_axs (k : Ticket) (s : State) : (setTicket k s).axs = s.axs := rfl
@[simp] theorem setTicket_view (k : Ticket) (s : State) : (setTicket k s).view = s.view := rfl
@[simp] theorem setTicket_thm (k : Ticket) (s : State) : (setTicket k s).thm = s.thm := rfl
@[simp] theorem setTicket_mss (k : Ticket) (s : State) : (setTicket k s).mss = s.mss := rfl
@[simp] theorem setTicket_nvm (k : Ticket) (s : State) : (setTicket k s).nvm = s.nvm := rfl
@[simp] theorem setTicket_cfg (k : Ticket) (s : State) : (setTicket k s).cfg = s.cfg := rfl
@[simp] theorem setTicket_held (k : Ticket) (s : State) : (setTicket k s).held = s.held := rfl
@[simp] theorem setTicket_freeCtr (k : Ticket) (s : State) : (setTicket k s).freeCtr = s.freeCtr := rfl
@[simp] theorem setTicket_out (k : Ticket) (s : State) : (setTicket k s).out = s.out := rfl
@[simp] theorem setTicket_pending (k : Ticket) (s : State) : (setTicket k s).pending = s.pending := rfl

/-! setWindow -/

@[simp] theorem setWindow_now (g : Nat) (v : WindowGen) (s : State) : (setWindow g v s).now = s.now := rfl
@[simp] theorem setWindow_hub (g : Nat) (v : WindowGen) (s : State) : (setWindow g v s).hub = s.hub := rfl
@[simp] theorem setWindow_bar0 (g : Nat) (v : WindowGen) (s : State) : (setWindow g v s).bar0 = s.bar0 := rfl
@[simp] theorem setWindow_link (g : Nat) (v : WindowGen) (s : State) : (setWindow g v s).link = s.link := rfl
@[simp] theorem setWindow_rng (g : Nat) (v : WindowGen) (s : State) : (setWindow g v s).rng = s.rng := rfl
@[simp] theorem setWindow_enc (g : Nat) (v : WindowGen) (s : State) : (setWindow g v s).enc = s.enc := rfl
@[simp] theorem setWindow_mem (g : Nat) (v : WindowGen) (s : State) : (setWindow g v s).mem = s.mem := rfl
@[simp] theorem setWindow_grt (g : Nat) (v : WindowGen) (s : State) : (setWindow g v s).grt = s.grt := rfl
@[simp] theorem setWindow_esc (g : Nat) (v : WindowGen) (s : State) : (setWindow g v s).esc = s.esc := rfl
@[simp] theorem setWindow_hlk (g : Nat) (v : WindowGen) (s : State) : (setWindow g v s).hlk = s.hlk := rfl
@[simp] theorem setWindow_ldg (g : Nat) (v : WindowGen) (s : State) : (setWindow g v s).ldg = s.ldg := rfl
@[simp] theorem setWindow_ins (g : Nat) (v : WindowGen) (s : State) : (setWindow g v s).ins = s.ins := rfl
@[simp] theorem setWindow_cal (g : Nat) (v : WindowGen) (s : State) : (setWindow g v s).cal = s.cal := rfl
@[simp] theorem setWindow_axs (g : Nat) (v : WindowGen) (s : State) : (setWindow g v s).axs = s.axs := rfl
@[simp] theorem setWindow_view (g : Nat) (v : WindowGen) (s : State) : (setWindow g v s).view = s.view := rfl
@[simp] theorem setWindow_thm (g : Nat) (v : WindowGen) (s : State) : (setWindow g v s).thm = s.thm := rfl
@[simp] theorem setWindow_mss (g : Nat) (v : WindowGen) (s : State) : (setWindow g v s).mss = s.mss := rfl
@[simp] theorem setWindow_nvm (g : Nat) (v : WindowGen) (s : State) : (setWindow g v s).nvm = s.nvm := rfl
@[simp] theorem setWindow_cfg (g : Nat) (v : WindowGen) (s : State) : (setWindow g v s).cfg = s.cfg := rfl
@[simp] theorem setWindow_held (g : Nat) (v : WindowGen) (s : State) : (setWindow g v s).held = s.held := rfl
@[simp] theorem setWindow_freeCtr (g : Nat) (v : WindowGen) (s : State) : (setWindow g v s).freeCtr = s.freeCtr := rfl
@[simp] theorem setWindow_out (g : Nat) (v : WindowGen) (s : State) : (setWindow g v s).out = s.out := rfl
@[simp] theorem setWindow_pending (g : Nat) (v : WindowGen) (s : State) : (setWindow g v s).pending = s.pending := rfl

/-! modPage -/

@[simp] theorem modPage_now (i : Nat) (f : Page → Page) (s : State) : (modPage i f s).now = s.now := rfl
@[simp] theorem modPage_hub (i : Nat) (f : Page → Page) (s : State) : (modPage i f s).hub = s.hub := rfl
@[simp] theorem modPage_bar0 (i : Nat) (f : Page → Page) (s : State) : (modPage i f s).bar0 = s.bar0 := rfl
@[simp] theorem modPage_link (i : Nat) (f : Page → Page) (s : State) : (modPage i f s).link = s.link := rfl
@[simp] theorem modPage_rng (i : Nat) (f : Page → Page) (s : State) : (modPage i f s).rng = s.rng := rfl
@[simp] theorem modPage_mer (i : Nat) (f : Page → Page) (s : State) : (modPage i f s).mer = s.mer := rfl
@[simp] theorem modPage_enc (i : Nat) (f : Page → Page) (s : State) : (modPage i f s).enc = s.enc := rfl
@[simp] theorem modPage_grt (i : Nat) (f : Page → Page) (s : State) : (modPage i f s).grt = s.grt := rfl
@[simp] theorem modPage_esc (i : Nat) (f : Page → Page) (s : State) : (modPage i f s).esc = s.esc := rfl
@[simp] theorem modPage_hlk (i : Nat) (f : Page → Page) (s : State) : (modPage i f s).hlk = s.hlk := rfl
@[simp] theorem modPage_ldg (i : Nat) (f : Page → Page) (s : State) : (modPage i f s).ldg = s.ldg := rfl
@[simp] theorem modPage_ins (i : Nat) (f : Page → Page) (s : State) : (modPage i f s).ins = s.ins := rfl
@[simp] theorem modPage_cal (i : Nat) (f : Page → Page) (s : State) : (modPage i f s).cal = s.cal := rfl
@[simp] theorem modPage_axs (i : Nat) (f : Page → Page) (s : State) : (modPage i f s).axs = s.axs := rfl
@[simp] theorem modPage_view (i : Nat) (f : Page → Page) (s : State) : (modPage i f s).view = s.view := rfl
@[simp] theorem modPage_thm (i : Nat) (f : Page → Page) (s : State) : (modPage i f s).thm = s.thm := rfl
@[simp] theorem modPage_mss (i : Nat) (f : Page → Page) (s : State) : (modPage i f s).mss = s.mss := rfl
@[simp] theorem modPage_nvm (i : Nat) (f : Page → Page) (s : State) : (modPage i f s).nvm = s.nvm := rfl
@[simp] theorem modPage_cfg (i : Nat) (f : Page → Page) (s : State) : (modPage i f s).cfg = s.cfg := rfl
@[simp] theorem modPage_held (i : Nat) (f : Page → Page) (s : State) : (modPage i f s).held = s.held := rfl
@[simp] theorem modPage_freeCtr (i : Nat) (f : Page → Page) (s : State) : (modPage i f s).freeCtr = s.freeCtr := rfl
@[simp] theorem modPage_out (i : Nat) (f : Page → Page) (s : State) : (modPage i f s).out = s.out := rfl
@[simp] theorem modPage_pending (i : Nat) (f : Page → Page) (s : State) : (modPage i f s).pending = s.pending := rfl

/-! setTxn -/

@[simp] theorem setTxn_now (t : CoordTxn) (s : State) : (setTxn t s).now = s.now := rfl
@[simp] theorem setTxn_hub (t : CoordTxn) (s : State) : (setTxn t s).hub = s.hub := rfl
@[simp] theorem setTxn_bar0 (t : CoordTxn) (s : State) : (setTxn t s).bar0 = s.bar0 := rfl
@[simp] theorem setTxn_link (t : CoordTxn) (s : State) : (setTxn t s).link = s.link := rfl
@[simp] theorem setTxn_mer (t : CoordTxn) (s : State) : (setTxn t s).mer = s.mer := rfl
@[simp] theorem setTxn_enc (t : CoordTxn) (s : State) : (setTxn t s).enc = s.enc := rfl
@[simp] theorem setTxn_mem (t : CoordTxn) (s : State) : (setTxn t s).mem = s.mem := rfl
@[simp] theorem setTxn_grt (t : CoordTxn) (s : State) : (setTxn t s).grt = s.grt := rfl
@[simp] theorem setTxn_esc (t : CoordTxn) (s : State) : (setTxn t s).esc = s.esc := rfl
@[simp] theorem setTxn_hlk (t : CoordTxn) (s : State) : (setTxn t s).hlk = s.hlk := rfl
@[simp] theorem setTxn_ldg (t : CoordTxn) (s : State) : (setTxn t s).ldg = s.ldg := rfl
@[simp] theorem setTxn_ins (t : CoordTxn) (s : State) : (setTxn t s).ins = s.ins := rfl
@[simp] theorem setTxn_cal (t : CoordTxn) (s : State) : (setTxn t s).cal = s.cal := rfl
@[simp] theorem setTxn_axs (t : CoordTxn) (s : State) : (setTxn t s).axs = s.axs := rfl
@[simp] theorem setTxn_view (t : CoordTxn) (s : State) : (setTxn t s).view = s.view := rfl
@[simp] theorem setTxn_thm (t : CoordTxn) (s : State) : (setTxn t s).thm = s.thm := rfl
@[simp] theorem setTxn_mss (t : CoordTxn) (s : State) : (setTxn t s).mss = s.mss := rfl
@[simp] theorem setTxn_nvm (t : CoordTxn) (s : State) : (setTxn t s).nvm = s.nvm := rfl
@[simp] theorem setTxn_cfg (t : CoordTxn) (s : State) : (setTxn t s).cfg = s.cfg := rfl
@[simp] theorem setTxn_held (t : CoordTxn) (s : State) : (setTxn t s).held = s.held := rfl
@[simp] theorem setTxn_freeCtr (t : CoordTxn) (s : State) : (setTxn t s).freeCtr = s.freeCtr := rfl
@[simp] theorem setTxn_out (t : CoordTxn) (s : State) : (setTxn t s).out = s.out := rfl
@[simp] theorem setTxn_pending (t : CoordTxn) (s : State) : (setTxn t s).pending = s.pending := rfl

/-! setSensor -/

@[simp] theorem setSensor_now (i : Nat) (v : Sensor) (s : State) : (setSensor i v s).now = s.now := rfl
@[simp] theorem setSensor_hub (i : Nat) (v : Sensor) (s : State) : (setSensor i v s).hub = s.hub := rfl
@[simp] theorem setSensor_bar0 (i : Nat) (v : Sensor) (s : State) : (setSensor i v s).bar0 = s.bar0 := rfl
@[simp] theorem setSensor_link (i : Nat) (v : Sensor) (s : State) : (setSensor i v s).link = s.link := rfl
@[simp] theorem setSensor_rng (i : Nat) (v : Sensor) (s : State) : (setSensor i v s).rng = s.rng := rfl
@[simp] theorem setSensor_mer (i : Nat) (v : Sensor) (s : State) : (setSensor i v s).mer = s.mer := rfl
@[simp] theorem setSensor_enc (i : Nat) (v : Sensor) (s : State) : (setSensor i v s).enc = s.enc := rfl
@[simp] theorem setSensor_mem (i : Nat) (v : Sensor) (s : State) : (setSensor i v s).mem = s.mem := rfl
@[simp] theorem setSensor_grt (i : Nat) (v : Sensor) (s : State) : (setSensor i v s).grt = s.grt := rfl
@[simp] theorem setSensor_esc (i : Nat) (v : Sensor) (s : State) : (setSensor i v s).esc = s.esc := rfl
@[simp] theorem setSensor_hlk (i : Nat) (v : Sensor) (s : State) : (setSensor i v s).hlk = s.hlk := rfl
@[simp] theorem setSensor_ldg (i : Nat) (v : Sensor) (s : State) : (setSensor i v s).ldg = s.ldg := rfl
@[simp] theorem setSensor_ins (i : Nat) (v : Sensor) (s : State) : (setSensor i v s).ins = s.ins := rfl
@[simp] theorem setSensor_cal (i : Nat) (v : Sensor) (s : State) : (setSensor i v s).cal = s.cal := rfl
@[simp] theorem setSensor_axs (i : Nat) (v : Sensor) (s : State) : (setSensor i v s).axs = s.axs := rfl
@[simp] theorem setSensor_view (i : Nat) (v : Sensor) (s : State) : (setSensor i v s).view = s.view := rfl
@[simp] theorem setSensor_mss (i : Nat) (v : Sensor) (s : State) : (setSensor i v s).mss = s.mss := rfl
@[simp] theorem setSensor_nvm (i : Nat) (v : Sensor) (s : State) : (setSensor i v s).nvm = s.nvm := rfl
@[simp] theorem setSensor_cfg (i : Nat) (v : Sensor) (s : State) : (setSensor i v s).cfg = s.cfg := rfl
@[simp] theorem setSensor_held (i : Nat) (v : Sensor) (s : State) : (setSensor i v s).held = s.held := rfl
@[simp] theorem setSensor_freeCtr (i : Nat) (v : Sensor) (s : State) : (setSensor i v s).freeCtr = s.freeCtr := rfl
@[simp] theorem setSensor_out (i : Nat) (v : Sensor) (s : State) : (setSensor i v s).out = s.out := rfl
@[simp] theorem setSensor_pending (i : Nat) (v : Sensor) (s : State) : (setSensor i v s).pending = s.pending := rfl

/-! keepQueue -/

@[simp] theorem keepQueue_now (a b : State) : (keepQueue a b).now = b.now := rfl
@[simp] theorem keepQueue_hub (a b : State) : (keepQueue a b).hub = b.hub := rfl
@[simp] theorem keepQueue_bar0 (a b : State) : (keepQueue a b).bar0 = b.bar0 := rfl
@[simp] theorem keepQueue_link (a b : State) : (keepQueue a b).link = b.link := rfl
@[simp] theorem keepQueue_rng (a b : State) : (keepQueue a b).rng = b.rng := rfl
@[simp] theorem keepQueue_mer (a b : State) : (keepQueue a b).mer = b.mer := rfl
@[simp] theorem keepQueue_enc (a b : State) : (keepQueue a b).enc = b.enc := rfl
@[simp] theorem keepQueue_mem (a b : State) : (keepQueue a b).mem = b.mem := rfl
@[simp] theorem keepQueue_grt (a b : State) : (keepQueue a b).grt = b.grt := rfl
@[simp] theorem keepQueue_esc (a b : State) : (keepQueue a b).esc = b.esc := rfl
@[simp] theorem keepQueue_hlk (a b : State) : (keepQueue a b).hlk = b.hlk := rfl
@[simp] theorem keepQueue_ldg (a b : State) : (keepQueue a b).ldg = b.ldg := rfl
@[simp] theorem keepQueue_ins (a b : State) : (keepQueue a b).ins = b.ins := rfl
@[simp] theorem keepQueue_cal (a b : State) : (keepQueue a b).cal = b.cal := rfl
@[simp] theorem keepQueue_axs (a b : State) : (keepQueue a b).axs = b.axs := rfl
@[simp] theorem keepQueue_view (a b : State) : (keepQueue a b).view = b.view := rfl
@[simp] theorem keepQueue_thm (a b : State) : (keepQueue a b).thm = b.thm := rfl
@[simp] theorem keepQueue_mss (a b : State) : (keepQueue a b).mss = b.mss := rfl
@[simp] theorem keepQueue_nvm (a b : State) : (keepQueue a b).nvm = b.nvm := rfl
@[simp] theorem keepQueue_cfg (a b : State) : (keepQueue a b).cfg = b.cfg := rfl
@[simp] theorem keepQueue_held (a b : State) : (keepQueue a b).held = b.held := rfl
@[simp] theorem keepQueue_freeCtr (a b : State) : (keepQueue a b).freeCtr = b.freeCtr := rfl
@[simp] theorem keepQueue_out (a b : State) : (keepQueue a b).out = b.out := rfl
@[simp] theorem keepQueue_pending (a b : State) : (keepQueue a b).pending = a.pending := rfl

/-! setRingPort -/

@[simp] theorem setRingPort_now (p : RingPort) (v : RingPortState) (s : State) : (setRingPort p v s).now = s.now := by
  cases p <;> rfl
@[simp] theorem setRingPort_hub (p : RingPort) (v : RingPortState) (s : State) : (setRingPort p v s).hub = s.hub := by
  cases p <;> rfl
@[simp] theorem setRingPort_bar0 (p : RingPort) (v : RingPortState) (s : State) : (setRingPort p v s).bar0 = s.bar0 := by
  cases p <;> rfl
@[simp] theorem setRingPort_link (p : RingPort) (v : RingPortState) (s : State) : (setRingPort p v s).link = s.link := by
  cases p <;> rfl
@[simp] theorem setRingPort_mer (p : RingPort) (v : RingPortState) (s : State) : (setRingPort p v s).mer = s.mer := by
  cases p <;> rfl
@[simp] theorem setRingPort_enc (p : RingPort) (v : RingPortState) (s : State) : (setRingPort p v s).enc = s.enc := by
  cases p <;> rfl
@[simp] theorem setRingPort_mem (p : RingPort) (v : RingPortState) (s : State) : (setRingPort p v s).mem = s.mem := by
  cases p <;> rfl
@[simp] theorem setRingPort_grt (p : RingPort) (v : RingPortState) (s : State) : (setRingPort p v s).grt = s.grt := by
  cases p <;> rfl
@[simp] theorem setRingPort_esc (p : RingPort) (v : RingPortState) (s : State) : (setRingPort p v s).esc = s.esc := by
  cases p <;> rfl
@[simp] theorem setRingPort_hlk (p : RingPort) (v : RingPortState) (s : State) : (setRingPort p v s).hlk = s.hlk := by
  cases p <;> rfl
@[simp] theorem setRingPort_ldg (p : RingPort) (v : RingPortState) (s : State) : (setRingPort p v s).ldg = s.ldg := by
  cases p <;> rfl
@[simp] theorem setRingPort_ins (p : RingPort) (v : RingPortState) (s : State) : (setRingPort p v s).ins = s.ins := by
  cases p <;> rfl
@[simp] theorem setRingPort_cal (p : RingPort) (v : RingPortState) (s : State) : (setRingPort p v s).cal = s.cal := by
  cases p <;> rfl
@[simp] theorem setRingPort_axs (p : RingPort) (v : RingPortState) (s : State) : (setRingPort p v s).axs = s.axs := by
  cases p <;> rfl
@[simp] theorem setRingPort_view (p : RingPort) (v : RingPortState) (s : State) : (setRingPort p v s).view = s.view := by
  cases p <;> rfl
@[simp] theorem setRingPort_thm (p : RingPort) (v : RingPortState) (s : State) : (setRingPort p v s).thm = s.thm := by
  cases p <;> rfl
@[simp] theorem setRingPort_mss (p : RingPort) (v : RingPortState) (s : State) : (setRingPort p v s).mss = s.mss := by
  cases p <;> rfl
@[simp] theorem setRingPort_nvm (p : RingPort) (v : RingPortState) (s : State) : (setRingPort p v s).nvm = s.nvm := by
  cases p <;> rfl
@[simp] theorem setRingPort_cfg (p : RingPort) (v : RingPortState) (s : State) : (setRingPort p v s).cfg = s.cfg := by
  cases p <;> rfl
@[simp] theorem setRingPort_held (p : RingPort) (v : RingPortState) (s : State) : (setRingPort p v s).held = s.held := by
  cases p <;> rfl
@[simp] theorem setRingPort_freeCtr (p : RingPort) (v : RingPortState) (s : State) : (setRingPort p v s).freeCtr = s.freeCtr := by
  cases p <;> rfl
@[simp] theorem setRingPort_out (p : RingPort) (v : RingPortState) (s : State) : (setRingPort p v s).out = s.out := by
  cases p <;> rfl
@[simp] theorem setRingPort_pending (p : RingPort) (v : RingPortState) (s : State) : (setRingPort p v s).pending = s.pending := by
  cases p <;> rfl

end Sys2Proof.Machine.Laws
end

