-- ==== Sys2Proof/WellFormed.lean ====
section
/-! DEFINITION. Which terms of `Instr` a row of the opcode table can name: the ranges and lengths of 03, 04 and the
tables of the blocks. A row that no field range binds is well formed whatever it carries. -/
namespace Sys2Proof

/-- A command's entries carry the bytes its header claims, as far as they have room: 48 in the header entry and 64 in
each of at most 15 continuations (R47, R48). -/
def Cmd.wf (c : Cmd) : Bool :=
  c.params.length == min c.paramLen.toNat (48 + 64 * (if 15 < c.cont.toNat then 0 else c.cont.toNat))

/-- Source 0 to 30 and at most 30 hops left (04, the header block). -/
def RingHdr.wf (h : RingHdr) : Bool := decide (h.src.toNat ≤ 30) && decide (h.hops.toNat ≤ 30)

/-- Unit addresses run from 1 to 30 (R70). -/
def Assigned.wf (a : Assigned) : Bool := decide (1 ≤ a.address.toNat) && decide (a.address.toNat ≤ 30)

/-- An event's detail has 16 bytes (R59). -/
def Event.wf (e : Event) : Bool := decide (e.detail.length ≤ 16)

/-- A reply fits 16 entries (R51, R55). -/
def Reply.wf (r : Reply) : Bool := decide (r.result.length ≤ 1008)

/-- An image's measurement is a SHA-384 digest (R334). -/
def ImageSlot.wf (i : ImageSlot) : Bool := decide (i.measurement.length ≤ 48)

/-- Channels, sub-channels and ranks of the page store (R135). -/
def Position.wf (p : Position) : Bool :=
  decide (p.channel < 2) && decide (p.sub < 2) && decide (p.rank < 2) && decide (p.device < 256)

def DramTemp.wf (d : DramTemp) : Bool := decide (d.channel < 2) && decide (d.rank < 2) && decide (d.reading < 256)

def ScrubFind.wf : ScrubFind → Bool
  | .clean => true
  | .corrected p => p.wf
  | .uncorrectable p _ _ => p.wf

/-- Offsets rise strictly and the bytes listed are not zero, so that equal pages are equal data. -/
def pageBytesWf : List (Nat × Byte) → Bool
  | [] => true
  | [a] => a.2 != 0
  | a :: b :: l => a.2 != 0 && decide (a.1 < b.1) && pageBytesWf (b :: l)

def LoadEnd.wf : LoadEnd → Bool
  | .loaded _ data => pageBytesWf data
  | .listError => true
  | .dmaError => true
  | .uncorrectable => true

/-- A signed 16-bit reading. -/
def halfInt (i : Int) : Bool := decide (-32768 ≤ i) && decide (i < 32768)

def HeadStatus.wf (st : HeadStatus) : Bool := st.sensor0.all halfInt && st.sensor1.all halfInt

/-- A packet's virtual channel, and pixels of at most 12 bits (R240). -/
def CsiPacket.wf (p : CsiPacket) : Bool := decide (p.channel < 16) && p.pixels.all (fun x => decide (x < 4096))

/-- Whether a row of the opcode table can be this command. -/
def Instr.wf : Instr → Bool
  | .identify c => c.wf
  | .featureQuery c => c.wf
  | .featureAccept c => c.wf
  | .modeSet c => c.wf
  | .safeClear c => c.wf
  | .deviceReset c => c.wf
  | .configRead c => c.wf
  | .hostWatchdogSet c => c.wf
  | .undefinedOpcode _ c => c.wf
  | .ringEnumerate c => c.wf
  | .ringConfig c => c.wf
  | .ringPortSet c => c.wf
  | .ringPortStart c => c.wf
  | .ringPortStop c => c.wf
  | .timeSourceSet c => c.wf
  | .ptpDomainSet c => c.wf
  | .netPortSet c => c.wf
  | .timeStep c => c.wf
  | .windowSet c => c.wf
  | .snapshotArm c => c.wf
  | .snapPinSet c => c.wf
  | .encInputSet c => c.wf
  | .regulatorSet c => c.wf
  | .encActiveSet c => c.wf
  | .pulseSet c => c.wf
  | .pageLoad c => c.wf
  | .pageDiscard c => c.wf
  | .pageQuery c => c.wf
  | .queueAppend c => c.wf
  | .queueCommit c => c.wf
  | .queueClear c => c.wf
  | .memPortSet c => c.wf
  | .memConfigSet c => c.wf
  | .memDramDescribe c => c.wf
  | .memDelayMeasure c => c.wf
  | .grtBarSet c => c.wf
  | .grtModuleSet c => c.wf
  | .grtStitchSet c => c.wf
  | .grtNozzleStage c => c.wf
  | .grtNozzleCommit c => c.wf
  | .grtNozzleRead c => c.wf
  | .escConfigSet c => c.wf
  | .escRunaheadSet c => c.wf
  | .escHeadProfileSet c => c.wf
  | .escRowOffsetSet c => c.wf
  | .escTimingRead c => c.wf
  | .hlkConfigSet c => c.wf
  | .hlkLaneSet c => c.wf
  | .hlkLaneRestore c => c.wf
  | .hlkEyeScan c => c.wf
  | .hlkLaneTest c => c.wf
  | .hlkModuleRead c => c.wf
  | .hlkPurge c => c.wf
  | .ldgConfigSet c => c.wf
  | .ldgStreamSet c => c.wf
  | .ldgBlockAck c => c.wf
  | .ldgTicketQuery c => c.wf
  | .ldgVoid c => c.wf
  | .ldgSeal c => c.wf
  | .insCameraSet c => c.wf
  | .insCameraStart c => c.wf
  | .insCameraStop c => c.wf
  | .exposureSet c => c.wf
  | .insCompareSet c => c.wf
  | .insDisplaySet c => c.wf
  | .insOutputSet c => c.wf
  | .insOutputAck c => c.wf
  | .insStripeAdd c => c.wf
  | .insStatsRead c => c.wf
  | .calPolicySet c => c.wf
  | .calRun c => c.wf
  | .calReference c => c.wf
  | .calPatchAdd c => c.wf
  | .calAbort c => c.wf
  | .calResultRead c => c.wf
  | .calClear c => c.wf
  | .thmConfigSet c => c.wf
  | .thmSensorClear c => c.wf
  | .axsConfigSet c => c.wf
  | .axsStart c => c.wf
  | .axsStop c => c.wf
  | .axsMove c => c.wf
  | .axsHome c => c.wf
  | .axsFaultClear c => c.wf
  | .viewModeSet c => c.wf
  | .viewStart c => c.wf
  | .viewStop c => c.wf
  | .viewFrameSet c => c.wf
  | .mssConfigSet c => c.wf
  | .mssKeyRead c => c.wf
  | .mssUpdateBegin c => c.wf
  | .mssUpdateWrite c => c.wf
  | .mssUpdateVerify c => c.wf
  | .mssUpdateActivate c => c.wf
  | .mssRollbackFence c => c.wf
  | .mssSeal c => c.wf
  | .mssLogRead c => c.wf
  | .attest c => c.wf
  | .cmdTailDb _ _ _ => true
  | .rplHeadDb _ _ => true
  | .evtHeadDb _ _ => true
  | .hostHeartbeat _ _ => true
  | .cmdRingEnable _ => true
  | .cmdRingDisable _ => true
  | .rplRingEnable _ => true
  | .rplRingDisable _ => true
  | .evtRingEnable _ => true
  | .evtRingDisable _ => true
  | .bar0RegisterWrite _ offset size _ => (size == 1 || size == 2 || size == 4 || size == 8) && decide (offset + size ≤ 0x1000000)
  | .coalesceTimeout _ _ => true
  | .devHeartbeatTick _ => true
  | .functionLevelReset _ => true
  | .linkDown _ => true
  | .linkUp _ gen width => decide (1 ≤ gen) && decide (gen ≤ 4) && (width == 1 || width == 2 || width == 4)
  | .busMasterEnableCleared _ => true
  | .d3hotEntry _ => true
  | .powerOnReset _ => true
  | .powerOnResetRelease _ => true
  | .resetNLow _ => true
  | .perst _ => true
  | .perstRelease _ => true
  | .deviceResetExecute _ => true
  | .romDone _ _ => true
  | .imageDone _ reasonA reasonB board _ => decide (reasonA < 256) && decide (reasonB < 256) && board.all ImageSlot.wf
  | .selftestDone _ _ => true
  | .nvmCheckDone _ _ _ => true
  | .dramInitDone _ _ => true
  | .recoveryDone _ => true
  | .modeTransitionInstant _ _ => true
  | .drainComplete _ => true
  | .autoResume _ => true
  | .hostWatchdogExpiry _ => true
  | .interlockOpen t since => decide (since ≤ t)
  | .interlockClose t since => decide (since ≤ t)
  | .enum _ h _ next units => h.wf && decide (next ≤ 31) && decide (units.length ≤ 30)
  | .enumCommit _ h units _ => h.wf && decide (units.length ≤ 30) && units.all Assigned.wf
  | .enumAbort _ h _ _ => h.wf
  | .enumAdopt _ => true
  | .enumTimeout _ => true
  | .pendingAddressTimeout _ => true
  | .linkState t h _ _ _ _ lastValid => h.wf && decide (lastValid ≤ t)
  | .hopAck _ h _ => h.wf
  | .ringTime _ h _ _ _ _ => h.wf
  | .ringTimeExchange _ => true
  | .cmd _ h _ c => h.wf && c.wf
  | .rpl _ h r => h.wf && r.wf
  | .evt _ h es => h.wf && decide (1 ≤ es.length) && decide (es.length ≤ 8) && es.all Event.wf
  | .void _ h _ ranges => h.wf && decide (1 ≤ ranges.length) && decide (ranges.length ≤ 16)
  | .prepare _ h _ timeoutMs _ c => h.wf && c.wf && decide (timeoutMs < 65536)
  | .vote _ h _ _ result => h.wf && decide (result.length ≤ 1008)
  | .commit _ h _ _ => h.wf
  | .abort _ h _ => h.wf
  | .commitInstant _ => true
  | .voteTimeout _ => true
  | .prepareExpired _ => true
  | .relayTimeout _ => true
  | .snap _ h _ => h.wf
  | .ringPacketBad _ _ => true
  | .ringPortFailed t _ lastValid => decide (lastValid ≤ t)
  | .ringPortUp _ _ => true
  | .ringRerouteDone _ => true
  | .islandTimeBeacon _ _ lane residual => decide (lane < 256) && decide (residual < 4294967296)
  | .referenceClockFault _ _ _ => true
  | .stepApply _ => true
  | .ptpSyncReceived _ _ _ => true
  | .ptpAnnounceReceived _ _ _ => true
  | .ptpDelayRespReceived _ _ _ => true
  | .ptpPdelayReqReceived _ _ => true
  | .ptpDelayReqSend _ _ => true
  | .ptpSyncTimeout _ _ => true
  | .ptpAnnounceTimeout _ _ => true
  | .revertHoldoffExpiry _ => true
  | .netLinkChange _ _ _ => true
  | .nonPtpFrame _ _ => true
  | .windowBoundary _ _ => true
  | .snapshotInstant _ => true
  | .snapshotPublished _ => true
  | .snapInEdge _ _ => true
  | .snapInAccepted _ => true
  | .snapOutPulseEnd _ => true
  | .encoderCount _ _ _ _ => true
  | .pulseWidthEnd _ => true
  | .encoderIndex _ _ => true
  | .receiverFault _ _ => true
  | .encoderCauseClear _ _ _ => true
  | .standstillDeclared _ _ => true
  | .slotBoundary _ _ => true
  | .agreementMsCheck _ => true
  | .slotFix _ => true
  | .overspeedWarnClear _ => true
  | .overspeedQualified _ => true
  | .slotFired _ _ => true
  | .pageLoadEnd _ _ o => o.wf
  | .patrolScrubRead _ _ f => f.wf
  | .dramTempRead _ temps => temps.all DramTemp.wf
  | .refreshRelax _ => true
  | .allBankRefresh _ _ _ => true
  | .delayMeasureDone _ _ eye => decide (eye < 4294967296)
  | .dramDescribeDone _ _ _ => true
  | .lineFetch _ n blank _ _ => blank.all (fun b => b.2.1.wf && decide (b.2.2 < 16)) && decide (0 ≤ n)
  | .slotSend _ _ _ => true
  | .timeBlockSend _ => true
  | .timeEchoReceived _ _ _ _ _ _ => true
  | .identReceived _ _ _ => true
  | .statusReceived _ _ st => st.wf
  | .receiptReceived _ _ _ _ _ => true
  | .receiptTimeout _ _ _ => true
  | .revokeAckReceived _ _ _ _ _ => true
  | .revokeAckTimeout _ _ => true
  | .lineErrReceived _ _ _ _ _ => true
  | .laneLossReceived _ _ _ _ _ => true
  | .blockLock _ _ => true
  | .lockLost t _ lastValid => decide (lastValid ≤ t)
  | .laneSilence t _ lastValid => decide (lastValid ≤ t)
  | .laneRetry _ _ => true
  | .restoreHoldExpiry _ _ => true
  | .eyeScanDone _ _ left right upper lower => decide (left < 256) && decide (right < 256) && decide (upper < 256) && decide (lower < 256)
  | .laneTestDone _ _ errors bitsCompared _ _ => decide (errors ≤ bitsCompared)
  | .purgeEnd _ => true
  | .verdictDeadline _ => true
  | .ledgerBlockTimeClose _ => true
  | .blockSigned _ => true
  | .ledgerFrameDelivery _ _ => true
  | .checkpointWrite _ => true
  | .checkpointCommit _ _ _ => true
  | .frameStart _ _ _ => true
  | .csiLine _ _ p => p.wf
  | .frameEnd _ _ _ => true
  | .verdictMoment _ => true
  | .cameraFault _ _ _ => true
  | .cameraSilent _ _ => true
  | .cameraRecover _ _ => true
  | .insFrameDelivery _ _ _ => true
  | .calTriggerCheck _ => true
  | .calRunTimeout _ => true
  | .dieSensorReading _ readings => decide (readings.length = 16) && readings.all halfInt
  | .sensorCrossCheck _ => true
  | .corePowerDown _ => true
  | .setpointFrame _ => true
  | .ssiReadDone _ _ _ bits => decide (bits.length ≤ 64)
  | .axisFeedbackCount _ _ _ => true
  | .feedbackFault _ _ _ => true
  | .feedbackCauseClear _ _ _ => true
  | .switchEdge _ _ _ _ => true
  | .switchConfirm _ _ _ => true
  | .switchRelease _ _ _ => true
  | .axisStall _ _ => true
  | .homingSearchLimit _ _ => true
  | .holdDelayExpiry _ _ => true
  | .axisScaleSettle _ _ => true
  | .latchPoint _ _ _ => true
  | .pixelClockLock _ => true
  | .pixelClockTimeout _ => true
  | .viewLineStart _ n dataTo _ => decide (n < 65536) && dataTo.all (fun b => decide (b < 65536))
  | .lockstepMismatch _ => true
  | .lockstepReset _ => true
  | .mssWatchdogExpiry _ => true
  | .trngHealthFailure _ test => decide (test ≤ 1)
  | .supplyWarning _ _ mv => decide (mv < 65536)
  | .supplyFault _ _ mv => decide (mv < 65536)
  | .supplyCollapse _ _ mv => decide (mv < 65536)
  | .supplyClear _ _ mv => decide (mv < 65536)
  | .coreRestart _ => true
  | .slotEraseDone _ _ _ => true
  | .updateVerifyDone _ _ _ _ => true
  | .activation _ _ => true
  | .imageConfirm _ => true
  | .trialTimeout _ => true
  | .trialRevert _ _ => true
  | .journalCommit _ _ _ => true
  | .eventLogAppend _ _ _ => true
  | .msiXUnmask _ _ => true
  | .busMasterEnableSet _ => true
  | .d3hotExit _ => true
  | .nextIdleBlock _ _ => true

end Sys2Proof
end

