-- ==== Sys2Proof/Tests/Slice0.lean ====
section
/-! SUPPORT. The model's own tests: an ill-formed term for each check of WellFormed, small facts worked by hand from the
spec, and for each statement with hypotheses a state and operands that meet them together. -/
namespace Sys2Proof.Machine.Tests
set_option Elab.async false
open Sys2Proof Sys2Proof.Machine

/-! States that serve -/

/-- A command of the host's with its parameters, placed 1 s after the state's instant. -/
def put (p : Bytes) : Cmd :=
  { t := 11 * tpS, seq := 7, paramLen := BitVec.ofNat 16 p.length, cont := BitVec.ofNat 8 (contsFor p.length), params := p }

/-- A ring of 4,096 entries that has been enabled. -/
def ringOn (phase : Bool) : RingRegs := { base := 0x100000, size := 4096, ctrl := true, enabled := true, phase := phase }

/-- STANDBY 10 s after reset, every feature accepted, the three rings enabled, nothing configured, unit address 3, line
origin 0. -/
def base : State := { State.reset with
  now := 10 * tpS
  hub := { mode := .standby, bootState := .ready, features := 0xFFFF, accepted := some 0xFFFF, cfgCount := 1, tested := true }
  bar0 := { cmd := ringOn false, rpl := ringOn true, evt := ringOn true }
  esc := { origin := 0 }
  rng := { address := 3 } }

def inMode (m : Mode) (s : State := base) : State := { s with hub := { s.hub with mode := m } }
def inBoot (b : BootState) (s : State := base) : State :=
  { s with hub := { s.hub with mode := .boot, bootState := b, features := 0, accepted := none, cfgCount := 0 } }
def withRng (r : Rng) : State := { base with rng := r }
def withMer (m : Mer) : State := { base with mer := m }
def withEnc (e : Enc) : State := { base with enc := e }
def withMem (m : Mem) : State := { base with mem := m }
def withEsc (e : Esc) : State := { base with esc := e }
def withHlk (h : Hlk) : State := { base with hlk := h }
def withLdg (l : Ldg) : State := { base with ldg := l }
def withIns (i : Ins) : State := { base with ins := i }
def withCal (c : Cal) : State := { base with cal := c }
def withAxs (a : Axs) : State := { base with axs := a }
def withView (v : View) : State := { base with view := v }
def withThm (h : Thm) : State := { base with thm := h }
def withMss (m : Mss) : State := { base with mss := m }
def withHub (h : Hub → Hub) (s : State := base) : State := { s with hub := h s.hub }
def withBar0 (b : Bar0 → Bar0) (s : State := base) : State := { s with bar0 := b s.bar0 }
def withSetting (k : CfgSlot) (v : Bytes) (s : State := base) : State := { s with cfg := tset s.cfg k v }

/-- A setting command's parameters: the default with some bytes changed. -/
def changed (k : CfgSlot) (l : List (Nat × Byte)) : Bytes := l.foldl (fun b e => b.set e.1 e.2) (cfgDefault k)

/-- The other unit on the ring: address 2, at the west port. -/
def otherSerial : BitVec 64 := Config.deviceSerial + 1
def hdr : RingHdr := { port := .west, src := 2, dst := 31, hops := 5, seq := 9, serial := otherSerial }
def toUs : RingHdr := { hdr with dst := 3 }
def portsUp : Rng := { address := 3, state := .closed, east := { state := .up }, west := { state := .up } }

/-! Checks of what the statements ask of a state -/

def steadyB (s : State) : Bool :=
  alive s && decide (s.hub.auto = none) && decide (s.cal.spareHome = none) && decide (s.bar0.placed = [])

theorem steady_of {s : State} (h : steadyB s = true) : Steady s := by
  simp only [steadyB, Bool.and_eq_true, decide_eq_true_eq] at h
  exact ⟨h.1.1.1, h.1.1.2, h.1.2, h.2⟩

theorem calm_of {s : State} (h : (steadyB s && decide (s.cal.runs = [])) = true) : Calm s := by
  simp only [Bool.and_eq_true, decide_eq_true_eq] at h
  exact ⟨steady_of h.1, h.2⟩

def readyB (c : Cmd) (s : State) : Bool :=
  steadyB s && hubServes s && ringUsable s.bar0.cmd && decide (16 < s.bar0.cmd.size.toNat)
    && decide (s.bar0.cmd.idx < s.bar0.cmd.size.toNat) && decide (s.bar0.cmd.other = s.bar0.cmd.idx)
    && ringUsable s.bar0.rpl && decide (16 ≤ ringFree s.bar0.rpl) && decide (s.bar0.heldReplies = []) && dmaOk s
    && decide (s.rng.prepared = none) && isLocal c s && decide (twoPhase c = false)

theorem ready_of {c : Cmd} {s : State} (h : readyB c s = true) : Ready c s := by
  simp only [readyB, Bool.and_eq_true, decide_eq_true_eq] at h
  obtain ⟨⟨⟨⟨⟨⟨⟨⟨⟨⟨⟨⟨a, b⟩, c⟩, d⟩, e⟩, f⟩, g⟩, i⟩, j⟩, k⟩, l⟩, m⟩, n⟩ := h
  exact ⟨steady_of a, b, c, d, e, f, g, i, j, k, l, m, n⟩

def servedB (d : CmdSpec) (c : Cmd) (s : State) : Bool :=
  readyB c s && headerOk d.isRead c s && decide (refusal d c (advance c.t s) = none) && decide (s.hub.cfgCount ≠ 0xFFFFFFFF)

theorem served_of {d : CmdSpec} {c : Cmd} {s : State} (h : servedB d c s = true) : Served d c s := by
  simp only [servedB, Bool.and_eq_true, decide_eq_true_eq] at h
  exact ⟨ready_of h.1.1.1, h.1.1.2, h.1.2, h.2⟩

theorem accepted_of {d : CmdSpec} {c : Cmd} {s : State} (h : (servedB d c s && decide (s.cal.runs = [])) = true) :
    Accepted d c s := by
  simp only [Bool.and_eq_true, decide_eq_true_eq] at h
  exact ⟨served_of h.1, h.2⟩

theorem otherSerial_ne : otherSerial ≠ Config.deviceSerial := by
  intro h
  have h' : Config.deviceSerial + 1#64 = Config.deviceSerial := h
  bv_omega

theorem arrives_of {h : RingHdr} {s : State} (hs : h.serial = otherSerial)
    (hb : (portUp s h.port && decide (h.hops ≠ 0) && decide (s.rng.accepted = [])
      && decide (h.dst = 31 ∨ (h.dst = s.rng.address ∧ h.dst ≠ 0))) = true) : Arrives h s := by
  simp only [Bool.and_eq_true, decide_eq_true_eq] at hb
  exact ⟨hb.1.1.1, hb.1.1.2, hs ▸ otherSerial_ne, by simp [seqNew, hb.1.2], hb.2⟩

theorem eventsOpen_of {s : State} (h : (ringUsable s.bar0.evt && decide (64 ≤ ringFree s.bar0.evt) && dmaOk s
    && decide (s.bar0.buffer = []) && decide (s.bar0.lostInfo + s.bar0.lostWarn + s.bar0.lostFault = 0)) = true) :
    EventsOpen s := by
  simp only [Bool.and_eq_true, decide_eq_true_eq] at h
  exact ⟨h.1.1.1.1, h.1.1.1.2, h.1.1.2, h.1.2, h.2⟩

/-! Records of the ring -/

def joined : Enumeration := { issuer := false, fill := false, started := 0, serial := otherSerial, pending := some 2 }
def issued : Enumeration := { issuer := true, fill := false, started := 0, serial := otherSerial }
def twoUnits : List Assigned := [{ address := 2, serial := otherSerial }, { address := 5, serial := 4 }]
def adopting : Enumeration := { joined with adopt := some (twoUnits, 10 * tpS) }
def ringChange : Cmd := { put (changed .ringConfig [(0, 1)]) with flags := 6, target := 31 }
def preparedChange : Prepared :=
  { txn := 4, coord := 2, local_ := false, opcode := 0x0102, cmd := ringChange, status := 0, result := [],
    votedAt := 10 * tpS, timeoutMs := 20 }
def committedChange : Prepared := { preparedChange with commitAt := some (11 * tpS) }
def coordinated : CoordTxn :=
  { txn := 4, opcode := 0x0102, cmd := ringChange, started := 10 * tpS, answers := [{ address := 2 }], voteUs := 5000,
    leadUs := 1000, commitMs := 20 }
def relayed : Relay :=
  { opcode := 1, cmd := { put [] with flags := 3, target := 2 }, sentAt := 10 * tpS, broadcast := false,
    answers := [{ address := 2 }], timeoutUs := 2000 }


/-! Pages and a print in progress -/

/-- PAGE_LOAD's parameters: one ticket row of 256 lines, one lane, all columns. -/
def pageParams : Bytes :=
  leBytes 4 9 ++ leBytes 2 1 ++ leBytes 2 256 ++ zeros 8 ++ leBytes 4 1 ++ [0, 1, 0, 0] ++ leBytes 2 0 ++ leBytes 2 52224
    ++ leBytes 2 52224 ++ zeros 18
def pageIn (st : PageState) : Page := { id := 9, params := pageParams, state := st }

/-- PRINT at 10,000 lines per second, slots up to 9 fixed. -/
def printing : State := { base with
  hub := { base.hub with mode := .print }
  enc := { e0 := { reg := 2, pos := 6 * 2 ^ 32, vel := 10000 * 2 ^ 32, time := 10 * tpS } }
  esc := { state := 2, armedOnce := true, printSlot := some 5, taken := 9, handled := 9, fixedTop := 9, fired := 5,
           hwm := 6 } }
def slotTen : FixedSlot := (computeSlot (preparePrint (advance (10 * tpS) printing)) 10).getD { n := 10, boundary := 0, modules := [] }
def printed : FixedSlot := { n := 7, boundary := 10 * tpS, modules := [] }


/-! Head modules -/

def heads (l : List (Nat × Lane)) (m : List (Nat × HeadModule)) : State := withHlk { lanes := l, modules := m }
def headIdent : Ident := { serial := 1234 }
def splitHead : HeadModule := { state := 2, ident := some headIdent }
def operational : Lane := { state := 3, ident := true, rxLock := true, opSince := some (5 * tpS) }
def sentLine : SentLine := { slot := 70, payload := zeros 1088, instants := [10 * tpS], gen := 0 }
def withLine : State := heads [(0, operational), (1, operational)] [(0, { splitHead with sentTop := 130, lines := [sentLine] })]
def withBlankLine : State :=
  heads [(0, operational)] [(0, { splitHead with sentTop := 130, lines := [{ sentLine with blankCD := true }] })]
def revoked : Revoke := { gen := 1, slot := 5, detected := 10 * tpS, discard := true, lanes := [0], old := [] }
def withRevoke : State :=
  { heads [(0, operational), (1, operational)] [(0, splitHead)] with esc := { revokes := [revoked], gen := 1 } }
def purgeRun : Purge := { modules := 1, rows := 15, code := 1, rate := 1000, count := 4, first := 0, t0 := 10 * tpS }
def sendingTen : State :=
  { printing with
    grt := { run := true, slot := 12 }
    esc := { printing.esc with slots := [slotTen], handled := 10, taken := 10, fixedTop := 10 }
    hlk := { lanes := [(0, operational), (1, operational)], modules := [(0, { splitHead with sentTop := 9 })] } }
def readyTen : Bytes × List Time × BitVec 32 := (readySlot (advance (10 * tpS) sendingTen) 0 10).getD ([], [], 0)


/-! Ledger -/

def openBlock : Block := { number := 4, firstSeq := 9, openTime := 10 * tpS, records := [zeros 128] }
def shutBlock : Block := { number := 3, firstSeq := 8, openTime := 8 * tpS, closeTime := 9 * tpS, cause := 1, records := [zeros 128] }
def sealedBlock : Block := { shutBlock with header := some (zeros 320) }
def sentBlock : Block := { sealedBlock with frame := some (0, 512) }
def streamOn : Stream := { size := 0x100000, enabled := true }
/-- ARMED with a ledger region that so many deferred records fill. -/
def fullLedger (n : Nat) : State :=
  inMode .armed (withLdg { current := some openBlock, open_ := true, deferred := List.replicate n { record := [], ticket := 0 } })
theorem fullLedger_holds (n : Nat) (h : 2 ^ 29 - (448 + 128 * n) < 2 ^ 20) :
    alive (fullLedger n) = true ∧ (fullLedger n).ldg.current = some openBlock
      ∧ openBlock.openTime + tpS ≤ max (fullLedger n).now (11 * tpS) ∧ (fullLedger n).hub.mode = .armed
      ∧ ledgerFree (fullLedger n) < 2 ^ 20 := by
  refine ⟨rfl, rfl, (by decide : 10 * tpS + tpS ≤ max (10 * tpS) (11 * tpS)), rfl, ?_⟩
  have e : ledgerFree (fullLedger n) = 2 ^ 29 - (448 + 128 * n) := by
    simp [ledgerFree, fullLedger, inMode, withLdg, base, State.reset, regionBytes, blockBytes, openBlock, sumNat]
  omega
def printedTicket : Ticket := { id := 5, page := 9, row := 0, lane := 0 }


/-! Cameras -/

def cams (k : Camera) : State := withIns { cameras := [(0, k)] }
def strip : Strip :=
  { number := 2, epoch := 0, start := 5, missedFrom := 5, length := 1024, setup := cfgDefault (.camera 0),
    exposure := zeros 24 }
def storedStrip : Stored := { strip := strip, mask := 1, bin := 0, free := 0 }
def deliveredOne : Stored := { storedStrip with frame := some (0, 64) }
def pulse5 : PulseRecord := { index := 5, t := 10 * tpS, pos := 0 }
def withPulses (s : State) : State := { s with enc := { pulses := [pulse5, { pulse5 with index := 4, t := 5 * tpS }] } }
def cameraLine : CsiPacket := { pixels := List.replicate 4352 7 }
def insTicket : InsTicket :=
  { id := 5, lo := 0, hi := 23, first := -900000, pitch := 24, shift := 0, origin := 0, data := [], compare := cfgDefault .compare,
    fetchLo := 0, fetchHi := 23 }


/-! Calibration runs -/

def calRun1 : CalRun :=
  { id := 6, type := 1, target := 0, state := 2, policy := cfgDefault .calPolicy, started := 10 * tpS,
    passFrom := 10 * tpS, snaps := [(9 * tpS, 0), (10 * tpS, 5000)] }
def scaleRun : CalRun :=
  { id := 6, type := 4, target := 0, state := 2, policy := cfgDefault .calPolicy, step := 5, stepAt := 10 * tpS }
/-- Head 0 has warmed by 5.0 °C since its last run. -/
def warmed : State :=
  { heads [] [(0, splitHead)] with
    hub := { base.hub with mode := .calibrate }
    thm := { sensors := [(16, { value := some 300, raw := some 300, time := 11 * tpS })] }
    cal := { temps := [((6, 0), 250)] }
    cfg := tset base.cfg .calPolicy (changed .calPolicy [(0, 6)]) }


/-! Axes and display -/

def axis (k : Axis) : State := withAxs { axes := [(0, k)] }
def axisSetting (l : List (Nat × Byte)) (s : State) : State := withSetting (.axis 0) (changed (.axis 0) l) s


/-! Reset, buffers and DMA -/

def dormant : State := { base with hub := { base.hub with inReset := true }, pending := [.identify (put [])] }
def event1 : Event := { code := 0x2001, block := 1 }
def event3 : Event := { code := 0x4001, block := 1 }
def buffered (n : Nat) : State := withBar0 fun b => { b with buffer := List.replicate n event1 }
def noDma : State := { base with link := { busMaster := false } }


theorem base_sized : CfgSized base := by
  intro k; cases k <;> first | rfl | (rename_i i; revert i; decide +kernel)

/-! WellFormed: a term for each check that the check refuses, beside ones it passes -/

def noHops : RingHdr := { hdr with hops := 31 }

theorem test_wf_command : (Instr.identify { t := 0, paramLen := 4, params := [] }).wf = false
    ∧ (Instr.identify { t := 0, paramLen := 4, params := [0, 0, 0, 0] }).wf = true
    ∧ (Instr.undefinedOpcode 9 { t := 0, paramLen := 64, cont := 0, params := List.replicate 64 0 }).wf = false
    ∧ (Instr.undefinedOpcode 9 { t := 0, paramLen := 64, cont := 1, params := List.replicate 64 0 }).wf = true := by
  decide +kernel
theorem test_wf_host : (Instr.bar0RegisterWrite 0 8 3 0).wf = false ∧ (Instr.bar0RegisterWrite 0 0xFFFFFE 4 0).wf = false
    ∧ (Instr.linkUp 0 5 4).wf = false ∧ (Instr.linkUp 0 4 3).wf = false ∧ (Instr.linkUp 0 4 4).wf = true
    ∧ (Instr.interlockOpen 5 6).wf = false ∧ (Instr.interlockClose 5 6).wf = false := by decide +kernel
theorem test_wf_boot : (Instr.imageDone 0 256 0 none true).wf = false ∧ (Instr.imageDone 0 0 256 none true).wf = false
    ∧ (Instr.imageDone 0 0 0 (some { measurement := List.replicate 49 0 }) true).wf = false
    ∧ (Instr.imageDone 0 0 0 (some {}) true).wf = true := by decide +kernel
theorem test_wf_ring_header : (Instr.hopAck 0 noHops 0).wf = false ∧ (Instr.hopAck 0 { hdr with src := 31 } 0).wf = false
    ∧ (Instr.abort 0 noHops 0).wf = false ∧ (Instr.commit 0 noHops 0 0).wf = false ∧ (Instr.snap 0 noHops 0).wf = false
    ∧ (Instr.enumAbort 0 noHops 0 0).wf = false ∧ (Instr.ringTime 0 noHops 0 0 true true).wf = false := by decide +kernel
theorem test_wf_ring : (Instr.enum 0 { hops := 1 } true 32 []).wf = false
    ∧ (Instr.enum 0 { hops := 1 } true 1 (List.replicate 31 { address := 1, serial := 0 })).wf = false
    ∧ (Instr.enumCommit 0 {} [{ address := 0, serial := 0 }] 0).wf = false
    ∧ (Instr.enumCommit 0 {} [{ address := 31, serial := 0 }] 0).wf = false
    ∧ (Instr.linkState 5 {} true true true 0 6).wf = false ∧ (Instr.ringPortFailed 5 .east 6).wf = false
    ∧ (Instr.cmd 0 {} 1 { t := 0, paramLen := 4 }).wf = false
    ∧ (Instr.rpl 0 {} { seq := 0, status := 0, opcode := 0, result := List.replicate 1009 0 }).wf = false
    ∧ (Instr.evt 0 {} []).wf = false
    ∧ (Instr.evt 0 {} [{ code := 0, block := 0, detail := List.replicate 17 0 }]).wf = false
    ∧ (Instr.void 0 {} 0 []).wf = false ∧ (Instr.void 0 {} 0 (List.replicate 17 { first := 0, count := 1 })).wf = false
    ∧ (Instr.prepare 0 {} 0 65536 0 { t := 0 }).wf = false ∧ (Instr.vote 0 {} 0 0 (List.replicate 1009 0)).wf = false := by
  decide +kernel
theorem test_wf_memory : (Instr.pageLoadEnd 0 1 (.loaded 5 [(2, 1), (2, 3)])).wf = false
    ∧ (Instr.pageLoadEnd 0 1 (.loaded 5 [(2, 0)])).wf = false ∧ (Instr.pageLoadEnd 0 1 (.loaded 5 [(2, 1), (4, 3)])).wf = true
    ∧ (Instr.patrolScrubRead 0 0 (.corrected { channel := 2, sub := 0, rank := 0, device := 0 })).wf = false
    ∧ (Instr.dramTempRead 0 [{ channel := 0, rank := 2, reading := 0, above85 := false, aboveMax := false }]).wf = false
    ∧ (Instr.delayMeasureDone 0 true 4294967296).wf = false
    ∧ (Instr.lineFetch 0 (-1) [] [] 0).wf = false
    ∧ (Instr.lineFetch 0 0 [(0, { channel := 0, sub := 0, rank := 0, device := 0 }, 16)] [] 0).wf = false := by decide +kernel
theorem test_wf_heads : (Instr.statusReceived 0 0 { sensor0 := some 32768 }).wf = false
    ∧ (Instr.lockLost 5 0 6).wf = false ∧ (Instr.laneSilence 5 0 6).wf = false
    ∧ (Instr.eyeScanDone 0 0 256 0 0 0).wf = false ∧ (Instr.laneTestDone 0 0 5 4 0 true).wf = false
    ∧ (Instr.islandTimeBeacon 0 0 256 0).wf = false ∧ (Instr.islandTimeBeacon 0 0 0 4294967296).wf = false := by
  decide +kernel
theorem test_wf_inputs : (Instr.csiLine 0 0 { pixels := [4096] }).wf = false ∧ (Instr.csiLine 0 0 { channel := 16 }).wf = false
    ∧ (Instr.dieSensorReading 0 []).wf = false ∧ (Instr.dieSensorReading 0 (List.replicate 16 40000)).wf = false
    ∧ (Instr.ssiReadDone 0 0 true (List.replicate 65 true)).wf = false
    ∧ (Instr.viewLineStart 0 65536 none 0).wf = false ∧ (Instr.viewLineStart 0 0 (some 65536) 0).wf = false := by decide +kernel
theorem test_wf_management : (Instr.trngHealthFailure 0 2).wf = false ∧ (Instr.supplyWarning 0 0 65536).wf = false
    ∧ (Instr.supplyFault 0 0 65536).wf = false ∧ (Instr.supplyCollapse 0 0 65536).wf = false
    ∧ (Instr.supplyClear 0 0 65536).wf = false ∧ (Instr.supplyClear 0 0 750).wf = true := by decide +kernel

/-! Facts worked by hand from the spec -/

/-- R2: little-endian. -/
theorem test_little_endian : leBytes 4 0x0000A55A = [0x5A, 0xA5, 0, 0] ∧ u32 [0x5A, 0xA5, 0, 0] 0 = 0x0000A55A := by decide
/-- R3, R8: 46 bits of nanoseconds above 16 of fraction are one second at 1,000,000,000 ns. -/
theorem test_time_value : timeAt (leBytes 6 (3 * 65536 + 1) ++ leBytes 6 2) 0 = (2 * 1000000000 + 3) * 65536 + 1 := by
  decide +kernel
/-- R48: 48 parameter bytes need no continuation, 49 one, 1,008 fifteen. -/
theorem test_continuations : contsFor 48 = 0 ∧ contsFor 49 = 1 ∧ contsFor 112 = 1 ∧ contsFor 113 = 2 ∧ contsFor 1008 = 15 := by
  decide
/-- R191: 125 ps are 8,192 of 65,536 parts of a nanosecond; 2^40 units later the count is the same. -/
theorem test_head_time : headTime 8192 = 1 ∧ headTime 8191 = 0 ∧ headTime (2 ^ 40 * 8192) = 0 := by decide +kernel
/-- R322: white, black, and pure red's Y, Cb and Cr. -/
theorem test_colour : toRgb 255 128 128 = (255, 255, 255) ∧ toRgb 0 128 128 = (0, 0, 0) ∧ (toRgb 76 85 255).1 = 254 := by
  decide +kernel
/-- R5: an opcode the manual does not define, through a whole step. -/
theorem test_bad_opcode : (match exec (.undefinedOpcode 0x7777 (put [])) base with
    | .next t => (lastReply t.out).map (fun r => r.status)
    | _ => none) = some 0x0101 := by decide +kernel
/-- R34, R27: MODE_SET to SERVICE replies E_PENDING and schedules the transition. -/
theorem test_mode_set : (match exec (.modeSet (put ([2] ++ zeros 15))) base with
    | .next t => ((lastReply t.out).map (fun r => r.status), t.hub.trans.map (fun x => x.target), t.hub.mode)
    | _ => (none, none, .boot)) = (some 1, some .service, .standby) := by decide +kernel
/-- R107: a count against the configured direction is −1. -/
theorem test_count_reverse : (encOf (countEncoder 0 true base) 0).count = -1 := by decide +kernel
/-- A step takes the front of the queue and keeps the rest. -/
theorem test_step_queue : (match step { base with pending := [.identify (put []), .powerOnReset 0] } with
    | .next t => t.pending
    | _ => []) = [.powerOnReset 0] := by decide +kernel
/-- The opcode table gives no row bits. -/
theorem test_decode : decodeTableWord 16 0 = none := by decide

/-! The manual's worked examples -/

/-- R8: 1,000 s and 250.5 ns. -/
theorem test_time_bytes : timeBytes ((1000 * 10 ^ 9 + 250) * 65536 + 0x8000)
    = [0x00, 0x80, 0xFA, 0x00, 0x00, 0x00, 0xE8, 0x03, 0x00, 0x00, 0x00, 0x00] := by decide +kernel
/-- R126: 64 rows of 1,024 lines. R135: the smallest and the largest memory. -/
theorem test_page_size : sizeOf 64 1024 = 855638016 ∧ unitsOf 64 1024 = 816 ∧ descGib [0, 1, 0, 1, 0, 0, 0, 0] = 16
    ∧ descGib [0, 0, 3, 1, 0, 0, 0, 0] = 128 := by decide +kernel
/-- R148: module 5's columns lie in line bytes 2,680 to 3,223, and with a page shift of 3 to 3,224. -/
theorem test_segment : segmentBytes base (mapBase base) 5 = (2680, 544)
    ∧ (let s := withSetting .grtBar (changed .grtBar [(2, 3)]); segmentBytes s (mapBase s) 5) = (2680, 545) := by
  decide +kernel
/-- R151: overlap column 8 of a join of 32, on bar line 1,000,005: the right module prints; on 47 lines of 64 the left. -/
theorem test_dither : keepLeft 8 32 1000005 = false
    ∧ ((List.range 64).filter fun (l : Nat) => keepLeft 8 32 l).length = 47 := by decide +kernel

/-- The Regulator of R163's example, row C of module 5 with its offset, lead of 80 µs and timing correction. -/
def scheduled : State :=
  let e := { base.enc.e0 with pos := 1999919 * 2 ^ 32 + 7 * 2 ^ 32 / 10, vel := 400000 * 2 ^ 32, acc := 20000, time := 5 * tpS }
  let s := withSetting (.rowOffset 5) (changed (.rowOffset 5) [(4, 0x00), (5, 0x20)]) (withEnc { base.enc with e0 := e })
  let s := withSetting .profile (changed .profile [(36, 0x00), (37, 0xB4), (38, 0xC4), (39, 0x04)]) s
  { s with esc := { s.esc with timing := [((5, 2), -1250)] } }
/-- R163: slot 2,000,000's boundary and rows C and D of module 5. -/
theorem test_fire_instants : boundaryInstant scheduled 2000000 = some ((5 * 10 ^ 9 + 200749) * 65536)
    ∧ rowInstant scheduled 2000000 5 2 = some ((5 * 10 ^ 9 + 121375) * 65536 + 0x4000)
    ∧ rowInstant scheduled 2000000 5 3 = some ((5 * 10 ^ 9 + 120749) * 65536) := by decide +kernel
/-- R190, R191: the FIRE of that slot's rows C and D under generation 17. -/
theorem test_fire_block : fireBlock true true false 17 2000000 (headTime ((5 * 10 ^ 9 + 121375) * 65536 + 0x4000))
    (headTime ((5 * 10 ^ 9 + 120749) * 65536)) = 0x0203111E848009503E60FA09503E4D68 := by decide +kernel
/-- R115: against a revolution of 40,000 an index at 39,999 adds one to the count, and one at 5 is a mismatch. -/
theorem test_index :
    let e := { base.enc.e0 with referenced := true, subrev := 39999, count := 39999 }
    let cfg := changed (.encInput 0) [(1, 5), (3, 2), (4, 0x40), (5, 0x9C), (6, 0), (7, 0)]
    let s := withSetting (.encInput 0) cfg (withEnc { base.enc with e0 := e })
    let u := withSetting (.encInput 0) cfg (withEnc { base.enc with e0 := { e with subrev := 5, count := 5 } })
    (encOf (encoderIndex 0 s) 0).count = 40000 ∧ (encOf (encoderIndex 0 s) 0).indexDev = -1
      ∧ ((encOf (encoderIndex 0 u) 0).causes.map (·.1)) = [4] ∧ (encOf (encoderIndex 0 u) 0).count = 5 := by
  decide +kernel
/-- The page of R215's example: job 0x1234, serials from 1,000,000, 8 lanes of 6,000 columns every 6,400 from 1,000. -/
def examplePage : Page :=
  let params := zeros 21 ++ [8] ++ zeros 2 ++ leBytes 2 1000 ++ leBytes 2 6400 ++ leBytes 2 6000 ++ zeros 2
    ++ leBytes 3 0x1234 ++ [0] ++ leBytes 8 1000000 ++ zeros 4
  { id := 1, params := params }
/-- R215: the ticket of row 3, lane 5. -/
theorem test_ticket : ticketId examplePage 3 5 = 0x00123400000F425D ∧ ticketColumns examplePage 5 = (33000, 38999) := by
  decide +kernel
/-- The ticket of R256's example. -/
def exampleTicket : InsTicket :=
  { id := 0, lo := 33000, hi := 38999, first := 500000, pitch := 1024, shift := 0, origin := 500000, data := []
    compare := cfgDefault .compare, fetchLo := 0, fetchHi := 52223 }
/-- R256: its whole cells less the guard, 498 by 83 of them, and its verdict. -/
theorem test_cells : ticketRows base exampleTicket = (41668, 41750) ∧ ticketCols exampleTicket = (2751, 3248)
    ∧ verdictOf exampleTicket.compare { included := 41334, inspected := 41334, passed := 41214 } = (1, 9970) := by decide +kernel
/-- R281: a module at 45.0 °C enters band 2, stays there at 44.1 and returns to band 1 at 43.9. -/
theorem test_bands : nextBand [-400, 350, 450] 10 1 450 = 2 ∧ nextBand [-400, 350, 450] 10 2 441 = 2
    ∧ nextBand [-400, 350, 450] 10 2 439 = 1 := by decide +kernel
/-- R294: address 677, current scale 128, frame count 2. -/
theorem test_setpoint : frameWord 677 128 2 = 0xB52C05 := by decide +kernel

/-! For each statement with hypotheses, a state and operands that meet them, clause by clause. -/

theorem witness_StepRunsFront :
    (∃ (c : Instr) (rest : List Instr) (s : State), s.pending = c :: rest) ∧
    (∃ (s : State), s.pending = []) :=
  ⟨⟨.identify (put []), [], { base with pending := [.identify (put [])] }, by decide +kernel⟩,
   ⟨base, by decide +kernel⟩⟩

theorem witness_HubCommandsComplete :
    (∃ c s, Accepted identifySpec c s) ∧
    (∃ c s, Accepted featureQuerySpec c s) ∧
    (∃ c s, Accepted featureAcceptSpec c s) ∧
    (∃ c s, Accepted modeSetSpec c s ∧ ¬(s.hub.mode = .drain ∧ u8 c.params 0 = 1)) ∧
    (∃ c s, Accepted modeSetSpec c s ∧ s.hub.mode = .drain ∧ u8 c.params 0 = 1) ∧
    (∃ c s, Accepted safeClearSpec c s) ∧
    (∃ c s, Accepted deviceResetSpec c s) ∧
    (∃ c s, Accepted configReadSpec c s) ∧
    (∃ c s, Accepted hostWatchdogSetSpec c s) :=
  ⟨⟨put [], base, accepted_of (by decide +kernel)⟩,
   ⟨put [], base, accepted_of (by decide +kernel)⟩,
   ⟨put (leBytes 4 0xFFFF ++ zeros 12), inBoot .ready, accepted_of (by decide +kernel)⟩,
   ⟨put ([2] ++ zeros 15), base, accepted_of (by decide +kernel), by decide +kernel⟩,
   ⟨put ([1] ++ zeros 15), inMode .drain, accepted_of (by decide +kernel), by decide +kernel, by decide +kernel⟩,
   ⟨put [], inMode .safe (withHub fun h => { h with safe := [{ bit := 1, block := 1, t := 5 }] }), accepted_of (by decide +kernel)⟩,
   ⟨put (leBytes 4 0xA55A), base, accepted_of (by decide +kernel)⟩,
   ⟨put [1, 0, 0, 0], base, accepted_of (by decide +kernel)⟩,
   ⟨put (leBytes 2 1000 ++ [1] ++ zeros 5), base, accepted_of (by decide +kernel)⟩⟩

theorem witness_UndefinedOpcodeAnswered :
    ∃ (op : BitVec 16) (c : Cmd) (s : State), specOf op.toNat = none ∧ Ready c s ∧ s.cal.runs = [] :=
  ⟨0x7777, put [], base, by decide +kernel, ready_of (by decide +kernel), by decide +kernel⟩

theorem witness_RefusedCommandChangesNothing :
    ∃ i op c d v s, opcodeRow i = some (op, c) ∧ specOf op = some d ∧ Ready c s ∧ s.cal.runs = [] ∧ headerOk d.isRead c s = true ∧ refusal d c (advance c.t s) = some v ∧ v.1 ≠ eOk ∧ v.1 ≠ ePending :=
  ⟨.identify (put [1]), 1, put [1], identifySpec, (eBadLength, []), base, rfl, rfl, ready_of (by decide +kernel), by decide +kernel, by decide +kernel, rfl, by decide +kernel, by decide +kernel⟩

theorem witness_BadHeaderRefused :
    ∃ i op c d s, opcodeRow i = some (op, c) ∧ specOf op = some d ∧ Ready c s ∧ s.cal.runs = [] ∧ headerOk d.isRead c s = false :=
  ⟨.identify { put [] with reserved := 1 }, 1, { put [] with reserved := 1 }, identifySpec, base, rfl, rfl, ready_of (by decide +kernel), by decide +kernel, by decide +kernel⟩

theorem witness_RingCommandsComplete :
    (∃ c s, Accepted ringEnumerateSpec c s) ∧
    (∃ c s, Accepted ringConfigSpec c s) ∧
    (∃ c s, Accepted ringPortSetSpec c s) ∧
    (∃ c s, Accepted ringPortStartSpec c s) ∧
    (∃ c s, Accepted ringPortStopSpec c s) :=
  ⟨⟨put [0, 0, 0, 0], { base with rng := portsUp }, accepted_of (by decide +kernel)⟩,
   ⟨put (changed .ringConfig [(0, 0)]), base, accepted_of (by decide +kernel)⟩,
   ⟨put [0, 1, 3, 0, 0, 0, 0, 0], base, accepted_of (by decide +kernel)⟩,
   ⟨put [0, 0, 0, 0], base, accepted_of (by decide +kernel)⟩,
   ⟨put [1, 0, 0, 0], { base with rng := portsUp }, accepted_of (by decide +kernel)⟩⟩

theorem witness_EnumerationRows :
    (∃ (h : RingHdr) (fill : Bool) (next : _) (units : List Assigned) (s : State), alive s = true ∧ Arrives h s ∧ s.rng.enum = none ∧ enumRefusal fill next units s = none) ∧
    (∃ (h : RingHdr) (e : Enumeration) (s : State), alive s = true ∧ Arrives h s ∧ s.rng.enum = some e ∧ e.serial = h.serial) ∧
    (∃ (h : RingHdr) (e : Enumeration) (s : State), alive s = true ∧ Arrives h s ∧ s.rng.enum = some e ∧ e.issuer = false ∧ e.adopt = none) ∧
    (∃ (t0 : Time) (e : Enumeration) (units : List Assigned) (at_ : _) (s : State), alive s = true ∧ s.rng.enum = some e ∧ e.adopt = some (units, at_) ∧ at_ ≤ max s.now t0) ∧
    (∃ (t0 : Time) (e : Enumeration) (s : State), alive s = true ∧ s.rng.enum = some e ∧ e.issuer = true ∧ e.adopt = none ∧ e.started + 10 * tpMs ≤ max s.now t0) ∧
    (∃ (t0 : Time) (e : Enumeration) (s : State), alive s = true ∧ s.rng.enum = some e ∧ e.issuer = false ∧ e.adopt = none ∧ e.started + commitTimeoutMs s * tpMs ≤ max s.now t0) :=
  ⟨⟨hdr, false, 2, [{ address := 1, serial := otherSerial }], { base with rng := portsUp }, by decide +kernel, arrives_of rfl (by decide +kernel), by decide +kernel, by decide +kernel⟩,
   ⟨hdr, joined, { base with rng := { portsUp with enum := some joined } }, by decide +kernel, arrives_of rfl (by decide +kernel), rfl, rfl⟩,
   ⟨hdr, joined, { base with rng := { portsUp with enum := some joined } }, by decide +kernel, arrives_of rfl (by decide +kernel), rfl, by decide +kernel, by decide +kernel⟩,
   ⟨11 * tpS, adopting, twoUnits, 10 * tpS, { base with rng := { portsUp with enum := some adopting } }, by decide +kernel, rfl, rfl, by decide +kernel⟩,
   ⟨11 * tpS, issued, { base with rng := { portsUp with enum := some issued } }, by decide +kernel, rfl, by decide +kernel, by decide +kernel, by decide +kernel⟩,
   ⟨11 * tpS, joined, { base with rng := { portsUp with enum := some joined } }, by decide +kernel, rfl, by decide +kernel, by decide +kernel, by decide +kernel⟩⟩

theorem witness_RingLinkRows :
    (∃ s, alive s = true) ∧
    (∃ (h : RingHdr) (upTo : BitVec 16) (s : State), alive s = true ∧ portUp s h.port = true ∧ (∃ k ∈ (ringPort s h.port).copies, k.hdr.seq = upTo)) ∧
    (∃ (h : RingHdr) (u : Assigned) (s : State), alive s = true ∧ Arrives h s ∧ s.rng.order.find? (fun u => u.serial = h.serial) = some u) ∧
    (∃ (p : RingPort) (s : State), alive s = true ∧ portUp s p = true) ∧
    (∃ (p : RingPort) (s : State), alive s = true ∧ ((ringPort s p).state = .hunt ∨ (ringPort s p).state = .failed)) ∧
    (∃ (r : Reroute) (s : State), alive s = true ∧ s.rng.reroute = some r) ∧
    (∃ (h : RingHdr) (s : State), alive s = true ∧ portUp s h.port = true ∧ ringTimed s = true) ∧
    (∃ (p : RingPort) (s : State), alive s = true ∧ ringTimed s = true ∧ portUp s p = true) :=
  ⟨⟨base, by decide +kernel⟩,
   ⟨hdr, 4, { base with rng := { portsUp with west := { state := .up, copies := [{ hdr := { hdr with seq := 4 }, body := .hopAck 0 }, { hdr := { hdr with seq := 5 }, body := .hopAck 0 }] } } }, by decide +kernel, by decide +kernel, by decide +kernel⟩,
   ⟨hdr, { address := 2, serial := otherSerial }, { base with rng := { portsUp with order := [{ address := 2, serial := otherSerial }] } }, by decide +kernel, arrives_of rfl (by decide +kernel), by simp [hdr]⟩,
   ⟨.east, { base with rng := portsUp }, by decide +kernel, by decide +kernel⟩,
   ⟨.east, { base with rng := { portsUp with east := { state := .hunt }, heldVoids := [.void 1 []] } }, by decide +kernel, by decide +kernel⟩,
   ⟨{ port := some .east, eastOf := 2, westOf := 4, last := 0 }, { base with rng := { portsUp with reroute := some { port := some .east, eastOf := 2, westOf := 4, last := 0 } } }, by decide +kernel, by decide +kernel⟩,
   ⟨hdr, { base with rng := portsUp }, by decide +kernel, by decide +kernel, by decide +kernel⟩,
   ⟨.west, { base with rng := portsUp }, by decide +kernel, by decide +kernel, by decide +kernel⟩⟩

theorem witness_RingRequestRows :
    (∃ h c s, Calm s ∧ Arrives h s ∧ twoPhase c = false ∧ headerOk true c s = true ∧ lengthOk identifySpec c = true ∧ s.hub.bistFailed = 0 ∧ h.src ≠ 31 ∧ (routes s h.src).any (portUp s) = true) ∧
    (∃ (h : RingHdr) (r : Reply) (x : Relay) (s : State), Calm s ∧ Arrives h s ∧ h.dst ≠ 31 ∧ s.rng.relays = [x] ∧ x.broadcast = false ∧ x.opcode = r.opcode.toNat ∧ x.cmd.seq = r.seq ∧ x.answers = [{ address := BitVec.ofNat 5 r.source.toNat }] ∧ s.bar0.heldReplies = [] ∧ canWriteReply s (replyEntries r) = true ∧ replyWanted x.cmd = true) ∧
    (∃ h s, alive s = true ∧ Arrives h s ∧ EventsOpen s) ∧
    (∃ (h : RingHdr) (g : TicketRange) (s : State), alive s = true ∧ Arrives h s ∧ s.ldg.tickets = [] ∧ s.mem.pages = [] ∧ s.rng.pendingVoid = [] ∧ 0 < g.count.toNat ∧ g.count.toNat ≤ 4096) ∧
    (∃ (t0 : Time) (h : RingHdr) (at_ : Nat) (s : State), alive s = true ∧ Arrives h s ∧ max s.now t0 + 2 * tpUs ≤ at_ ∧ s.mer.snaps = []) :=
  ⟨⟨toUs, { put [] with target := 3, flags := 3 }, { base with rng := { portsUp with map := [(2, { reachW := true })] } }, calm_of (by decide +kernel), arrives_of rfl (by decide +kernel), by decide +kernel, by decide +kernel, by decide +kernel, by decide +kernel, by decide +kernel, by decide +kernel⟩,
   ⟨toUs, { seq := 7, status := 0, opcode := 1, source := 2 }, relayed, { base with rng := { portsUp with relays := [relayed] } }, calm_of (by decide +kernel), arrives_of rfl (by decide +kernel), by decide +kernel, by decide +kernel, by decide +kernel, by decide +kernel, by decide +kernel, by decide +kernel, by decide +kernel, by decide +kernel, by decide +kernel⟩,
   ⟨hdr, { base with rng := portsUp }, by decide +kernel, arrives_of rfl (by decide +kernel), eventsOpen_of (by decide +kernel)⟩,
   ⟨hdr, { first := 5, count := 4096 }, { base with rng := portsUp }, by decide +kernel, arrives_of rfl (by decide +kernel), by decide +kernel, by decide +kernel, by decide +kernel, by decide +kernel, by decide +kernel⟩,
   ⟨11 * tpS, hdr, 12 * tpS, { base with rng := portsUp }, by decide +kernel, arrives_of rfl (by decide +kernel), by decide +kernel, by decide +kernel⟩⟩

theorem witness_TwoPhaseRows :
    (∃ h c s, Calm s ∧ Arrives h s ∧ s.rng.prepared = none ∧ s.hub.mode ≠ .boot ∧ s.hub.bistFailed = 0 ∧ s.hub.cfgCount ≠ 0xFFFFFFFF ∧ hasFeature s 8 = true ∧ twoPhase c = true ∧ headerOk false c s = true ∧ lengthOk ringConfigSpec c = true ∧ ringConfigSpec.value c.params s = true) ∧
    (∃ (h : RingHdr) (txn : BitVec 16) (p : Prepared) (s : State), Calm s ∧ Arrives h s ∧ s.rng.prepared = some p ∧ p.local_ = false ∧ p.txn = txn ∧ p.coord = h.src) ∧
    (∃ (h : RingHdr) (txn : BitVec 16) (p : Prepared) (s : State), Calm s ∧ Arrives h s ∧ s.rng.prepared = some p ∧ p.local_ = false ∧ p.txn = txn ∧ p.coord = h.src) ∧
    (∃ (t0 : Time) (p : Prepared) (at_ : Nat) (s : State), Calm s ∧ s.rng.prepared = some p ∧ p.opcode = 0x0102 ∧ p.commitAt = some at_ ∧ at_ ≤ max s.now t0) ∧
    (∃ (t0 : Time) (p : Prepared) (s : State), Calm s ∧ s.rng.prepared = some p ∧ p.local_ = false ∧ p.commitAt = none ∧ p.votedAt + p.timeoutMs * tpMs ≤ max s.now t0) ∧
    (∃ (h : RingHdr) (txn : BitVec 16) (x : CoordTxn) (a : Nat) (s : State), Calm s ∧ Arrives h s ∧ h.dst ≠ 31 ∧ s.rng.coords = [x] ∧ x.txn = txn ∧ x.answers = [{ address := h.src }] ∧ a = eOk ∧ x.aborted = false) ∧
    (∃ (t0 : Time) (x : CoordTxn) (s : State), Calm s ∧ s.rng.coords = [x] ∧ x.started + x.voteUs * tpUs ≤ max s.now t0 ∧ (∃ a ∈ x.answers, a.status = none)) ∧
    (∃ (t0 : Time) (x : Relay) (s : State), Calm s ∧ s.rng.relays = [x] ∧ x.sentAt + x.timeoutUs * tpUs ≤ max s.now t0) :=
  ⟨⟨hdr, ringChange, { base with rng := portsUp }, calm_of (by decide +kernel), arrives_of rfl (by decide +kernel), by decide +kernel, by decide +kernel, by decide +kernel, by decide +kernel, by decide +kernel, by decide +kernel, by decide +kernel, by decide +kernel, by decide +kernel⟩,
   ⟨hdr, 4, preparedChange, { base with rng := { portsUp with prepared := some preparedChange } }, calm_of (by decide +kernel), arrives_of rfl (by decide +kernel), by decide +kernel, by decide +kernel, by decide +kernel, by decide +kernel⟩,
   ⟨hdr, 4, preparedChange, { base with rng := { portsUp with prepared := some preparedChange } }, calm_of (by decide +kernel), arrives_of rfl (by decide +kernel), by decide +kernel, by decide +kernel, by decide +kernel, by decide +kernel⟩,
   ⟨11 * tpS, committedChange, 11 * tpS, { base with rng := { portsUp with prepared := some (committedChange) } }, calm_of (by decide +kernel), by decide +kernel, by decide +kernel, by decide +kernel, by decide +kernel⟩,
   ⟨11 * tpS, preparedChange, { base with rng := { portsUp with prepared := some preparedChange } }, calm_of (by decide +kernel), by decide +kernel, by decide +kernel, by decide +kernel, by decide +kernel⟩,
   ⟨toUs, 4, coordinated, 0, { base with rng := { portsUp with coords := [coordinated] } }, calm_of (by decide +kernel), arrives_of rfl (by decide +kernel), by decide +kernel, by decide +kernel, by decide +kernel, by decide +kernel, by decide +kernel, by decide +kernel⟩,
   ⟨11 * tpS, coordinated, { base with rng := { portsUp with coords := [coordinated] } }, calm_of (by decide +kernel), by decide +kernel, by decide +kernel, by decide +kernel⟩,
   ⟨11 * tpS, relayed, { base with rng := { portsUp with relays := [relayed] } }, calm_of (by decide +kernel), by decide +kernel, by decide +kernel⟩⟩

theorem witness_TimeCommandsComplete :
    (∃ c s, Accepted timeSourceSetSpec c s) ∧
    (∃ c s, Accepted ptpDomainSetSpec c s) ∧
    (∃ c s, Accepted netPortSetSpec c s) ∧
    (∃ c s, Accepted timeStepSpec c s) ∧
    (∃ c s, Accepted windowSetSpec c s ∧ (windowOf s (u8 c.params 0)).enabled = false) ∧
    (∃ c s, Accepted windowSetSpec c s ∧ (windowOf s (u8 c.params 0)).enabled = true) ∧
    (∃ c s, Accepted snapshotArmSpec c s) ∧
    (∃ c s, Accepted snapPinSetSpec c s) :=
  ⟨⟨put (changed .timeSource [(2, 1)]), base, accepted_of (by decide +kernel)⟩,
   ⟨put (changed (.ptp 0) [(0, 0)]), base, accepted_of (by decide +kernel)⟩,
   ⟨put (changed (.netPort 0) [(1, 0)]), base, accepted_of (by decide +kernel)⟩,
   ⟨put (leBytes 8 5 ++ zeros 8), withSetting .timeSource (changed .timeSource [(0, 1)]), accepted_of (by decide +kernel)⟩,
   ⟨put (changed (.window 3) [(1, 1)]), base, accepted_of (by decide +kernel), by decide +kernel⟩,
   ⟨put (changed (.window 0) [(6, 0)]), base, accepted_of (by decide +kernel), by decide +kernel⟩,
   ⟨put (zeros 10 ++ leBytes 6 20), base, accepted_of (by decide +kernel)⟩,
   ⟨put (changed .snapPin [(4, 9)]), base, accepted_of (by decide +kernel)⟩⟩

theorem witness_TimeRows :
    (∃ (b : Fin 16) (l : Nat) (r : Nat) (s : State), alive s = true ∧ r * islandKHz s b.val ≤ 1000000000 ∧ (b.val, l) ∉ s.mer.badIslands) ∧
    (∃ (b : Fin 16) (l : Nat) (r : Nat) (s : State), alive s = true ∧ 1000000000 < r * islandKHz s b.val ∧ (b.val, l) ∉ s.mer.badIslands) ∧
    (∃ s, alive s = true) ∧
    (∃ (ppm : Int) (s : State), alive s = true ∧ ppm.natAbs ≤ 1000) ∧
    (∃ (t0 : Time) (delta : Int) (at_ : Nat) (s : State), alive s = true ∧ s.mer.step = some (delta, at_) ∧ stepPermitted s = true ∧ ceilTo tpUs (at_ + tpUs) ≤ max s.now t0) ∧
    (∃ (t0 : Time) (g : Fin 8) (s : State), alive s = true ∧ (windowOf s g).enabled = true ∧ (windowOf s g).waiting = [] ∧ gridStart (windowOf s g).period (windowOf s g).origin ((windowOf s g).index + 1) ≤ max s.now t0) ∧
    (∃ (t0 : Time) (p : SnapPending) (rest : List SnapPending) (s : State), Calm s ∧ s.mer.snaps = p :: rest ∧ p ∉ rest ∧ p.t ≤ max s.now t0) ∧
    (∃ (c : SnapCopy) (s : State), alive s = true ∧ s.hub.snapQueue = [c]) ∧
    (∃ s, alive s = true ∧ bit (u8 (cfgGet s .snapPin) 0) 0 = true ∧ s.mer.snapEdge = none) ∧
    (∃ (t0 : Time) (e : Nat) (s : State), alive s = true ∧ s.mer.snapEdge = some e ∧ e + snapFilter s ≤ max s.now t0 ∧ s.mer.snaps = []) ∧
    (∃ (t0 : Time) (e : Nat) (l : Bool) (s : State), alive s = true ∧ s.mer.snapOut = some (e, l) ∧ e ≤ max s.now t0) :=
  ⟨⟨2, 1, 3, base, by decide +kernel, by decide +kernel, by decide +kernel⟩,
   ⟨2, 1, 40000, base, by decide +kernel, by decide +kernel, by decide +kernel⟩,
   ⟨base, by decide +kernel⟩,
   ⟨-50, base, by decide +kernel, by decide +kernel⟩,
   ⟨11 * tpS, -5, 10 * tpS, withMer { step := some (-5, 10 * tpS), snaps := [{ t := 1, source := 0 }] }, by decide +kernel, by decide +kernel, by decide +kernel, by decide +kernel⟩,
   ⟨11 * tpS, 0, withMer { windows := [(0, { enabled := true, index := 4 })] }, by decide +kernel, by decide +kernel, by decide +kernel, by decide +kernel⟩,
   ⟨11 * tpS, { t := 10 * tpS, source := 1 }, [{ t := 12 * tpS, source := 0 }], withMer { snaps := [{ t := 10 * tpS, source := 1 }, { t := 12 * tpS, source := 0 }] }, calm_of (by decide +kernel), by decide +kernel, by decide +kernel, by decide +kernel⟩,
   ⟨{ t := 10 * tpS, source := 1, words := [] }, withHub fun h => { h with snapSeq := 1, snapQueue := [{ t := 10 * tpS, source := 1, words := [] }] }, by decide +kernel, by decide +kernel⟩,
   ⟨withSetting .snapPin (changed .snapPin [(0, 1)]), by decide +kernel, by decide +kernel, by decide +kernel⟩,
   ⟨11 * tpS, 10 * tpS, { withSetting .snapPin (changed .snapPin [(0, 1)]) with mer := { snapEdge := some (10 * tpS) } }, by decide +kernel, by decide +kernel, by decide +kernel, by decide +kernel⟩,
   ⟨11 * tpS, 10 * tpS, true, withMer { snapOut := some (10 * tpS, true) }, by decide +kernel, by decide +kernel, by decide +kernel⟩⟩

theorem witness_PtpRows :
    (∃ (d : Fin 2) (s : State), alive s = true ∧ ((ptpOf s d).state = 8 ∨ (ptpOf s d).state = 9)) ∧
    (∃ (d : Fin 2) (a : Announce) (s : State), alive s = true ∧ (ptpOf s d).state = 4 ∧ a.selected = true) ∧
    (∃ (d : Fin 2) (s : State), alive s = true ∧ (ptpOf s d).state ≠ 3 ∧ (ptpOf s d).state ≠ 2) ∧
    (∃ (d : Fin 2) (s : State), alive s = true ∧ (ptpOf s d).state ≠ 3 ∧ (ptpOf s d).state ≠ 2 ∧ ptpPeer s d = true) ∧
    (∃ (d : Fin 2) (s : State), alive s = true ∧ ((ptpOf s d).state = 8 ∨ (ptpOf s d).state = 9)) ∧
    (∃ (t0 : Time) (d : Fin 2) (s : State), alive s = true ∧ (ptpOf s d).state = 9 ∧ (ptpOf s d).lastSync + 8 * logPeriod (s8 (ptpCfg s d) 6) ≤ max s.now t0) ∧
    (∃ (t0 : Time) (d : Fin 2) (s : State), alive s = true ∧ ((ptpOf s d).state = 8 ∨ (ptpOf s d).state = 9) ∧ (ptpOf s d).lastAnnounce + 3 * logPeriod (s8 (ptpCfg s d) 7) ≤ max s.now t0) ∧
    (∃ t0 s, alive s = true ∧ policyFree s = false ∧ ringTimed s = false ∧ preferred s = 0 ∧ isSlave s 0 = true ∧ revertSet s = true ∧ s.mer.ptpA.slaveSince + holdoff s ≤ max s.now t0) ∧
    (∃ s, alive s = true) ∧
    (∃ s, alive s = true) :=
  ⟨⟨0, withMer { ptpA := { state := 8, inLock := 15 } }, by decide +kernel, by decide +kernel⟩,
   ⟨0, { grandmaster := 5, clockClass := 6, accuracy := 7, stepsRemoved := 1, utcOffset := 37, selected := true }, withMer { ptpA := { state := 4 } }, by decide +kernel, by decide +kernel, by decide +kernel⟩,
   ⟨0, withMer { ptpA := { state := 8 } }, by decide +kernel, by decide +kernel, by decide +kernel⟩,
   ⟨0, { withSetting (.ptp 0) (changed (.ptp 0) [(1, 16)]) with mer := { ptpA := { state := 9 } } }, by decide +kernel, by decide +kernel, by decide +kernel, by decide +kernel⟩,
   ⟨0, withMer { ptpA := { state := 8 } }, by decide +kernel, by decide +kernel⟩,
   ⟨13 * tpS, 0, withMer { ptpA := { state := 9 } }, by decide +kernel, by decide +kernel, by decide +kernel⟩,
   ⟨20 * tpS, 0, withMer { ptpA := { state := 9 } }, by decide +kernel, by decide +kernel, by decide +kernel⟩,
   ⟨13 * tpS, { withSetting .timeSource (changed .timeSource [(0, 0), (2, 1)]) with mer := { ptpA := { state := 9 } } }, by decide +kernel, by decide +kernel, by decide +kernel, by decide +kernel, by decide +kernel, by decide +kernel, by decide +kernel⟩,
   ⟨{ withSetting (.netPort 0) (changed (.netPort 0) [(1, 3)]) with mer := { linkUp0 := true, ptpA := { state := 2 } } }, by decide +kernel⟩,
   ⟨base, by decide +kernel⟩⟩

theorem witness_EncoderCommandsComplete :
    (∃ c s, Accepted encInputSetRow c s) ∧
    (∃ c s, Accepted regulatorSetRow c s) ∧
    (∃ c s, Accepted encActiveSetRow c s) ∧
    (∃ c s, Accepted pulseSetSpec c s) :=
  ⟨⟨put (changed (.encInput 0) [(3, 4)]), base, accepted_of (by decide +kernel)⟩,
   ⟨put (changed .regulator [(2, 5)]), base, accepted_of (by decide +kernel)⟩,
   ⟨put [0, 0, 0, 0], withEnc { e0 := { reg := 2 } }, accepted_of (by decide +kernel)⟩,
   ⟨put (changed .pulse [(0, 1)]), base, accepted_of (by decide +kernel)⟩⟩

theorem witness_EncoderRows :
    (∃ (x : Fin 2) (s : State), Calm s ∧ encEnabled s x = true) ∧
    (∃ (x : Fin 2) (s : State), Calm s ∧ encEnabled s x = true) ∧
    (∃ (x : Fin 2) (s : State), Calm s ∧ encEnabled s x = false) ∧
    (∃ (x : Fin 2) (s : State), Calm s ∧ encEnabled s x = true ∧ bit (u8 (encCfg s x) 1) 2 = true ∧ (encOf s x).referenced = false) ∧
    (∃ (x : Fin 2) (s : State), Calm s ∧ encEnabled s x = true ∧ (encOf s x).causes = []) ∧
    (∃ (t0 : Time) (x : Fin 2) (k : Fin 6) (u : Nat) (s : State), Calm s ∧ k.val < 3 ∧ (encOf s x).causes = [(k.val, u)] ∧ u + clearHold k.val ≤ max s.now t0) ∧
    (∃ (t0 : Time) (x : Fin 2) (s : State), Calm s ∧ encEnabled s x = true ∧ (encOf s x).standstill = false ∧ standstillAt s x ≤ max s.now t0) ∧
    (∃ s, Calm s ∧ (encOf s (activeEnc s)).standstill = true ∧ s.enc.latched = false ∧ (encHealthy s 0 && encHealthy s 1 && regReady s 0 && regReady s 1) = true) ∧
    (∃ (t0 : Time) (e : Nat) (s : State), alive s = true ∧ s.enc.pulseEnd = some e ∧ e ≤ max s.now t0) ∧
    (∃ (n : Int) (s : State), Calm s ∧ s.enc.switch = none ∧ s.hub.mode = .standby ∧ s.esc.hwm < n ∧ s.cal.laid = []) :=
  ⟨⟨0, withEnc { e0 := { reg := 2 } }, calm_of (by decide +kernel), by decide +kernel⟩,
   ⟨0, withEnc { e0 := { reg := 2 } }, calm_of (by decide +kernel), by decide +kernel⟩,
   ⟨1, base, calm_of (by decide +kernel), by decide +kernel⟩,
   ⟨0, withEnc { e0 := { reg := 2 } }, calm_of (by decide +kernel), by decide +kernel, by decide +kernel, by decide +kernel⟩,
   ⟨0, base, calm_of (by decide +kernel), by decide +kernel, by decide +kernel⟩,
   ⟨11 * tpS, 0, 2, 10 * tpS, withEnc { e0 := { causes := [(2, 10 * tpS)] } }, calm_of (by decide +kernel), by decide +kernel, by decide +kernel, by decide +kernel⟩,
   ⟨20 * tpS, 0, withEnc { e0 := { reg := 2 } }, calm_of (by decide +kernel), by decide +kernel, by decide +kernel, by decide +kernel⟩,
   ⟨{ withSetting (.encInput 1) (changed (.encInput 1) [(1, 1)]) with enc := { e0 := { reg := 3, standstill := true }, e1 := { reg := 3 } } }, calm_of (by decide +kernel), by decide +kernel, by decide +kernel, by decide +kernel⟩,
   ⟨11 * tpS, 10 * tpS, withEnc { pulseEnd := some (10 * tpS), pulseWaiting := 2 }, by decide +kernel, by decide +kernel, by decide +kernel⟩,
   ⟨9, base, calm_of (by decide +kernel), by decide +kernel, by decide +kernel, by decide +kernel, by decide +kernel⟩⟩

theorem witness_RingEnableRows :
    (∃ s, alive s = true ∧ s.bar0.cmd.enabled = false ∧ s.bar0.cmd.error = false ∧ enableError .cmd s = none ∧ s.bar0.heldReplies = [] ∧ s.bar0.buffer = []) ∧
    (∃ (code : Nat) (s : State), alive s = true ∧ s.bar0.cmd.enabled = false ∧ s.bar0.cmd.error = false ∧ enableError .cmd s = some code) ∧
    (∃ s, alive s = true) ∧
    (∃ s, Calm s ∧ s.bar0.rpl.enabled = false ∧ s.bar0.rpl.error = false ∧ enableError .rpl s = none ∧ s.bar0.heldReplies = [] ∧ s.bar0.buffer = []) ∧
    (∃ s, alive s = true) ∧
    (∃ s, alive s = true ∧ s.bar0.evt.enabled = false ∧ s.bar0.evt.error = false ∧ enableError .evt s = none ∧ s.bar0.heldReplies = [] ∧ s.bar0.buffer = []) ∧
    (∃ s, alive s = true) :=
  ⟨⟨withBar0 fun b => { b with cmd := { base := 0x100000, size := 4096 } }, by decide +kernel, by decide +kernel, by decide +kernel, by decide +kernel, by decide +kernel, by decide +kernel⟩,
   ⟨1, withBar0 fun b => { b with cmd := { base := 0x100040, size := 4096 } }, by decide +kernel, by decide +kernel, by decide +kernel, by decide +kernel⟩,
   ⟨base, by decide +kernel⟩,
   ⟨withBar0 fun b => { b with cmd := {}, rpl := { base := 0x100000, size := 4096 } }, calm_of (by decide +kernel), by decide +kernel, by decide +kernel, by decide +kernel, by decide +kernel, by decide +kernel⟩,
   ⟨base, by decide +kernel⟩,
   ⟨withBar0 fun b => { b with evt := { base := 0x100000, size := 4096 } }, by decide +kernel, by decide +kernel, by decide +kernel, by decide +kernel, by decide +kernel, by decide +kernel⟩,
   ⟨base, by decide +kernel⟩⟩

theorem witness_DoorbellRows :
    (∃ (v : BitVec 32) (s : State), Calm s ∧ ringUsable s.bar0.cmd = true ∧ v.toNat < s.bar0.cmd.size.toNat) ∧
    (∃ (v : BitVec 32) (s : State), Calm s ∧ ringUsable s.bar0.cmd = true ∧ s.bar0.cmd.size.toNat ≤ v.toNat) ∧
    (∃ (v : BitVec 32) (s : State), Calm s ∧ ringUsable s.bar0.cmd = true ∧ v.toNat < s.bar0.cmd.size.toNat ∧ v.toNat ≠ s.bar0.cmd.idx) ∧
    (∃ (v : BitVec 32) (s : State), Calm s ∧ ringUsable s.bar0.rpl = true ∧ v.toNat < s.bar0.rpl.size.toNat ∧ inUse s.bar0.rpl.size.toNat v.toNat s.bar0.rpl.other ≤ inUse s.bar0.rpl.size.toNat s.bar0.rpl.idx s.bar0.rpl.other ∧ s.bar0.heldReplies = [] ∧ s.bar0.buffer = []) ∧
    (∃ (v : BitVec 32) (s : State), Calm s ∧ ringUsable s.bar0.rpl = true ∧ s.bar0.rpl.size.toNat ≤ v.toNat) ∧
    (∃ (v : BitVec 32) (s : State), alive s = true ∧ ringUsable s.bar0.evt = true ∧ v.toNat < s.bar0.evt.size.toNat ∧ inUse s.bar0.evt.size.toNat v.toNat s.bar0.evt.other ≤ inUse s.bar0.evt.size.toNat s.bar0.evt.idx s.bar0.evt.other ∧ s.bar0.heldReplies = [] ∧ s.bar0.buffer = []) ∧
    (∃ (v : BitVec 32) (s : State), alive s = true ∧ ringUsable s.bar0.evt = true ∧ s.bar0.evt.size.toNat ≤ v.toNat) :=
  ⟨⟨0, base, calm_of (by decide +kernel), by decide +kernel, by decide +kernel⟩,
   ⟨4096, base, calm_of (by decide +kernel), by decide +kernel, by decide +kernel⟩,
   ⟨4095, base, calm_of (by decide +kernel), by decide +kernel, by decide +kernel, by decide +kernel⟩,
   ⟨5, withBar0 fun b => { b with rpl := { ringOn true with idx := 5 } }, calm_of (by decide +kernel), by decide +kernel, by decide +kernel, by decide +kernel, by decide +kernel, by decide +kernel⟩,
   ⟨4096, base, calm_of (by decide +kernel), by decide +kernel, by decide +kernel⟩,
   ⟨5, withBar0 fun b => { b with evt := { ringOn true with idx := 5 } }, by decide +kernel, by decide +kernel, by decide +kernel, by decide +kernel, by decide +kernel, by decide +kernel⟩,
   ⟨4096, base, by decide +kernel, by decide +kernel, by decide +kernel⟩⟩

theorem witness_HostInterfaceRows :
    (∃ s, Calm s) ∧
    (∃ s, Calm s ∧ s.bar0.cmd.enabled = false) ∧
    (∃ s, Calm s ∧ s.bar0.cmd.enabled = false) ∧
    (∃ (off : Nat) (n : Nat) (s : State), Calm s ∧ (n ≠ 4 ∨ off % 4 ≠ 0) ∧ (n ≠ 8 ∨ off % 8 ≠ 0)) ∧
    (∃ (t0 : Time) (n : Fin 5) (s : State), alive s = true ∧ n.val < 3 ∧ 0 < (tget {} s.bar0.sources n.val).count ∧ (tget {} s.bar0.sources n.val).oldest + coalTime s n.val ≤ max s.now t0 ∧ bit (intMapOf s n.val) 8 = true ∧ vectorMasked s (bits (intMapOf s n.val) 5 0) = false ∧ dmaOk s = true) ∧
    (∃ (v : Fin 64) (s : State), alive s = true ∧ s.bar0.pba = [v.val] ∧ dmaOk s = true) ∧
    (∃ t0 s, Calm s ∧ heartbeatCounts s = true ∧ s.hub.heartbeatMs < max s.now t0 / tpMs) ∧
    (∃ t0 s, Calm s ∧ wdPeriod s ≠ 0 ∧ (∀ d, s.hub.wdDeadline = some d → max s.now t0 < d)) ∧
    (∃ s, Calm s) ∧
    (∃ s, Calm s ∧ s.link.up = true) ∧
    (∃ s, Calm s) ∧
    (∃ s, Calm s) ∧
    (∃ s, Calm s) ∧
    (∃ s, Calm s) ∧
    (∃ s, Calm s) :=
  ⟨⟨base, calm_of (by decide +kernel)⟩,
   ⟨withBar0 fun b => { b with cmd := {} }, calm_of (by decide +kernel), by decide +kernel⟩,
   ⟨withBar0 fun b => { b with cmd := {} }, calm_of (by decide +kernel), by decide +kernel⟩,
   ⟨0x1002, 8, base, calm_of (by decide +kernel), by decide +kernel, by decide +kernel⟩,
   ⟨13 * tpS, 0, withBar0 fun b => { b with intMap := [(0, 0x105)], msix := [(23, 0)], sources := [(0, { count := 2, oldest := 10 * tpS })] }, by decide +kernel, by decide +kernel, by decide +kernel, by decide +kernel, by decide +kernel, by decide +kernel, by decide +kernel⟩,
   ⟨5, withBar0 fun b => { b with pba := [5] }, by decide +kernel, by decide +kernel, by decide +kernel⟩,
   ⟨11 * tpS, base, calm_of (by decide +kernel), by decide +kernel, by decide +kernel⟩,
   ⟨11 * tpS, withSetting .hub (leBytes 2 1000 ++ [1] ++ zeros 5), calm_of (by decide +kernel), by decide +kernel, by simp [withSetting, base, State.reset]⟩,
   ⟨base, calm_of (by decide +kernel)⟩,
   ⟨base, calm_of (by decide +kernel), by decide +kernel⟩,
   ⟨base, calm_of (by decide +kernel)⟩,
   ⟨base, calm_of (by decide +kernel)⟩,
   ⟨{ base with link := { busMaster := false } }, calm_of (by decide +kernel)⟩,
   ⟨base, calm_of (by decide +kernel)⟩,
   ⟨{ base with link := { d3hot := true } }, calm_of (by decide +kernel)⟩⟩

theorem witness_ModeTransitionRows :
    (∃ (t0 : Time) (x : Transition) (s : State), Calm s ∧ s.hub.mode = .boot ∧ s.hub.trans = some x ∧ x.target = .standby ∧ (∃ i, x.due = .instant i ∧ i ≤ max s.now t0) ∧ s.hub.bootFaults = 0 ∧ s.hub.safe = []) ∧
    (∃ (t0 : Time) (x : Transition) (s : State), Calm s ∧ setupModes s.hub.mode = true ∧ s.hub.trans = some x ∧ setupModes x.target = true ∧ (∃ i, x.due = .instant i ∧ i ≤ max s.now t0) ∧ s.hub.safe = []) ∧
    (∃ (t0 : Time) (x : Transition) (s : State), alive s = true ∧ s.cal.runs = [] ∧ s.cal.spareHome = none ∧ s.bar0.placed = [] ∧ setupModes s.hub.mode = true ∧ s.hub.auto = some x ∧ x.target = .safe ∧ (∃ i, x.due = .instant i ∧ i ≤ max s.now t0)) ∧
    (∃ s, Calm s ∧ s.hub.trans = none ∧ s.hub.mode ≠ .armed) :=
  ⟨⟨11 * tpS, { target := .standby, due := .instant (10 * tpS), cause := 1, origin := 1, seq := 0 }, inBoot .ready (withHub fun h => { h with trans := some { target := .standby, due := .instant (10 * tpS), cause := 1, origin := 1, seq := 0 } }), calm_of (by decide +kernel), by decide +kernel, rfl, by decide +kernel, ⟨10 * tpS, rfl, by decide +kernel⟩, by decide +kernel, by decide +kernel⟩,
   ⟨11 * tpS, { target := .service, due := .instant (10 * tpS), cause := 0, origin := 1, seq := 0 }, withHub fun h => { h with trans := some { target := .service, due := .instant (10 * tpS), cause := 0, origin := 1, seq := 0 } }, calm_of (by decide +kernel), by decide +kernel, rfl, by decide +kernel, ⟨10 * tpS, rfl, by decide +kernel⟩, by decide +kernel⟩,
   ⟨11 * tpS, { target := .safe, due := .instant (10 * tpS), cause := 3, origin := 1, seq := 0 }, withHub fun h => { h with auto := some { target := .safe, due := .instant (10 * tpS), cause := 3, origin := 1, seq := 0 } }, by decide +kernel, by decide +kernel, by decide +kernel, by decide +kernel, by decide +kernel, rfl, by decide +kernel, ⟨10 * tpS, rfl, by decide +kernel⟩⟩,
   ⟨base, calm_of (by decide +kernel), by decide +kernel, by decide +kernel⟩⟩

theorem witness_ModeCauseRows :
    (∃ t0 s, Calm s ∧ drainDone (advance t0 s) = true ∧ s.hub.safe = []) ∧
    (∃ (t0 : Time) (r : Resume) (s : State), Calm s ∧ s.hub.mode = .armed ∧ s.hub.resume = some r ∧ s.hub.trans = none ∧ resumeHolds (advance t0 s) r.cause = true ∧ webForward s = true ∧ rateOk (advance t0 s) = true ∧ s.hub.interlockOpen = false) ∧
    (∃ (t0 : Time) (d : Nat) (s : State), Calm s ∧ s.hub.wdDeadline = some d ∧ d ≤ max s.now t0 ∧ u8 (cfgGet s .hub) 2 = 0) ∧
    (∃ (t0 : Time) (d : Nat) (s : State), Calm s ∧ s.hub.wdDeadline = some d ∧ d ≤ max s.now t0 ∧ u8 (cfgGet s .hub) 2 = 2 ∧ setupModes s.hub.mode = true ∧ s.hub.trans = none) ∧
    (∃ (t0 : Time) (since : Nat) (s : State), Calm s ∧ s.hub.interlockOpen = false ∧ since + 10 * tpUs ≤ max s.now t0 ∧ s.hub.mode ≠ .boot ∧ s.hub.mode ≠ .safe) ∧
    (∃ (t0 : Time) (since : Nat) (s : State), Calm s ∧ since + 10 * tpMs ≤ max s.now t0 ∧ (∀ c ∈ s.hub.safe, c.bit = 0 → c.block = 0x01)) :=
  ⟨⟨11 * tpS, inMode .drain, calm_of (by decide +kernel), by decide +kernel, by decide +kernel⟩,
   ⟨11 * tpS, { cause := 4 }, inMode .armed (withHub fun h => { h with resume := some { cause := 4 } }), calm_of (by decide +kernel), by decide +kernel, by decide +kernel, by decide +kernel, by decide +kernel, by decide +kernel, by decide +kernel, by decide +kernel⟩,
   ⟨11 * tpS, 11 * tpS, { withSetting .hub (leBytes 2 1000 ++ zeros 6) with hub := { base.hub with wdDeadline := some (11 * tpS) } }, calm_of (by decide +kernel), by decide +kernel, by decide +kernel, by decide +kernel⟩,
   ⟨11 * tpS, 11 * tpS, { withSetting .hub (leBytes 2 1000 ++ [2] ++ zeros 5) with hub := { base.hub with wdDeadline := some (11 * tpS) } }, calm_of (by decide +kernel), by decide +kernel, by decide +kernel, by decide +kernel, by decide +kernel, by decide +kernel⟩,
   ⟨11 * tpS, 11 * tpS - 10 * tpUs, base, calm_of (by decide +kernel), by decide +kernel, by decide +kernel, by decide +kernel, by decide +kernel⟩,
   ⟨11 * tpS, 11 * tpS - 10 * tpMs, withHub fun h => { h with interlockOpen := true, safe := [{ bit := 0, block := 1, t := 5 }] }, calm_of (by decide +kernel), by decide +kernel, by decide +kernel⟩⟩

theorem witness_BootRows :
    (∃ s, Calm s ∧ s.hub.mode = .boot ∧ s.hub.bootState = .rom) ∧
    (∃ s, Calm s ∧ s.hub.mode = .boot ∧ s.hub.bootState = .image ∧ s.nvm.preferredB = false ∧ imageReason s false 0 = 0) ∧
    (∃ (rA : Nat) (rB : Nat) (s : State), Calm s ∧ s.hub.mode = .boot ∧ s.hub.bootState = .image ∧ rA ≠ 0 ∧ rB ≠ 0) ∧
    (∃ s, Calm s ∧ s.hub.mode = .boot ∧ s.hub.bootState = .selftest) ∧
    (∃ (failed : BitVec 16) (s : State), Calm s ∧ s.hub.mode = .boot ∧ s.hub.bootState = .selftest ∧ bit failed.toNat 1 = true) ∧
    (∃ s, Calm s ∧ s.hub.mode = .boot ∧ s.hub.bootState = .nvm) ∧
    (∃ s, Calm s ∧ s.hub.mode = .boot ∧ s.hub.bootState = .dram) ∧
    (∃ s, Calm s ∧ s.hub.mode = .boot ∧ s.hub.bootState = .recovery) :=
  ⟨⟨inBoot .rom, calm_of (by decide +kernel), by decide +kernel, by decide +kernel⟩,
   ⟨inBoot .image, calm_of (by decide +kernel), by decide +kernel, by decide +kernel, by decide +kernel, by decide +kernel⟩,
   ⟨2, 3, inBoot .image, calm_of (by decide +kernel), by decide +kernel, by decide +kernel, by decide +kernel, by decide +kernel⟩,
   ⟨inBoot .selftest, calm_of (by decide +kernel), by decide +kernel, by decide +kernel⟩,
   ⟨2, inBoot .selftest, calm_of (by decide +kernel), by decide +kernel, by decide +kernel, by decide +kernel⟩,
   ⟨inBoot .nvm, calm_of (by decide +kernel), by decide +kernel, by decide +kernel⟩,
   ⟨inBoot .dram, calm_of (by decide +kernel), by decide +kernel, by decide +kernel⟩,
   ⟨inBoot .recovery, calm_of (by decide +kernel), by decide +kernel, by decide +kernel⟩⟩

theorem witness_ResetRows :
    (∃ (s : State), s.mss.shutdown = none) ∧
    (∃ (s : State), s.mss.coreOff = false) ∧
    (∃ (s : State), s.hub.inReset = true) ∧
    (∃ (s : State), s.hub.inReset = true) ∧
    (∃ (t0 : Time) (at_ : Nat) (s : State), alive s = true ∧ s.hub.resetAt = some at_ ∧ at_ ≤ max s.now t0) ∧
    (∃ (t0 : Time) (k : Nat) (at_ : Nat) (s : State), alive s = true ∧ s.mss.shutdown = some (k, at_) ∧ (k = 3 ∨ k = 4) ∧ at_ + 2 * tpMs ≤ max s.now t0) ∧
    (∃ (at_ : Nat) (s : State), s.mss.shutdown = some (2, at_) ∧ s.mss.coreOff = true) :=
  ⟨⟨base, by decide +kernel⟩,
   ⟨base, by decide +kernel⟩,
   ⟨withHub fun h => { h with inReset := true }, by decide +kernel⟩,
   ⟨withHub fun h => { h with inReset := true }, by decide +kernel⟩,
   ⟨11 * tpS, 10 * tpS, withHub fun h => { h with resetAt := some (10 * tpS) }, by decide +kernel, by decide +kernel, by decide +kernel⟩,
   ⟨11 * tpS, 3, 10 * tpS, withMss { shutdown := some (3, 10 * tpS) }, by decide +kernel, by decide +kernel, by decide +kernel, by decide +kernel⟩,
   ⟨10 * tpS, withMss { shutdown := some (2, 10 * tpS), coreOff := true }, by decide +kernel, by decide +kernel⟩⟩

theorem witness_ManagementCommandsComplete :
    (∃ c s, Accepted mssConfigSetSpec c s) ∧
    (∃ c s, Accepted mssKeyReadSpec c s) ∧
    (∃ c s, Accepted mssUpdateBeginSpec c s) ∧
    (∃ c s, Accepted mssUpdateWriteSpec c s) ∧
    (∃ c s, Accepted mssUpdateVerifySpec c s) ∧
    (∃ c s, Accepted mssUpdateActivateSpec c s) ∧
    (∃ c s, Accepted mssRollbackFenceSpec c s) ∧
    (∃ c s, Accepted mssSealSpec c s) ∧
    (∃ c s, Accepted mssLogReadSpec c s ∧ s.nvm.anchor.length = 32) ∧
    (∃ c s, Accepted attestSpec c s) :=
  ⟨⟨put (changed .mss [(1, 9)]), base, accepted_of (by decide +kernel)⟩,
   ⟨put [], base, accepted_of (by decide +kernel)⟩,
   ⟨put (zeros 4), base, accepted_of (by decide +kernel)⟩,
   ⟨put (zeros 72), withMss { update := .writing }, accepted_of (by decide +kernel)⟩,
   ⟨put [], withMss { update := .writing }, accepted_of (by decide +kernel)⟩,
   ⟨put [1, 0, 0, 0], withMss { update := .verified }, accepted_of (by decide +kernel)⟩,
   ⟨put (leBytes 4 0xF3CE ++ leBytes 4 2), base, accepted_of (by decide +kernel)⟩,
   ⟨put (leBytes 4 0x5EA10D1E), base, accepted_of (by decide +kernel)⟩,
   ⟨put (zeros 8 ++ [1, 0, 0, 0]), { base with nvm := { logCount := 1, log := [{ event := zeros 32, h := zeros 32 }] } }, accepted_of (by decide +kernel), by decide +kernel⟩,
   ⟨put (zeros 32), base, accepted_of (by decide +kernel)⟩⟩

theorem witness_FirmwareRows :
    (∃ s, alive s = true ∧ s.mss.erasing = true ∧ s.nvm.failed0 = false) ∧
    (∃ s, alive s = true ∧ s.mss.verifying = true) ∧
    (∃ (t0 : Time) (a : Activation) (at_ : Nat) (s : State), alive s = true ∧ s.mss.activation = some a ∧ a.live = true ∧ a.notBefore = none ∧ a.t = some at_ ∧ at_ ≤ max s.now t0 ∧ s.hub.safe = []) ∧
    (∃ (t0 : Time) (d : Nat) (s : State), alive s = true ∧ s.mss.trial = some d ∧ max s.now t0 ≤ d ∧ s.mss.trialOver = false) ∧
    (∃ (t0 : Time) (d : Nat) (s : State), alive s = true ∧ s.mss.trial = some d ∧ d ≤ max s.now t0 ∧ s.hub.mode ≠ .print ∧ s.hub.mode ≠ .drain) ∧
    (∃ s, alive s = true ∧ s.mss.trialOver = true) :=
  ⟨⟨withMss { erasing := true }, by decide +kernel, by decide +kernel, by decide +kernel⟩,
   ⟨withMss { verifying := true }, by decide +kernel, by decide +kernel⟩,
   ⟨11 * tpS, { live := true, t := some (10 * tpS) }, 10 * tpS, withMss { activation := some { live := true, t := some (10 * tpS) } }, by decide +kernel, by decide +kernel, by decide +kernel, by decide +kernel, by decide +kernel, by decide +kernel, by decide +kernel⟩,
   ⟨11 * tpS, 11 * tpS, withMss { trial := some (11 * tpS) }, by decide +kernel, by decide +kernel, by decide +kernel, by decide +kernel⟩,
   ⟨11 * tpS, 11 * tpS, withMss { trial := some (11 * tpS) }, by decide +kernel, by decide +kernel, by decide +kernel, by decide +kernel, by decide +kernel⟩,
   ⟨withMss { trialOver := true }, by decide +kernel, by decide +kernel⟩⟩

theorem witness_ManagementRows :
    (∃ (b : Bool) (rest : List JournalRec) (s : State), alive s = true ∧ s.mss.journal = .preferred b :: rest ∧ s.nvm.failed0 = false) ∧
    (∃ (e : Bytes) (s : State), alive s = true ∧ s.mss.logQueue = [e] ∧ s.nvm.failed0 = false ∧ s.nvm.log.length < logCapacity) ∧
    (∃ s, alive s = true ∧ s.hub.mode ≠ .boot) ∧
    (∃ s, alive s = true ∧ s.mss.shutdown = none) ∧
    (∃ s, alive s = true ∧ s.hub.bootState ≠ .failed ∧ s.mss.shutdown = none) ∧
    (∃ (p : Fin 7) (mv : Nat) (s : State), alive s = true ∧ outsideMv p mv 3 = true ∧ bit s.mss.warn.toNat p = false) ∧
    (∃ (p : Fin 7) (mv : Nat) (s : State), alive s = true ∧ outsideMv p mv 5 = true ∧ bit s.mss.fault.toNat p = false) ∧
    (∃ (p : Fin 2) (mv : Nat) (s : State), alive s = true ∧ mv * 100 < nominalMv p * 92 ∧ s.mss.shutdown = none) ∧
    (∃ (p : Fin 7) (mv : Nat) (s : State), alive s = true ∧ outsideMv p mv 3 = false) :=
  ⟨⟨true, [], withMss { journal := [.preferred true] }, by decide +kernel, by decide +kernel, by decide +kernel⟩,
   ⟨zeros 32, withMss { logQueue := [zeros 32] }, by decide +kernel, by decide +kernel, by decide +kernel, by decide +kernel⟩,
   ⟨base, by decide +kernel, by decide +kernel⟩,
   ⟨base, by decide +kernel, by decide +kernel⟩,
   ⟨base, by decide +kernel, by decide +kernel, by decide +kernel⟩,
   ⟨0, 800, base, by decide +kernel, by decide +kernel, by decide +kernel⟩,
   ⟨0, 700, base, by decide +kernel, by decide +kernel, by decide +kernel⟩,
   ⟨0, 100, base, by decide +kernel, by decide +kernel, by decide +kernel⟩,
   ⟨0, 750, withMss { warn := 1, fault := 1 }, by decide +kernel, by decide +kernel⟩⟩

theorem witness_PageStoreCommandsComplete :
    (∃ c s, Accepted pageLoadSpec c s) ∧
    (∃ c s, Accepted pageDiscardSpec c s) ∧
    (∃ c s, Accepted pageQuerySpec c s) ∧
    (∃ c s, Accepted queueAppendSpec c s) ∧
    (∃ c s, Accepted queueCommitSpec c s) ∧
    (∃ c s, Accepted queueClearSpec c s) ∧
    (∃ c s, Accepted memPortSetSpec c s) ∧
    (∃ c s, Accepted memConfigSetSpec c s ∧ u8 c.params 0 ≤ insRegionGib s) ∧
    (∃ c s, Accepted memConfigSetSpec c s ∧ insRegionGib s < u8 c.params 0) ∧
    (∃ c s, Accepted memDramDescribeSpec c s) ∧
    (∃ c s, Accepted memDelayMeasureSpec c s) :=
  ⟨⟨put pageParams, base, accepted_of (by decide +kernel)⟩,
   ⟨put (leBytes 4 9), withMem { pages := [pageIn .resident] }, accepted_of (by decide +kernel)⟩,
   ⟨put (leBytes 4 9), withMem { pages := [pageIn .resident] }, accepted_of (by decide +kernel)⟩,
   ⟨put ([1, 0, 0, 0] ++ leBytes 4 9), withMem { pages := [pageIn .loading] }, accepted_of (by decide +kernel)⟩,
   ⟨put [1, 0, 0, 0], withMem { pages := [pageIn .loading], queue := [9] }, accepted_of (by decide +kernel)⟩,
   ⟨put [], withMem { pages := [pageIn .loading], queue := [9], committed := true }, accepted_of (by decide +kernel)⟩,
   ⟨put (leBytes 1 3 ++ zeros 3 ++ leBytes 2 100 ++ leBytes 2 256), base, accepted_of (by decide +kernel)⟩,
   ⟨put (changed .memConfig [(0, 1)]), base, accepted_of (by decide +kernel), by decide +kernel⟩,
   ⟨put (changed .memConfig [(0, 3)]), base, accepted_of (by decide +kernel), by decide +kernel⟩,
   ⟨put [0, 1, 0, 1, 0, 0, 0, 0], inMode .service, accepted_of (by decide +kernel)⟩,
   ⟨put [], inMode .service, accepted_of (by decide +kernel)⟩⟩

theorem witness_MemoryRows :
    (∃ (id : BitVec 32) (p : Page) (total : Nat) (s : State), alive s = true ∧ firstLoading s = some p ∧ p.id = id.toNat ∧ total = sizeOf (pageRows p) (pagePitch p) ∧ pageCrcCheck p = false) ∧
    (∃ (id : BitVec 32) (p : Page) (o : LoadEnd) (s : State), alive s = true ∧ firstLoading s = some p ∧ p.id = id.toNat ∧ (o = .listError ∨ o = .dmaError ∨ o = .uncorrectable)) ∧
    (∃ (addr : Nat) (s : State), alive s = true ∧ addr + 64 < memBytes s) ∧
    (∃ (id : Nat) (s : State), alive s = true ∧ pageState s id = .resident) ∧
    (∃ (l : List DramTemp) (s : State), alive s = true ∧ (∃ d ∈ l, d.above85 = true)) ∧
    (∃ (l : List DramTemp) (s : State), alive s = true ∧ (∀ d ∈ l, d.above85 = false)) ∧
    (∃ (t0 : Time) (at_ : Nat) (s : State), alive s = true ∧ s.mem.coolSince = some at_ ∧ s.mem.refresh2 = true ∧ at_ + tpS ≤ max s.now t0) ∧
    (∃ (u : Nat) (s : State), alive s = true ∧ nearestBand s s.thm.dieBand = some u) ∧
    (∃ (b : Nat) (s : State), alive s = true ∧ s.mem.measuring = some b) ∧
    (∃ (d : Bytes) (s : State), alive s = true ∧ s.mem.describing = some d ∧ s.nvm.failed0 = false) :=
  ⟨⟨9, pageIn .loading, sizeOf (pageRows (pageIn .loading)) (pagePitch (pageIn .loading)), withMem { pages := [pageIn .loading] }, by decide +kernel, by decide +kernel, by decide +kernel, by decide +kernel, by decide +kernel⟩,
   ⟨9, pageIn .loading, .dmaError, withMem { pages := [pageIn .loading] }, by decide +kernel, by decide +kernel, by decide +kernel, by decide +kernel⟩,
   ⟨64, base, by decide +kernel, by decide +kernel⟩,
   ⟨9, withMem { pages := [pageIn .resident] }, by decide +kernel, by decide +kernel⟩,
   ⟨[{ channel := 0, rank := 0, reading := 3, above85 := true, aboveMax := false }], base, by decide +kernel, by decide +kernel⟩,
   ⟨[{ channel := 0, rank := 0, reading := 2, above85 := false, aboveMax := false }], base, by decide +kernel, by decide +kernel⟩,
   ⟨11 * tpS, 10 * tpS, withMem { coolSince := some (10 * tpS), refresh2 := true }, by decide +kernel, by decide +kernel, by decide +kernel, by decide +kernel⟩,
   ⟨4, { base with thm := { dieBand := 2 }, nvm := { delaySets := 16 } }, by decide +kernel, by decide +kernel⟩,
   ⟨2, withMem { measuring := some 2 }, by decide +kernel, by decide +kernel⟩,
   ⟨[0, 1, 0, 1, 0, 0, 0, 1], withMem { describing := some [0, 1, 0, 1, 0, 0, 0, 1] }, by decide +kernel, by decide +kernel, by decide +kernel⟩⟩

theorem witness_GeometryCommandsComplete :
    (∃ c s, Accepted grtBarSetSpec c s) ∧
    (∃ c s, Accepted grtModuleSetSpec c s) ∧
    (∃ c s, Accepted grtStitchSetSpec c s) ∧
    (∃ c s, Accepted grtNozzleStageSpec c s) ∧
    (∃ c s, Accepted grtNozzleCommitSpec c s) ∧
    (∃ c s, Accepted grtNozzleReadSpec c s) ∧
    (∃ c s, Accepted escConfigSetSpec c s) ∧
    (∃ c s, Accepted escRunaheadSetSpec c s) ∧
    (∃ c s, Accepted escHeadProfileSetSpec c s) ∧
    (∃ c s, Accepted escRowOffsetSetSpec c s) ∧
    (∃ c s, Accepted escTimingReadSpec c s) :=
  ⟨⟨put (changed .grtBar [(0, 4)]), base, accepted_of (by decide +kernel)⟩,
   ⟨put (changed (.grtModule 23) [(1, 2)]), base, accepted_of (by decide +kernel)⟩,
   ⟨put ([0, 1, 0] ++ zeros 5), base, accepted_of (by decide +kernel)⟩,
   ⟨put (leBytes 2 1 ++ zeros 6 ++ leBytes 4 (5 + 2 ^ 17)), base, accepted_of (by decide +kernel)⟩,
   ⟨put [1, 0, 0, 0], { base with grt := { staged := [(5, 1)] } }, accepted_of (by decide +kernel)⟩,
   ⟨put (leBytes 4 0 ++ leBytes 2 992 ++ zeros 2), base, accepted_of (by decide +kernel)⟩,
   ⟨put (changed .escConfig [(2, 9)]), base, accepted_of (by decide +kernel)⟩,
   ⟨put [96, 0, 0, 0], base, accepted_of (by decide +kernel)⟩,
   ⟨put (changed .profile [(10, 9)]), base, accepted_of (by decide +kernel)⟩,
   ⟨put ([23, 0, 0, 0] ++ leBytes 8 5), base, accepted_of (by decide +kernel)⟩,
   ⟨put [23, 0, 0, 0], base, accepted_of (by decide +kernel)⟩⟩

theorem witness_SlotRows :
    (∃ (t0 : Time) (f : FixedSlot) (p : State) (s : State), Calm s ∧ p = preparePrint (advance t0 s) ∧ mayFix p (nextSlot p) = true ∧ webReady p = true ∧ nearEnough p (nextSlot p) = true ∧ computeSlot p (nextSlot p) = some f ∧ leadOk p f = true ∧ earlyEnough p f = true ∧ spacingFault p f = none ∧ p.esc.state = 2) ∧
    (∃ (t0 : Time) (n : Int) (s : State), Calm s ∧ fetchNext (preparePrint (advance t0 s)) = some n) ∧
    (∃ (t0 : Time) (f : FixedSlot) (s : State), Calm s ∧ s.esc.slots.find? (fun f => decide (s.esc.fired < f.n)) = some f ∧ latest f ≤ max s.now t0) ∧
    (∃ (t0 : Time) (at_ : Nat) (s : State), Calm s ∧ s.esc.overspeed = 1 ∧ s.esc.lowSince = some at_ ∧ at_ + 10 * tpMs ≤ max s.now t0 ∧ rateAtLeast (advance t0 s) 95 = false) ∧
    (∃ s, Calm s ∧ s.esc.overspeed = 2 ∧ ticketPitch s ≤ s.esc.qualify) :=
  ⟨⟨10 * tpS, slotTen, preparePrint (advance (10 * tpS) printing), printing, calm_of (by decide +kernel), rfl, by decide +kernel, by decide +kernel, by decide +kernel, by decide +kernel, by decide +kernel, by decide +kernel, by decide +kernel, by decide +kernel⟩,
   ⟨10 * tpS, 5, printing, calm_of (by decide +kernel), by decide +kernel⟩,
   ⟨10 * tpS, printed, { printing with esc := { printing.esc with slots := [printed] } }, calm_of (by decide +kernel), by decide +kernel, by decide +kernel⟩,
   ⟨11 * tpS, 10 * tpS, withEsc { overspeed := 1, lowSince := some (10 * tpS) }, calm_of (by decide +kernel), by decide +kernel, by decide +kernel, by decide +kernel, by decide +kernel⟩,
   ⟨withEsc { overspeed := 2, qualify := 256 }, calm_of (by decide +kernel), by decide +kernel, by decide +kernel⟩⟩

theorem witness_HeadLinkCommandsComplete :
    (∃ c s, Accepted hlkConfigSetSpec c s) ∧
    (∃ c s, Accepted hlkLaneSetSpec c s) ∧
    (∃ c s, Accepted hlkLaneRestoreSpec c s) ∧
    (∃ c s, Accepted hlkEyeScanSpec c s) ∧
    (∃ c s, Accepted hlkLaneTestSpec c s) ∧
    (∃ c s, Accepted hlkModuleReadSpec c s) ∧
    (∃ c s, Accepted hlkPurgeSpec c s ∧ u8 c.params 0 = 0) ∧
    (∃ c s, Accepted hlkPurgeSpec c s ∧ u8 c.params 0 = 1 ∧ s.hlk.purge = none) ∧
    (∃ c s p, Accepted hlkPurgeSpec c s ∧ u8 c.params 0 = 1 ∧ s.hlk.purge = some p ∧ p.ending = none) :=
  ⟨⟨put (changed .hlkConfig [(2, 50)]), base, accepted_of (by decide +kernel)⟩,
   ⟨put [47, 0, 1, 8, 0, 0, 0, 0], heads [(0, operational)] [(0, splitHead)], accepted_of (by decide +kernel)⟩,
   ⟨put [0, 0, 0, 0], heads [(0, operational), (1, operational)] [(0, { splitHead with state := 3 })], accepted_of (by decide +kernel)⟩,
   ⟨put [0, 6, 0, 0], heads [(0, operational)] [(0, splitHead)], accepted_of (by decide +kernel)⟩,
   ⟨put [0, 1, 100, 0, 0, 0, 0, 0], inMode .service (heads [(0, operational)] [(0, splitHead)]), accepted_of (by decide +kernel)⟩,
   ⟨put [0, 0, 0, 0], heads [(0, operational)] [(0, splitHead)], accepted_of (by decide +kernel)⟩,
   ⟨put ([0, 0x1F, 0, 0] ++ leBytes 4 1 ++ leBytes 4 1000 ++ leBytes 2 4 ++ zeros 2), inMode .service (heads [(0, operational), (1, operational)] [(0, splitHead)]), accepted_of (by decide +kernel), by decide +kernel⟩,
   ⟨put ([1] ++ zeros 15), inMode .service, accepted_of (by decide +kernel), by decide +kernel, by decide +kernel⟩,
   ⟨put ([1] ++ zeros 15), inMode .service (withHlk { purge := some purgeRun }), purgeRun, accepted_of (by decide +kernel), by decide +kernel, by decide +kernel, by decide +kernel⟩⟩

theorem witness_LaneRows :
    (∃ (n : Fin 48) (s : State), alive s = true ∧ (laneOf s n.val).state = 1) ∧
    (∃ (n : Fin 48) (s : State), Calm s ∧ laneReceives s n.val = true) ∧
    (∃ (n : Fin 48) (s : State), alive s = true ∧ laneReceives s n.val = false) ∧
    (∃ (n : Fin 48) (s : State), Calm s ∧ laneReceives s n.val = true) ∧
    (∃ (n : Fin 48) (lostB : Bool) (s : State), Calm s ∧ laneReceives s (2 * (n.val / 2) + b2n lostB) = true) ∧
    (∃ (t0 : Time) (n : Fin 48) (s : State) (r : Revoke), Calm s ∧ laneReceives s n.val = true ∧ s.esc.revokes.find? (fun r => r.lanes.contains n.val && decide (r.detected + 20 * tpUs ≤ max s.now t0)) = some r) ∧
    (∃ (t0 : Time) (n : Fin 48) (s : State), alive s = true ∧ (laneOf s n.val).state = 4 ∧ (laneOf s n.val).failedAt + tpMs ≤ max s.now t0) ∧
    (∃ (n : Fin 48) (dwell : Nat) (s : State), Calm s ∧ (laneOf s n.val).scan = some (dwell, 0)) ∧
    (∃ (t0 : Time) (n : Fin 48) (loop : Nat) (end_ : Nat) (was : Nat) (s : State), alive s = true ∧ (laneOf s n.val).state = 5 ∧ (laneOf s n.val).test = some (loop, end_, was) ∧ end_ ≤ max s.now t0) ∧
    (∃ (s : State), alive s = true) ∧
    (∃ (n : Fin 48) (tag : BitVec 8) (t1 : Nat) (s : State), Calm s ∧ laneReceives s n.val = true ∧ (laneOf s n.val).departures.find? (fun x => decide (x.1 = tag)) = some (tag, t1)) ∧
    (∃ (n : Fin 48) (s : State), Calm s ∧ (laneOf s n.val).nextSampler = none) ∧
    (∃ (n : Fin 48) (p : Int) (q : Int) (s : State), Calm s ∧ (laneOf s n.val).nextSampler = some (p, q)) :=
  ⟨⟨47, base, by decide +kernel, by decide +kernel⟩,
   ⟨0, heads [(0, operational)] [(0, splitHead)], calm_of (by decide +kernel), by decide +kernel⟩,
   ⟨0, base, by decide +kernel, by decide +kernel⟩,
   ⟨0, heads [(0, operational)] [(0, splitHead)], calm_of (by decide +kernel), by decide +kernel⟩,
   ⟨1, false, heads [(0, operational), (1, operational)] [(0, splitHead)], calm_of (by decide +kernel), by decide +kernel⟩,
   ⟨11 * tpS, 0, withRevoke, revoked, calm_of (by decide +kernel), by decide +kernel, rfl⟩,
   ⟨11 * tpS, 0, heads [(0, { state := 4, failedAt := 10 * tpS })] [], by decide +kernel, by decide +kernel, by decide +kernel⟩,
   ⟨0, 6, heads [(0, { operational with scan := some (6, 0) })] [], calm_of (by decide +kernel), by decide +kernel⟩,
   ⟨11 * tpS, 0, 1, 10 * tpS, 0, heads [(0, { state := 5, test := some (1, 10 * tpS, 0) })] [], by decide +kernel, by decide +kernel, by decide +kernel, by decide +kernel⟩,
   ⟨heads [(0, operational)] [(0, splitHead)], by decide +kernel⟩,
   ⟨0, 3, 10 * tpS, heads [(0, { operational with departures := [(3, 10 * tpS), (2, 4)] })] [(0, splitHead)], calm_of (by decide +kernel), by decide +kernel, by decide +kernel⟩,
   ⟨0, heads [(0, operational)] [(0, splitHead)], calm_of (by decide +kernel), by decide +kernel⟩,
   ⟨0, 3, -4, heads [(0, { operational with nextSampler := some (3, -4) })] [], calm_of (by decide +kernel), by decide +kernel⟩⟩

theorem witness_SlotSendRows :
    (∃ (t0 : Time) (m : Fin 24) (n : Int) (pay : Bytes) (ins : List Time) (gen : BitVec 32) (s : State), Calm s ∧ s.hlk.purge = none ∧ readySlot (advance t0 s) m.val n = some (pay, ins, gen) ∧ moduleUsable s m.val = true ∧ (moduleOf s m.val).sentTop < n ∧ lowerWaits s m.val n = false ∧ occupancy (advance t0 s) (moduleOf s m.val) < queueDepth (moduleOf s m.val) ∧ inTime s m.val (slotBlocks s m.val 36) (max s.now t0) ins = true) ∧
    (∃ (t0 : Time) (m : Fin 24) (n : Int) (s : State), Calm s ∧ readySlot (advance t0 s) m.val n = none) ∧
    (∃ (m : Fin 24) (n : Int) (s : State), Calm s ∧ n ≤ (moduleOf s m.val).sentTop) :=
  ⟨⟨10 * tpS, 0, 10, readyTen.1, readyTen.2.1, readyTen.2.2, sendingTen, calm_of (by decide +kernel), by decide +kernel, by decide +kernel, by decide +kernel, by decide +kernel, by decide +kernel, by decide +kernel, by decide +kernel⟩,
   ⟨10 * tpS, 0, 13, sendingTen, calm_of (by decide +kernel), by decide +kernel⟩,
   ⟨0, 9, sendingTen, calm_of (by decide +kernel), by decide +kernel⟩⟩

theorem witness_HeadReportRows :
    (∃ (n : Fin 48) (g : BitVec 16) (l : SentLine) (s : State), Calm s ∧ (moduleOf s (n.val / 2)).lines.find? (fun l => decide ((l.slot / 64) % 2 ^ 16 = (g.toNat : Int))) = some l) ∧
    (∃ (t0 : Time) (m : Fin 24) (g : Int) (s : State), Calm s ∧ groupLines (moduleOf s m.val) g ≠ [] ∧ groupComplete s (moduleOf s m.val) g = true ∧ maxTime ((groupLines (moduleOf s m.val) g).map fun x => maxTime x.instants) + 100 * tpUs ≤ max s.now t0) ∧
    (∃ (n : Fin 48) (q : BitVec 24) (cd : Bool) (l : SentLine) (s : State), Calm s ∧ (moduleOf s (n.val / 2)).lines.find? (fun l => decide (l.slot = expandSeq (moduleOf s (n.val / 2)).sentTop q)) = some l ∧ (if cd then l.blankCD else l.blankAB) = false) ∧
    (∃ (n : Fin 48) (q : BitVec 24) (cd : Bool) (l : SentLine) (s : State), Calm s ∧ (moduleOf s (n.val / 2)).lines.find? (fun l => decide (l.slot = expandSeq (moduleOf s (n.val / 2)).sentTop q)) = some l ∧ (if cd then l.blankCD else l.blankAB) = true) ∧
    (∃ (n : Fin 48) (gen : BitVec 8) (r : Revoke) (s : State), Calm s ∧ s.esc.revokes.find? (fun r => r.gen.toNat % 256 = gen.toNat ∧ r.lanes.contains n.val) = some r) ∧
    (∃ (n : Fin 48) (f : Bool × Nat × Time × Int) (s : State), Calm s ∧ (moduleOf s (n.val / 2)).failover = some f) ∧
    (∃ (t0 : Time) (m : Fin 24) (since : Nat) (s : State), alive s = true ∧ bit (u8 (hlkCfg s) 1) 0 = true ∧ restorable s m.val = true ∧ (laneOf s (if (moduleOf s m.val).state = 3 then 2 * m.val + 1 else 2 * m.val)).opSince = some since ∧ since + u16 (hlkCfg s) 2 * tpMs ≤ max s.now t0) ∧
    (∃ (t0 : Time) (p : Purge) (s : State), alive s = true ∧ s.hlk.purge = some p ∧ p.ending = none ∧ 0 < p.count ∧ purgeInstant p (p.first + p.count - 1) ≤ max s.now t0 ∧ p.cut = none ∧ (∀ m ∈ purgeModules p, p.first + p.count - 1 ≤ (moduleOf s m).sentTop ∧ (moduleOf s m).lines = [])) :=
  ⟨⟨0, 1, sentLine, withLine, calm_of (by decide +kernel), by decide +kernel⟩,
   ⟨11 * tpS, 0, 1, withLine, calm_of (by decide +kernel), by decide +kernel, by decide +kernel, by decide +kernel⟩,
   ⟨0, 70, true, sentLine, withLine, calm_of (by decide +kernel), by decide +kernel, by decide +kernel⟩,
   ⟨0, 70, true, { sentLine with blankCD := true }, withBlankLine, calm_of (by decide +kernel), by decide +kernel, by decide +kernel⟩,
   ⟨0, 1, revoked, withRevoke, calm_of (by decide +kernel), by decide +kernel⟩,
   ⟨0, (false, 1, 10 * tpS, 5), heads [(0, operational)] [(0, { splitHead with state := 4, failover := some (false, 1, 10 * tpS, 5) })], calm_of (by decide +kernel), by decide +kernel⟩,
   ⟨11 * tpS, 0, 5 * tpS, heads [(0, operational), (1, operational)] [(0, { splitHead with state := 3 })], by decide +kernel, by decide +kernel, by decide +kernel, by decide +kernel, by decide +kernel⟩,
   ⟨11 * tpS, purgeRun, withHlk { purge := some purgeRun, modules := [(0, { splitHead with sentTop := 3 })] }, by decide +kernel, by decide +kernel, by decide +kernel, by decide +kernel, by decide +kernel, by decide +kernel, by decide +kernel⟩⟩

theorem witness_HeadIdentityRows :
    (∃ (n : Fin 48) (id : Ident) (s : State), Calm s ∧ laneReceives s n.val = true ∧ (moduleOf s (n.val / 2)).state ≠ 0 ∧ identFault s n.val id = none) ∧
    (∃ (n : Fin 48) (id : Ident) (r : Nat) (s : State), Calm s ∧ laneReceives s n.val = true ∧ (moduleOf s (n.val / 2)).state ≠ 0 ∧ identFault s n.val id = some r) ∧
    (∃ (n : Fin 48) (s : State), Calm s ∧ laneReceives s n.val = true) ∧
    (∃ (n : Fin 48) (s : State), Calm s ∧ laneReceives s n.val = false) :=
  ⟨⟨1, { headIdent with portB := true }, heads [(1, operational)] [], calm_of (by decide +kernel), by decide +kernel, by decide +kernel, by decide +kernel⟩,
   ⟨0, { headIdent with protocol := 2 }, 1, heads [(0, operational)] [], calm_of (by decide +kernel), by decide +kernel, by decide +kernel, by decide +kernel⟩,
   ⟨0, heads [(0, operational)] [(0, splitHead)], calm_of (by decide +kernel), by decide +kernel⟩,
   ⟨0, base, calm_of (by decide +kernel), by decide +kernel⟩⟩

theorem witness_ThermalCommandsComplete :
    (∃ c s, Accepted thmConfigSetSpec c s) ∧
    (∃ c s, Accepted thmSensorClearSpec c s) :=
  ⟨⟨put (changed .thermal [(0, 21), (13, 1)]), base, accepted_of (by decide +kernel)⟩,
   ⟨put [0xFF, 0, 0, 0], withThm { sensors := [(2, { failed := true }), (3, {})] }, accepted_of (by decide +kernel)⟩⟩

theorem witness_ThermalRows :
    (∃ (r : List Int) (s : State), Calm s ∧ r.length = 16) ∧
    (∃ (r : List Int) (i : Nat) (s : State), Calm s ∧ r.length = 16 ∧ i < 16 ∧ s.mss.shutdown = none ∧ (sensorOf s i).failed = false ∧ 1150 ≤ tenths (10 * r.getD i 0 + tget 0 s.thm.offsets i)) ∧
    (∃ (t0 : Time) (i : Nat) (c : Nat) (k : Nat) (s : State), Calm s ∧ i < 64 ∧ available s i = true ∧ (sensorOf s i).failed = false ∧ checkSensor (advance t0 s) i = (some c, k)) ∧
    (∃ (t0 : Time) (i : Nat) (k : Nat) (s : State), Calm s ∧ i < 64 ∧ available s i = true ∧ (sensorOf s i).failed = false ∧ checkSensor (advance t0 s) i = (none, k)) ∧
    (∃ (t0 : Time) (k : Nat) (t1 : Nat) (s : State), alive s = true ∧ s.mss.shutdown = some (k, t1) ∧ (k = 1 ∨ k = 2) ∧ t1 + 2 * tpMs ≤ max s.now t0) :=
  ⟨⟨[300, 301, 302, 303, 304, 305, 306, 307, 308, 309, 310, 311, 312, 313, 314, 315], withThm { offsets := [(4, -25)] }, calm_of (by decide +kernel), by decide +kernel⟩,
   ⟨List.replicate 16 1150, 15, base, calm_of (by decide +kernel), by decide +kernel, by decide +kernel, by decide +kernel, by decide +kernel, by decide +kernel⟩,
   ⟨11 * tpS, 7, 2, 0, withThm { sensors := [(7, { value := some 300, time := 5 * tpS })] }, calm_of (by decide +kernel), by decide +kernel, by decide +kernel, by decide +kernel, by decide +kernel⟩,
   ⟨11 * tpS, 7, 0, withThm { sensors := [(7, { value := some 300, time := 11 * tpS })] }, calm_of (by decide +kernel), by decide +kernel, by decide +kernel, by decide +kernel, by decide +kernel⟩,
   ⟨11 * tpS, 1, 10 * tpS, withMss { shutdown := some (1, 10 * tpS) }, by decide +kernel, by decide +kernel, by decide +kernel, by decide +kernel⟩⟩

theorem witness_LedgerCommandsComplete :
    (∃ c s, Accepted ldgConfigSetSpec c s) ∧
    (∃ c s, Accepted ldgStreamSetSpec c s ∧ bit (u8 c.params 12) 0 = false) ∧
    (∃ c s, Accepted ldgStreamSetSpec c s ∧ bit (u8 c.params 12) 0 = true ∧ s.ldg.stream.enabled = false) ∧
    (∃ c s, Accepted ldgStreamSetSpec c s ∧ bit (u8 c.params 12) 0 = true ∧ s.ldg.stream.enabled = true) ∧
    (∃ c s, Accepted ldgBlockAckSpec c s ∧ ackedAlready s (u64 c.params 0) = true) ∧
    (∃ (c : Cmd) (s : State) (x : Block), Accepted ldgBlockAckSpec c s ∧ ackedAlready s (u64 c.params 0) = false ∧ s.ldg.blocks.find? (fun x => decide (x.number = u64 c.params 0)) = some x) ∧
    (∃ c s, Accepted ldgTicketQuerySpec c s) ∧
    (∃ c s, Accepted ldgVoidSpec c s) ∧
    (∃ (c : Cmd) (s : State) (b : Block), Accepted ldgSealSpec c s ∧ s.ldg.current = some b ∧ b.openTime < max s.now c.t) ∧
    (∃ c s, Accepted ldgSealSpec c s ∧ s.ldg.current = none) :=
  ⟨⟨put (changed .ldgConfig [(2, 65)]), base, accepted_of (by decide +kernel)⟩,
   ⟨put (zeros 8 ++ leBytes 4 0x100000 ++ zeros 4), base, accepted_of (by decide +kernel), by decide +kernel⟩,
   ⟨put (zeros 8 ++ leBytes 4 0x100000 ++ [1, 0, 0, 0]), withLdg { blocks := [sentBlock] }, accepted_of (by decide +kernel), by decide +kernel, by decide +kernel⟩,
   ⟨put (zeros 8 ++ leBytes 4 0x100000 ++ [1, 0, 0, 0]), withLdg { stream := streamOn }, accepted_of (by decide +kernel), by decide +kernel, by decide +kernel⟩,
   ⟨put (leBytes 8 2), withLdg { acked := some 2 }, accepted_of (by decide +kernel), by decide +kernel⟩,
   ⟨put (leBytes 8 3), withLdg { blocks := [sentBlock] }, sentBlock, accepted_of (by decide +kernel), by decide +kernel, rfl⟩,
   ⟨put (leBytes 8 5), withLdg { tickets := [printedTicket] }, accepted_of (by decide +kernel)⟩,
   ⟨put ([1] ++ zeros 7 ++ leBytes 8 5 ++ leBytes 2 1 ++ zeros 6), inMode .calibrate (withLdg { tickets := [printedTicket], open_ := true, current := some openBlock }), accepted_of (by decide +kernel)⟩,
   ⟨put [], inMode .calibrate (withLdg { current := some openBlock, open_ := true }), openBlock, accepted_of (by decide +kernel), rfl, by decide +kernel⟩,
   ⟨put [], inMode .calibrate, accepted_of (by decide +kernel), by decide +kernel⟩⟩

theorem witness_LedgerRows :
    (∃ (t0 : Time) (id : BitVec 64) (k : Ticket) (s : State), alive s = true ∧ findTicket s id = some k ∧ k.state = 2 ∧ inspection s = true ∧ k.verdict = 0 ∧ fireComplete s k = true ∧ k.deadline * 2 ^ 32 ≤ webLine (advance t0 s) (max s.now t0)) ∧
    (∃ (t0 : Time) (b : Block) (s : State), alive s = true ∧ s.ldg.current = some b ∧ b.openTime + tpS ≤ max s.now t0 ∧ b.extended = false ∧ ¬(s.hub.mode = .armed ∧ ledgerFree s < 2 ^ 20)) ∧
    (∃ b s, alive s = true ∧ s.ldg.current = some b ∧ b.openTime + tpS ≤ max s.now (11 * tpS) ∧ s.hub.mode = .armed ∧ ledgerFree s < 2 ^ 20) ∧
    (∃ (t0 : Time) (b : Block) (s : State), alive s = true ∧ s.ldg.current = some b ∧ max s.now t0 < b.openTime + tpS) ∧
    (∃ (b : Block) (s : State), alive s = true ∧ hasFeature s 5 = true ∧ s.ldg.blocks.find? (fun b => b.header.isNone) = some b) ∧
    (∃ s, alive s = true ∧ hasFeature s 5 = false) ∧
    (∃ (b : Block) (s : State), alive s = true ∧ s.ldg.blocks.find? (fun b => b.header.isSome && b.frame.isNone) = some b ∧ s.ldg.stream.enabled = true ∧ dmaOk s = true ∧ s.ldg.stream.offset + frameBytes b ≤ s.ldg.stream.size ∧ streamUsed s + frameBytes b ≤ s.ldg.stream.size) ∧
    (∃ (b : Block) (s : State), alive s = true ∧ s.ldg.blocks.find? (fun b => b.header.isSome && b.frame.isNone) = some b ∧ s.ldg.stream.enabled = true ∧ s.ldg.stream.offset + frameBytes b ≤ s.ldg.stream.size ∧ streamUsed s + frameBytes b ≤ s.ldg.stream.size) ∧
    (∃ t0 s, alive s = true ∧ checkpointDue (advance t0 s) = true ∧ checkpointSpaced (advance t0 s) = true ∧ s.ldg.writing = none) ∧
    (∃ (k : Checkpoint) (s : State), alive s = true ∧ s.ldg.writing = some k ∧ s.nvm.failed0 = false) ∧
    (∃ (k : Checkpoint) (s : State), alive s = true ∧ s.ldg.writing = some k) :=
  ⟨⟨11 * tpS, 5, printedTicket, withLdg { tickets := [printedTicket], open_ := true, current := some openBlock }, by decide +kernel, by decide +kernel, by decide +kernel, by decide +kernel, by decide +kernel, by decide +kernel, by decide +kernel⟩,
   ⟨11 * tpS, openBlock, withLdg { current := some openBlock, open_ := true }, by decide +kernel, by decide +kernel, by decide +kernel, by decide +kernel, by decide +kernel⟩,
   ⟨openBlock, fullLedger 4186112, fullLedger_holds _ (by decide)⟩,
   ⟨11 * tpS - 1, openBlock, withLdg { current := some openBlock, open_ := true }, by decide +kernel, by decide +kernel, by decide +kernel⟩,
   ⟨shutBlock, withLdg { blocks := [shutBlock] }, by decide +kernel, by decide +kernel, by decide +kernel⟩,
   ⟨withHub fun h => { h with features := 1 }, by decide +kernel, by decide +kernel⟩,
   ⟨sealedBlock, withLdg { blocks := [sealedBlock], stream := streamOn }, by decide +kernel, by decide +kernel, by decide +kernel, by decide +kernel, by decide +kernel, by decide +kernel⟩,
   ⟨sealedBlock, withLdg { blocks := [sealedBlock], stream := streamOn }, by decide +kernel, by decide +kernel, by decide +kernel, by decide +kernel, by decide +kernel⟩,
   ⟨11 * tpS, withLdg { wanted := true }, by decide +kernel, by decide +kernel, by decide +kernel, by decide +kernel⟩,
   ⟨{ hash := zeros 32, block := none, nextSeq := 0, ranges := [] }, withLdg { writing := some { hash := zeros 32, block := none, nextSeq := 0, ranges := [] } }, by decide +kernel, by decide +kernel, by decide +kernel⟩,
   ⟨{ hash := zeros 32, block := none, nextSeq := 0, ranges := [] }, withLdg { writing := some { hash := zeros 32, block := none, nextSeq := 0, ranges := [] } }, by decide +kernel, by decide +kernel⟩⟩

theorem witness_InspectionCommandsComplete :
    (∃ c s, Accepted insCameraSetSpec c s) ∧
    (∃ c s, Accepted insCameraStartSpec c s ∧ camRun s (u8 c.params 0) = false) ∧
    (∃ c s, Accepted insCameraStartSpec c s ∧ camRun s (u8 c.params 0) = true) ∧
    (∃ c s, Accepted insCameraStopSpec c s ∧ camRun s (u8 c.params 0) = true) ∧
    (∃ c s, Accepted insCameraStopSpec c s ∧ camRun s (u8 c.params 0) = false) ∧
    (∃ c s, Accepted exposureSetSpec c s) ∧
    (∃ c s, Accepted insCompareSetSpec c s) ∧
    (∃ c s, Accepted insDisplaySetSpec c s) ∧
    (∃ c s, Accepted insOutputSetSpec c s) ∧
    (∃ c s, Accepted insOutputAckSpec c s ∧ deliveredStrip (camOf s (u8 c.params 0)) (u32 c.params 4) = true) ∧
    (∃ c s, Accepted insOutputAckSpec c s ∧ deliveredStrip (camOf s (u8 c.params 0)) (u32 c.params 4) = false) ∧
    (∃ c s, Accepted insStripeAddSpec c s) ∧
    (∃ (c : Cmd) (s : State) (st : Strip), Accepted insStatsReadSpec c s ∧ statsStrip (camOf s (u8 c.params 0)) (u32 c.params 4) = some st) :=
  ⟨⟨put (changed (.camera 3) [(4, 64), (5, 0)]), base, accepted_of (by decide +kernel)⟩,
   ⟨put [0, 0, 0, 0], base, accepted_of (by decide +kernel), by decide +kernel⟩,
   ⟨put [0, 0, 0, 0], cams { state := 1 }, accepted_of (by decide +kernel), by decide +kernel⟩,
   ⟨put [0, 0, 0, 0], cams { state := 1 }, accepted_of (by decide +kernel), by decide +kernel⟩,
   ⟨put [0, 0, 0, 0], base, accepted_of (by decide +kernel), by decide +kernel⟩,
   ⟨put ([0, 0, 0, 0] ++ leBytes 4 5000 ++ leBytes 2 256 ++ leBytes 2 0 ++ (upTo 5).flatMap (fun _ => leBytes 2 9) ++ zeros 2), base, accepted_of (by decide +kernel)⟩,
   ⟨put (changed .compare [(3, 25)]), base, accepted_of (by decide +kernel)⟩,
   ⟨put (changed .display [(0, 3)]), base, accepted_of (by decide +kernel)⟩,
   ⟨put ([0, 0, 0, 0] ++ leBytes 4 0x02000000 ++ zeros 16), cams { stored := [storedStrip] }, accepted_of (by decide +kernel)⟩,
   ⟨put (zeros 4 ++ leBytes 4 2), cams { stored := [deliveredOne, storedStrip] }, accepted_of (by decide +kernel), by decide +kernel⟩,
   ⟨put (zeros 4 ++ leBytes 4 2), cams { acked := some 2 }, accepted_of (by decide +kernel), by decide +kernel⟩,
   ⟨put (leBytes 4 9 ++ zeros 4 ++ leBytes 2 5 ++ leBytes 2 40 ++ zeros 4), withMem { pages := [{ pageIn .loading with params := pageParams.set 4 2 }] }, accepted_of (by decide +kernel)⟩,
   ⟨put (zeros 4 ++ leBytes 4 2), cams { done_ := [strip] }, strip, accepted_of (by decide +kernel), by decide +kernel⟩⟩

theorem witness_CameraRows :
    (∃ (t0 : Time) (c : Fin 4) (p : PulseRecord) (s : State), Calm s ∧ ((camOf s c.val).state = 1 ∨ (camOf s c.val).state = 2) ∧ s.enc.pulses.find? (fun p => decide (p.t < max s.now t0)) = some p) ∧
    (∃ (c : Fin 4) (ch : Fin 4) (s : State), Calm s ∧ (camOf s c.val).state ≠ 0 ∧ ch ≠ 0) ∧
    (∃ (c : Fin 4) (p : CsiPacket) (st : Strip) (q : PulseRecord) (s : State), alive s = true ∧ (camOf s c.val).state = 2 ∧ (camOf s c.val).current = some st ∧ p.headerOk = true ∧ p.channel = 0 ∧ p.dataType = (if bit (u8 (camCfg s c.val) 1) 0 then 0x2C else 0x2B) ∧ p.crcOk = true ∧ p.pixels.length = 4352 ∧ st.count < st.length ∧ pulseAt s (st.start + st.count) = some q) ∧
    (∃ (c : Fin 4) (p : CsiPacket) (s : State), alive s = true ∧ (camOf s c.val).state ≠ 0 ∧ p.headerOk = false) ∧
    (∃ (c : Fin 4) (st : Strip) (s : State), Calm s ∧ (camOf s c.val).state = 2 ∧ (camOf s c.val).current = some st) ∧
    (∃ (t0 : Time) (c : Fin 4) (cause : Fin 4) (s : State), alive s = true ∧ (camOf s c.val).state = 2 ∧ cause.val ≠ 2 ∧ causeHolds (advance t0 s) c.val cause.val = true) ∧
    (∃ (t0 : Time) (c : Fin 4) (s : State), alive s = true ∧ (camOf s c.val).state = 2 ∧ causeHolds (advance t0 s) c.val 2 = true) ∧
    (∃ (t0 : Time) (c : Fin 4) (s : State), alive s = true ∧ causeHolds (advance t0 s) c.val 2 = false) ∧
    (∃ (t0 : Time) (c : Fin 4) (s : State), alive s = true ∧ (camOf s c.val).state = 3 ∧ (camOf s c.val).causeAt + 100 * tpMs ≤ max s.now t0) ∧
    (∃ (c : Fin 4) (x : Stored) (s : State), alive s = true ∧ (camOf s c.val).stored.find? (fun x => x.frame.isNone) = some x ∧ (camOf s c.val).enabled = true ∧ dmaOk s = true ∧ (camOf s c.val).offset + stripFrameSize x ≤ (camOf s c.val).size ∧ outputUsed (camOf s c.val) + stripFrameSize x ≤ (camOf s c.val).size) ∧
    (∃ (t0 : Time) (k : InsTicket) (s : State), alive s = true ∧ s.ins.tickets = [k] ∧ s.ins.stripes = [] ∧ coveringCams s k = [] ∧ cameraList.any (fun c => momentCome (advance t0 s) c (ticketLast s k)) = true) ∧
    (∃ s, alive s = true ∧ s.ins.tickets = [] ∧ s.ins.stripes = []) :=
  ⟨⟨11 * tpS, 0, pulse5, withPulses (cams { state := 1 }), calm_of (by decide +kernel), by decide +kernel, by decide +kernel⟩,
   ⟨0, 1, cams { state := 2, current := some strip }, calm_of (by decide +kernel), by decide +kernel, by decide +kernel⟩,
   ⟨0, cameraLine, strip, pulse5, withPulses (cams { state := 2, current := some strip }), by decide +kernel, by decide +kernel, by decide +kernel, by decide +kernel, by decide +kernel, by decide +kernel, by decide +kernel, by decide +kernel, by decide +kernel, by decide +kernel⟩,
   ⟨0, { headerOk := false }, cams { state := 2, current := some strip }, by decide +kernel, by decide +kernel, by decide +kernel⟩,
   ⟨0, strip, cams { state := 2, current := some strip }, calm_of (by decide +kernel), by decide +kernel, by decide +kernel⟩,
   ⟨11 * tpS, 0, 0, cams { state := 2, current := some strip }, by decide +kernel, by decide +kernel, by decide +kernel, by decide +kernel⟩,
   ⟨11 * tpS, 0, withPulses (cams { state := 2 }), by decide +kernel, by decide +kernel, by decide +kernel⟩,
   ⟨11 * tpS, 0, base, by decide +kernel, by decide +kernel⟩,
   ⟨11 * tpS, 0, cams { state := 3, causeAt := 10 * tpS }, by decide +kernel, by decide +kernel, by decide +kernel⟩,
   ⟨0, storedStrip, cams { stored := [storedStrip], enabled := true, size := 0x02000000 }, by decide +kernel, by decide +kernel, by decide +kernel, by decide +kernel, by decide +kernel, by decide +kernel⟩,
   ⟨11 * tpS, insTicket, withIns { tickets := [insTicket] }, by decide +kernel, by decide +kernel, by decide +kernel, by decide +kernel, by decide +kernel⟩,
   ⟨base, by decide +kernel, by decide +kernel, by decide +kernel⟩⟩

theorem witness_CalibrationCommandsComplete :
    (∃ c s, Accepted calPolicySetSpec c s) ∧
    (∃ c s, Accepted calRunSpec c s) ∧
    (∃ (c : Cmd) (s : State) (r : CalRun), Served calReferenceSpec c s ∧ s.cal.runs = [r] ∧ r.state = 2 ∧ 1 ≤ r.type ∧ r.type ≤ 4 ∧ calRuns s = true) ∧
    (∃ c s, Accepted calPatchAddSpec c s) ∧
    (∃ (c : Cmd) (s : State) (r : CalRun), Served calAbortSpec c s ∧ s.cal.runs = [r] ∧ r.state ≤ 4) ∧
    (∃ c s, Accepted calAbortSpec c s) ∧
    (∃ c s, Accepted calResultReadSpec c s) ∧
    (∃ (c : Cmd) (s : State) (r : CalRun), Served calResultReadSpec c s ∧ s.cal.runs = [r] ∧ 6 ≤ r.state ∧ r.type = u8 c.params 0 ∧ r.target = u8 c.params 1) ∧
    (∃ c s, Accepted calClearSpec c s) :=
  ⟨⟨put (changed .calPolicy [(0, 2)]), base, accepted_of (by decide +kernel)⟩,
   ⟨put ([1, 0] ++ zeros 14), inMode .calibrate, accepted_of (by decide +kernel)⟩,
   ⟨put (leBytes 2 6 ++ [1, 0] ++ zeros 6 ++ leBytes 6 9 ++ zeros 6 ++ leBytes 6 10 ++ leBytes 8 1000 ++ zeros 4), inMode .calibrate (withCal { runs := [calRun1] }), calRun1, served_of (by decide +kernel), by decide +kernel, by decide +kernel, by decide +kernel, by decide +kernel, by decide +kernel⟩,
   ⟨put (leBytes 4 9 ++ zeros 2 ++ [7, 0] ++ zeros 4), inMode .calibrate (withMem { pages := [{ pageIn .loading with params := pageParams.set 4 40 }] }), accepted_of (by decide +kernel)⟩,
   ⟨put (leBytes 2 6 ++ zeros 2), inMode .calibrate (withCal { runs := [calRun1] }), calRun1, served_of (by decide +kernel), by decide +kernel, by decide +kernel⟩,
   ⟨put (leBytes 2 0xFFFF ++ zeros 2), inMode .calibrate, accepted_of (by decide +kernel)⟩,
   ⟨put [1, 0, 0, 0], base, accepted_of (by decide +kernel)⟩,
   ⟨put [1, 0, 0, 0], withCal { runs := [{ calRun1 with state := 7 }] }, { calRun1 with state := 7 }, served_of (by decide +kernel), by decide +kernel, by decide +kernel, by decide +kernel, by decide +kernel⟩,
   ⟨put [1, 0, 0, 0], base, accepted_of (by decide +kernel)⟩⟩

theorem witness_CalibrationRows :
    (∃ (e : Nat × Nat) (m : Int) (s : State), Calm s ∧ bit (u8 (cfgGet s .calPolicy) 0) 2 = true ∧ (s.hub.mode = .calibrate ∨ s.hub.mode = .armed) ∧ e ∈ ([6, 7, 8, 9].flatMap fun k => (calTargets s k).map fun x => (k, x)) ∧ dueMoved s e.1 e.2 = some m) ∧
    (∃ s, Calm s ∧ bit (u8 (cfgGet s .calPolicy) 0) 2 = false ∧ s.hub.mode ≠ .armed) ∧
    (∃ (t0 : Time) (r : CalRun) (s : State), Steady s ∧ s.cal.runs = [r] ∧ 2 ≤ r.state ∧ r.state ≤ 4 ∧ calRuns s = false ∧ r.started + u16 r.policy 2 * tpS ≤ max s.now t0) ∧
    (∃ (t0 : Time) (a : Fin 2) (r : CalRun) (s : State), Steady s ∧ s.cal.runs = [r] ∧ inPass r = true ∧ r.type = 4 ∧ r.target = a.val ∧ r.step = 5 ∧ r.numB = 0 ∧ r.ref = none ∧ r.stepAt + 110 * tpMs ≤ max s.now t0) :=
  ⟨⟨(6, 0), 50, warmed, calm_of (by decide +kernel), by decide +kernel, by decide +kernel, by decide +kernel, by decide +kernel⟩,
   ⟨withSetting .calPolicy (changed .calPolicy [(0, 2)]), calm_of (by decide +kernel), by decide +kernel, by decide +kernel⟩,
   ⟨700 * tpS, calRun1, withCal { runs := [calRun1] }, steady_of (by decide +kernel), by decide +kernel, by decide +kernel, by decide +kernel, by decide +kernel, by decide +kernel⟩,
   ⟨11 * tpS, 0, scaleRun, inMode .calibrate (withCal { runs := [scaleRun] }), steady_of (by decide +kernel), by decide +kernel, by decide +kernel, by decide +kernel, by decide +kernel, by decide +kernel, by decide +kernel, by decide +kernel, by decide +kernel⟩⟩

theorem witness_AxisCommandsComplete :
    (∃ c s, Accepted axsConfigSetSpec c s) ∧
    (∃ c s, Accepted axsStartSpec c s ∧ axisRun s (u8 c.params 0) = false) ∧
    (∃ c s, Accepted axsStartSpec c s ∧ axisRun s (u8 c.params 0) = true) ∧
    (∃ c s, Accepted axsStopSpec c s ∧ ((axisOf s (u8 c.params 0)).state = 2 ∨ (axisOf s (u8 c.params 0)).state = 3)) ∧
    (∃ c s, Accepted axsStopSpec c s ∧ ((axisOf s (u8 c.params 0)).state = 1 ∨ (axisOf s (u8 c.params 0)).state = 5)) ∧
    (∃ c s, Accepted axsStopSpec c s ∧ (axisOf s (u8 c.params 0)).state = 0) ∧
    (∃ c s, Accepted axsMoveSpec c s) ∧
    (∃ c s, Accepted axsHomeSpec c s ∧ homeMethod (axisCfg s (u8 c.params 0)) ∈ [1, 2, 3]) ∧
    (∃ c s, Accepted axsHomeSpec c s ∧ homeMethod (axisCfg s (u8 c.params 0)) = 4) ∧
    (∃ c s, Accepted axsHomeSpec c s ∧ homeMethod (axisCfg s (u8 c.params 0)) = 0) ∧
    (∃ c s, Accepted axsFaultClearSpec c s) :=
  ⟨⟨put (changed (.axis 0) [(15, 21)]), axis { referenced := true }, accepted_of (by decide +kernel)⟩,
   ⟨put [0, 0, 0, 0], base, accepted_of (by decide +kernel), by decide +kernel⟩,
   ⟨put [0, 0, 0, 0], axis { state := 1 }, accepted_of (by decide +kernel), by decide +kernel⟩,
   ⟨put [0, 1, 0, 0], axis { state := 2, vel := 5 }, accepted_of (by decide +kernel), by decide +kernel⟩,
   ⟨put [0, 0, 0, 0], axis { state := 5 }, accepted_of (by decide +kernel), by decide +kernel⟩,
   ⟨put [0, 0, 0, 0], base, accepted_of (by decide +kernel), by decide +kernel⟩,
   ⟨put ([0, 0, 50, 0] ++ leBytes 4 1000 ++ zeros 8), inMode .service (axis { state := 1, referenced := true }), accepted_of (by decide +kernel)⟩,
   ⟨put [0, 0, 0, 0], inMode .service (axisSetting [(13, 1)] (axis { state := 1 })), accepted_of (by decide +kernel), by decide +kernel⟩,
   ⟨put [0, 0, 0, 0], inMode .service (axisSetting [(13, 4)] (axis { state := 1 })), accepted_of (by decide +kernel), by decide +kernel⟩,
   ⟨put [0, 0, 0, 0], inMode .service (axisSetting [(13, 0)] (axis { state := 1 })), accepted_of (by decide +kernel), by decide +kernel⟩,
   ⟨put [0, 0, 0, 0], axis { state := 5, causes := [13], fb := 7 }, accepted_of (by decide +kernel)⟩⟩

theorem witness_AxisRows :
    (∃ (t0 : Time) (a : Fin 2) (s : State), Calm s ∧ max s.now t0 % (16 * tpUs) = 0 ∧ (axisOf s a.val).frames = true) ∧
    (∃ (t0 : Time) (s : State), Calm s ∧ max s.now t0 % (16 * tpUs) ≠ 0) ∧
    (∃ (a : Fin 2) (s : State), alive s = true ∧ ssiFeedback (axisCfg s a.val) = false) ∧
    (∃ (a : Fin 2) (s : State), alive s = true ∧ ssiFeedback (axisCfg s a.val) = false) ∧
    (∃ (a : Fin 2) (s : State), alive s = true ∧ ssiFeedback (axisCfg s a.val) = false ∧ (axisOf s a.val).state = 3 ∧ (axisOf s a.val).homing = 2) ∧
    (∃ (a : Fin 2) (ok : Bool) (l : List Bool) (v : Int) (s : State), alive s = true ∧ ssiFeedback (axisCfg s a.val) = true ∧ ssiResult (axisCfg s a.val) ok l = .ok v) ∧
    (∃ (a : Fin 2) (ok : Bool) (l : List Bool) (k : Nat) (s : State), alive s = true ∧ ssiFeedback (axisCfg s a.val) = true ∧ ssiResult (axisCfg s a.val) ok l = .error k) ∧
    (∃ (a : Fin 2) (s : State), alive s = true ∧ (axisOf s a.val).state ≠ 0 ∧ (axisOf s a.val).present.any (fun p => decide (p.1 = 8)) = false) ∧
    (∃ (t0 : Time) (a : Fin 2) (k : Fin 5) (u : Nat) (s : State), alive s = true ∧ k.val ≤ 1 ∧ (axisOf s a.val).present = [(8 + k.val, u)] ∧ u + 10 * tpMs ≤ max s.now t0) ∧
    (∃ (a : Fin 2) (w : Fin 3) (high : Bool) (s : State), alive s = true ∧ (switchOf (axisOf s a.val) w.val).level = false ∧ (switchOf (axisOf s a.val) w.val).confirmed = false ∧ (high != bit (u8 (axisCfg s a.val) 14) (if w.val = 2 then 3 else 4)) = true) ∧
    (∃ (a : Fin 2) (w : Fin 3) (high : Bool) (s : State), alive s = true ∧ (switchOf (axisOf s a.val) w.val).level = true ∧ (high != bit (u8 (axisCfg s a.val) 14) (if w.val = 2 then 3 else 4)) = false) ∧
    (∃ (t0 : Time) (a : Fin 2) (w : Fin 3) (u : Nat) (p : Int) (s : State), alive s = true ∧ w.val ≠ 2 ∧ (axisOf s a.val).state = 2 ∧ (switchOf (axisOf s a.val) w.val).candidate = some (u, p) ∧ u + switchFilter (axisCfg s a.val) ≤ max s.now t0) ∧
    (∃ (t0 : Time) (a : Fin 2) (w : Fin 3) (u : Nat) (p : Int) (s : State), alive s = true ∧ (axisOf s a.val).state = 1 ∧ (switchOf (axisOf s a.val) w.val).candidate = some (u, p) ∧ u + switchFilter (axisCfg s a.val) ≤ max s.now t0) ∧
    (∃ (t0 : Time) (a : Fin 2) (w : Fin 3) (s : State), alive s = true ∧ (switchOf (axisOf s a.val) w.val).confirmed = true ∧ (switchOf (axisOf s a.val) w.val).level = false ∧ (switchOf (axisOf s a.val) w.val).inactive + switchFilter (axisCfg s a.val) ≤ max s.now t0) ∧
    (∃ (t0 : Time) (a : Fin 2) (u : Nat) (s : State), alive s = true ∧ (axisOf s a.val).stallSince = some u ∧ (axisOf s a.val).state ≠ 0 ∧ (axisOf s a.val).state ≠ 5 ∧ u + u8 (axisCfg s a.val) 70 * tpMs ≤ max s.now t0) ∧
    (∃ (a : Fin 2) (s : State), alive s = true ∧ (axisOf s a.val).state = 3 ∧ ((axisOf s a.val).homing = 1 ∨ (axisOf s a.val).homing = 2) ∧ (u32 (axisCfg s a.val) 60 : Int) * unit32 ≤ (((axisOf s a.val).pos - (axisOf s a.val).searchFrom).natAbs : Int)) ∧
    (∃ (t0 : Time) (a : Fin 2) (s : State), alive s = true ∧ (axisOf s a.val).vel = 0 ∧ (axisOf s a.val).zeroSince + u16 (axisCfg s a.val) 72 * tpMs ≤ max s.now t0) :=
  ⟨⟨11 * tpS, 0, axis { state := 2, frames := true, vel := 5000 * 4294967296, goal := 1 }, calm_of (by decide +kernel), by decide +kernel, by decide +kernel⟩,
   ⟨11 * tpS + 1, base, calm_of (by decide +kernel), by decide +kernel⟩,
   ⟨0, axis { fb := 5 }, by decide +kernel, by decide +kernel⟩,
   ⟨0, axis { fb := 5 }, by decide +kernel, by decide +kernel⟩,
   ⟨0, axis { state := 3, homing := 2, fb := 5 }, by decide +kernel, by decide +kernel, by decide +kernel, by decide +kernel⟩,
   ⟨0, true, List.replicate 32 false, 0, axisSetting [(1, 1)] (axis { fb := 5 }), by decide +kernel, by decide +kernel, rfl⟩,
   ⟨0, false, [], 12, axisSetting [(1, 1)] (axis { fb := 5 }), by decide +kernel, by decide +kernel, rfl⟩,
   ⟨0, axis { state := 1 }, by decide +kernel, by decide +kernel, by decide +kernel⟩,
   ⟨11 * tpS, 0, 1, 10 * tpS, axis { state := 5, causes := [9], present := [(9, 10 * tpS)] }, by decide +kernel, by decide +kernel, by decide +kernel, by decide +kernel⟩,
   ⟨0, 2, true, base, by decide +kernel, by decide +kernel, by decide +kernel, by decide +kernel⟩,
   ⟨0, 2, false, axis { home := { level := true, confirmed := true } }, by decide +kernel, by decide +kernel, by decide +kernel⟩,
   ⟨11 * tpS, 0, 1, 10 * tpS, 5, axis { state := 2, limP := { level := true, candidate := some (10 * tpS, 5) } }, by decide +kernel, by decide +kernel, by decide +kernel, by decide +kernel, by decide +kernel⟩,
   ⟨11 * tpS, 0, 1, 10 * tpS, 5, axis { state := 1, limP := { level := true, candidate := some (10 * tpS, 5) } }, by decide +kernel, by decide +kernel, by decide +kernel, by decide +kernel⟩,
   ⟨11 * tpS, 0, 1, axis { limP := { confirmed := true, inactive := 10 * tpS } }, by decide +kernel, by decide +kernel, by decide +kernel, by decide +kernel⟩,
   ⟨11 * tpS, 0, 10 * tpS, axis { state := 2, stallSince := some (10 * tpS) }, by decide +kernel, by decide +kernel, by decide +kernel, by decide +kernel, by decide +kernel⟩,
   ⟨0, axis { state := 3, homing := 1, pos := 2000000 * 4294967296 }, by decide +kernel, by decide +kernel, by decide +kernel, by decide +kernel⟩,
   ⟨11 * tpS, 0, axis { zeroSince := 10 * tpS, holdNow := false }, by decide +kernel, by decide +kernel, by decide +kernel⟩⟩

theorem witness_ViewCommandsComplete :
    (∃ c s, Accepted viewModeSetSpec c s) ∧
    (∃ c s, Accepted viewStartSpec c s ∧ viewRun s = false) ∧
    (∃ c s, Accepted viewStartSpec c s ∧ viewRun s = true) ∧
    (∃ c s, Accepted viewStopSpec c s ∧ s.view.state = 0) ∧
    (∃ c s, Accepted viewStopSpec c s ∧ s.view.state = 1) ∧
    (∃ c s, Accepted viewStopSpec c s ∧ s.view.state = 2) ∧
    (∃ c s, Accepted viewFrameSetSpec c s) :=
  ⟨⟨put (changed .view [(2, 17)]), base, accepted_of (by decide +kernel)⟩,
   ⟨put (zeros 4), base, accepted_of (by decide +kernel), by decide +kernel⟩,
   ⟨put (zeros 4), withView { state := 2 }, accepted_of (by decide +kernel), by decide +kernel⟩,
   ⟨put (zeros 4), base, accepted_of (by decide +kernel), by decide +kernel⟩,
   ⟨put (zeros 4), withView { state := 1 }, accepted_of (by decide +kernel), by decide +kernel⟩,
   ⟨put (zeros 4), withView { state := 2 }, accepted_of (by decide +kernel), by decide +kernel⟩,
   ⟨put ([0, 0] ++ leBytes 2 64 ++ leBytes 4 0 ++ leBytes 4 4096 ++ leBytes 2 64 ++ leBytes 2 64 ++ zeros 16), base, accepted_of (by decide +kernel)⟩⟩

theorem witness_ViewRows :
    (∃ (t0 : Time) (s : State), alive s = true ∧ s.view.state = 1 ∧ max s.now t0 ≤ s.view.startedAt + 5 * tpMs) ∧
    (∃ (t0 : Time) (s : State), alive s = true ∧ s.view.state = 1 ∧ s.view.startedAt + 5 * tpMs ≤ max s.now t0) ∧
    (∃ (s : State), alive s = true ∧ s.view.state = 2) ∧
    (∃ (s : State), alive s = true ∧ s.view.state = 3) ∧
    (∃ (s : State), alive s = true ∧ s.view.state ≠ 2 ∧ s.view.state ≠ 3) ∧
    (∃ (n : Nat) (s : State), alive s = true ∧ (s.view.state = 2 ∨ s.view.state = 3) ∧ n = s.view.line + 1 ∧ n < (viewMode s).vTotal) ∧
    (∃ (n : Nat) (s : State), alive s = true ∧ n ≠ s.view.line + 1) :=
  ⟨⟨10 * tpS + 5 * tpMs, withView { state := 1, startedAt := 10 * tpS }, by decide +kernel, by decide +kernel, by decide +kernel⟩,
   ⟨10 * tpS + 5 * tpMs, withView { state := 1, startedAt := 10 * tpS }, by decide +kernel, by decide +kernel, by decide +kernel⟩,
   ⟨withView { state := 2 }, by decide +kernel, by decide +kernel⟩,
   ⟨withView { state := 3, frame := 8 }, by decide +kernel, by decide +kernel⟩,
   ⟨base, by decide +kernel, by decide +kernel, by decide +kernel⟩,
   ⟨1124, withView { state := 2, line := 1123 }, by decide +kernel, by decide +kernel, by decide +kernel, by decide +kernel⟩,
   ⟨2, base, by decide +kernel, by decide +kernel⟩⟩

theorem witness_EveryCommandCompletes :
    ∃ (c : Instr) (rest : List Instr) (s : State), s.pending = c :: rest :=
  ⟨.identify (put []), [], { base with pending := [.identify (put [])] }, rfl⟩

theorem witness_DormantStaysDormant :
    ∃ (s : State) (t : State), Dormant s ∧ step s = .next t :=
  ⟨dormant, _, ⟨rfl, rfl⟩, rfl⟩

theorem witness_DormantIsSilent :
    ∃ (s : State) (t : State), Dormant s ∧ step s = .next t :=
  ⟨dormant, _, ⟨rfl, rfl⟩, rfl⟩

theorem witness_PagesKeepCanonicalForm :
    (∃ (t0 : Time) (id : BitVec 32) (o : LoadEnd) (s : State) (t : State), Calm s ∧ PagesWf s ∧ exec (.pageLoadEnd t0 id o) s = .next t) ∧
    (∃ (t0 : Time) (n : Int) (b : List (Fin 24 × Position × Nat)) (e : List (Fin 24 × Fin 4)) (k : Nat) (s : State) (t : State), Calm s ∧ PagesWf s ∧ exec (.lineFetch t0 n b e k) s = .next t) ∧
    (∃ (c : Cmd) (s : State) (t : State), Accepted pageLoadSpec c s ∧ PagesWf s ∧ exec (.pageLoad c) s = .next t) ∧
    (∃ (c : Cmd) (s : State) (t : State), Accepted pageDiscardSpec c s ∧ PagesWf s ∧ exec (.pageDiscard c) s = .next t) :=
  ⟨⟨11 * tpS, 9, .loaded 3342336 [(3, 5), (4, 0)], withMem { pages := [pageIn .loading] }, _, calm_of (by decide +kernel), (by unfold PagesWf; decide +kernel), rfl⟩,
   ⟨10 * tpS, 5, [], [], 0, printing, _, calm_of (by decide +kernel), (by unfold PagesWf; decide +kernel), rfl⟩,
   ⟨put pageParams, base, _, accepted_of (by decide +kernel), (by unfold PagesWf; decide +kernel), rfl⟩,
   ⟨put (leBytes 4 9), withMem { pages := [pageIn .resident] }, _, accepted_of (by decide +kernel), (by unfold PagesWf; decide +kernel), rfl⟩⟩

theorem witness_LineCodeRoundTrip :
    (∃ run, run ≤ 48) ∧
    (∃ run, 1 ≤ run ∧ run ≤ 48) :=
  ⟨⟨48, by decide +kernel⟩,
   ⟨48, by decide +kernel, by decide +kernel⟩⟩

theorem witness_EventBufferThresholds :
    (∃ (s : State), 512 ≤ s.bar0.buffer.length) ∧
    (∃ (e : Event) (s : State), 448 ≤ s.bar0.buffer.length ∧ severity e ≤ 2) ∧
    (∃ (e : Event) (s : State), 384 ≤ s.bar0.buffer.length ∧ severity e ≤ 1) ∧
    (∃ (s : State), s.bar0.buffer.length < 384) ∧
    (∃ (e : Event) (s : State), s.bar0.buffer.length < 448 ∧ severity e = 2) ∧
    (∃ (e : Event) (s : State), s.bar0.buffer.length < 512 ∧ severity e = 3) ∧
    (∃ (e : Event) (s : State), 512 ≤ s.bar0.buffer.length ∧ severity e = 3) :=
  ⟨⟨buffered 512, by decide +kernel⟩,
   ⟨event1, buffered 448, by decide +kernel, by decide +kernel⟩,
   ⟨{ event1 with code := 0x1001 }, buffered 384, by decide +kernel, by decide +kernel⟩,
   ⟨buffered 383, by decide +kernel⟩,
   ⟨event1, buffered 447, by decide +kernel, by decide +kernel⟩,
   ⟨{ event1 with code := 0x3001 }, buffered 511, by decide +kernel, by decide +kernel⟩,
   ⟨{ event1 with code := 0x3001 }, buffered 512, by decide +kernel, by decide +kernel⟩⟩

theorem witness_NothingLeavesWithoutDma :
    (∃ (s : State), dmaOk s = false) ∧
    (∃ (s : State), dmaOk s = false) ∧
    (∃ (s : State), dmaOk s = false) ∧
    (∃ (n : _) (s : State), dmaOk s = false ∧ bit (intMapOf s n) 8 = true) :=
  ⟨⟨noDma, by decide +kernel⟩,
   ⟨noDma, by decide +kernel⟩,
   ⟨noDma, by decide +kernel⟩,
   ⟨0, withBar0 (fun b => { b with intMap := [(0, 0x103)] }) noDma, by decide +kernel, by decide +kernel⟩⟩

theorem witness_HeadTime :
    ∃ (frac : Nat), frac < 65536 :=
  ⟨65535, by decide +kernel⟩

theorem witness_ColourConversion :
    ∃ (y : Nat) (cb : Nat) (cr : Nat), y ≤ 255 ∧ cb ≤ 255 ∧ cr ≤ 255 :=
  ⟨255, 0, 128, by decide +kernel, by decide +kernel, by decide +kernel⟩

theorem witness_ConfigurationRecords :
    ∃ s, CfgSized s :=
  ⟨base, base_sized⟩

end Sys2Proof.Machine.Tests
end

section
/-! SUPPORT. What a command of the host to this unit does beside its own effect, for a block that stands ready for it:
it is taken from the Command Ring, served, and answered, and neither the print path nor CAL has anything to follow. -/
namespace Sys2Proof.Machine.Laws
open Sys2Proof.Machine

/-! What an entry of the rings changes -/

/-- Two states differ at most in device time, the rings' registers and what has left the ports. -/
def RingsOnly (s t : State) : Prop := ∃ n b o, t = { s with now := n, bar0 := b, out := o }

theorem RingsOnly.trans {a b c : State} (hab : RingsOnly a b) (hbc : RingsOnly b c) : RingsOnly a c := by
  obtain ⟨_, _, _, rfl⟩ := hab
  obtain ⟨n, b, o, rfl⟩ := hbc
  exact ⟨n, b, o, rfl⟩

theorem RingsOnly.rng {s t : State} (h : RingsOnly s t) : t.rng = s.rng := by
  obtain ⟨_, _, _, rfl⟩ := h; rfl

theorem RingsOnly.cal {s t : State} (h : RingsOnly s t) : t.cal = s.cal := by
  obtain ⟨_, _, _, rfl⟩ := h; rfl

theorem RingsOnly.onlyParts {s t : State} (h : RingsOnly s t) : OnlyParts replyParts s t := by
  obtain ⟨n, b, o, rfl⟩ := h
  refine ⟨rfl, fun p hp => ?_⟩
  cases p with
  | bar0 | out => exact absurd hp (by decide)
  | _ => rfl

theorem sendMessage_ringsOnly (n : Nat) (s : State) : RingsOnly s (sendMessage n s) := by
  dsimp only [sendMessage]
  split
  · exact ⟨_, _, _, rfl⟩
  · split
    · exact ⟨_, _, _, rfl⟩
    · exact ⟨_, _, _, rfl⟩

theorem countEntry_ringsOnly (n : Nat) (s : State) : RingsOnly s (countEntry n s) := by
  rw [countEntry]
  split
  · exact sendMessage_ringsOnly n s
  · dsimp only
    split
    · exact RingsOnly.trans ⟨_, _, _, rfl⟩ (sendMessage_ringsOnly n _)
    · exact ⟨_, _, _, rfl⟩

theorem writeReply_ringsOnly (r : Reply) (s : State) : RingsOnly s (writeReply r s) :=
  RingsOnly.trans ⟨_, _, _, rfl⟩ (countEntry_ringsOnly 0 _)

theorem reply_ringsOnly (r : Reply) (s : State) : RingsOnly s (reply r s) := by
  rw [reply]
  split
  · exact writeReply_ringsOnly r s
  · exact ⟨_, _, _, rfl⟩

theorem answer_ringsOnly (op : Nat) (c : Cmd) (v : Verdict) (s : State) : RingsOnly s (answer op c v s) := by
  rw [answer]
  split
  · exact reply_ringsOnly _ s
  · exact ⟨_, _, _, rfl⟩

/-! The reply last written -/

theorem sendMessage_lastReply (n : Nat) (s : State) : lastReply (sendMessage n s).out = lastReply s.out := by
  dsimp only [sendMessage]
  split
  · rfl
  · split
    · rfl
    · rfl

theorem countEntry_lastReply (n : Nat) (s : State) : lastReply (countEntry n s).out = lastReply s.out := by
  rw [countEntry]
  split
  · exact sendMessage_lastReply n s
  · dsimp only
    split
    · exact sendMessage_lastReply n _
    · rfl

theorem writeReply_lastReply (r : Reply) (s : State) : lastReply (writeReply r s).out = some r :=
  countEntry_lastReply 0 _

/-- A reply that fits into the Reply Ring, with none held before it, is written at once (R56). -/
theorem reply_lastReply {r : Reply} {s : State} (hheld : s.bar0.heldReplies = [])
    (hroom : canWriteReply s (replyEntries r) = true) : lastReply (reply r s).out = some r := by
  simp only [reply, hheld, hroom, List.isEmpty_nil, Bool.and_self, if_true, writeReply_lastReply]

/-- A status other than E_OK and E_PENDING is replied even where no reply was asked for (R50). -/
theorem answer_of_refused (op : Nat) (c : Cmd) (v : Verdict) (s : State) (hok : v.1 ≠ eOk) (hpend : v.1 ≠ ePending) :
    answer op c v s = reply { seq := c.seq, status := BitVec.ofNat 16 v.1, opcode := BitVec.ofNat 16 op, result := v.2,
                              source := BitVec.ofNat 8 s.rng.address.toNat } s := by
  have hanswered : (replyWanted c || !(v.1 == eOk || v.1 == ePending)) = true := by
    rw [beq_false_of_ne hok, beq_false_of_ne hpend, Bool.or_false, Bool.not_false, Bool.or_true]
  rw [answer, if_pos hanswered]

/-! A step of a steady core -/

theorem settleStop_of_noAuto {s : State} (h : s.hub.auto = none) : settleStop s = s := by
  simp only [settleStop, h]

/-- CAL has nothing to do with no run in its table and no spare encoder in use. -/
theorem calStep_of_noRuns {s : State} (hruns : s.cal.runs = []) (hspare : s.cal.spareHome = none) : calStep s = s := by
  have hprogress : progressOnce s = s := by simp only [progressOnce, hruns, List.find?_nil]
  have hfix : fixBoundaries s = s := by
    simp only [fixBoundaries, acceptedRuns, hruns, each, List.filter_nil, List.foldl_nil]
  have hsettle : spareSettle s = s := by simp only [spareSettle, hspare]
  have hstart : startNext s = s := by
    simp only [startNext, calActive, hruns, List.any_nil, Bool.false_eq_true, if_false, List.find?_nil]
  rw [calStep, hprogress, hfix, hsettle, hstart, hprogress]

theorem atPrint_of_steady {s : State} (h : Steady s) (t : Time) (f : State → State) :
    atPrint t f s = .next (keepQueue s (f (advance t s))) := by
  have halive : alive (advance t s) = true := h.running
  simp only [atPrint, atTime, halive, if_true]
  rw [settleStop_of_noAuto (by rw [advance_hub]; exact h.noAuto)]
  rfl

/-! A command taken from the Command Ring -/

theorem entriesOf_pos (c : Cmd) : 0 < entriesOf c := by
  rw [entriesOf]
  split
  · omega
  · omega

theorem entriesOf_le (c : Cmd) : entriesOf c ≤ 16 := by
  rw [entriesOf]
  split
  · omega
  · omega

theorem inUse_self {size i : Nat} : inUse size i i = 0 := by
  rw [inUse, Nat.add_sub_cancel_left, Nat.mod_self]

/-- The entries between an index and the one `n` behind it are `n`, in a ring of more than `n` entries. -/
theorem inUse_add {size i n : Nat} (hi : i < size) (hn : n < size) : inUse size ((i + n) % size) i = n := by
  rw [inUse]
  rcases Nat.lt_or_ge (i + n) size with hlt | hge
  · rw [Nat.mod_eq_of_lt hlt, show i + n + size - i = n + size by omega, Nat.add_mod_right, Nat.mod_eq_of_lt hn]
  · rw [Nat.mod_eq_sub_mod hge, Nat.mod_eq_of_lt (by omega : i + n - size < size),
      show i + n - size + size - i = n by omega, Nat.mod_eq_of_lt hn]

/-- Index behind the entries of a command that is the only one in the Command Ring. -/
def cmdEnd (c : Cmd) (s : State) : Nat := (s.bar0.cmd.idx + entriesOf c) % s.bar0.cmd.size.toNat

/-- The Command Ring holds one command, covered by the tail and not yet begun. -/
def placedIn (op : Nat) (c : Cmd) (s : State) : State :=
  { s with bar0 := { s.bar0 with placed := [{ opcode := op, cmd := c }], cmd := { s.bar0.cmd with other := cmdEnd c s } } }

/-- The state in which a command is carried out: its entries are consumed and the ring is empty. -/
def takenFrom (c : Cmd) (s : State) : State :=
  { s with bar0 := { s.bar0 with
    placed := [], cmd := { s.bar0.cmd with idx := cmdEnd c s, other := cmdEnd c s } } }

theorem takenFrom_ringsOnly (c : Cmd) (s : State) : RingsOnly s (takenFrom c s) := ⟨_, _, _, rfl⟩

section
variable {c : Cmd} {s : State}

/-- Readiness does not depend on device time. -/
theorem ready_advance (h : Ready c s) (t : Time) : Ready c (advance t s) :=
  { h with steady := ⟨h.steady.running, h.steady.noAuto, h.steady.noSpare, h.steady.nonePlaced⟩ }

theorem place_of_ready (h : Ready c s) (op : Nat) : place_ op c s = placedIn op c s := by
  have hn := entriesOf_pos c
  have hfit : entriesOf c < s.bar0.cmd.size.toNat := Nat.lt_of_le_of_lt (entriesOf_le c) h.cmdSize
  have hend : placedEnd s = s.bar0.cmd.idx := by
    simp only [placedEnd, h.steady.nonePlaced, sumNat, List.map_nil, List.foldl_nil, Nat.add_zero,
      Nat.mod_eq_of_lt h.cmdIdx]
  have hroom : ¬ (!ringUsable s.bar0.cmd ∨ s.bar0.cmd.size.toNat ≤ 0 + entriesOf c) := by
    simp only [h.cmdRing, Nat.zero_add, Bool.not_true, Bool.false_eq_true, Nat.not_le.mpr hfit, or_self, not_false_eq_true]
  simp only [place_, hend, h.cmdRead, inUse_self, if_neg hroom, if_neg (Nat.not_le.mpr hn), h.steady.nonePlaced,
    List.nil_append, placedIn, cmdEnd]

theorem mayBegin_placedIn (h : Ready c s) (op : Nat) : mayBegin c (placedIn op c s) = true := by
  have hfit : entriesOf c < s.bar0.cmd.size.toNat := Nat.lt_of_le_of_lt (entriesOf_le c) h.cmdSize
  have hcovered : inUse s.bar0.cmd.size.toNat (cmdEnd c s) s.bar0.cmd.idx = entriesOf c := inUse_add h.cmdIdx hfit
  have hplaced : entriesOf c ≤ inUse (placedIn op c s).bar0.cmd.size.toNat (placedIn op c s).bar0.cmd.other
      (placedIn op c s).bar0.cmd.idx := Nat.le_of_eq hcovered.symm
  have hserved : hubServes (placedIn op c s) = true := h.served
  have hcmd : ringUsable (placedIn op c s).bar0.cmd = true := h.cmdRing
  have hrpl : ringUsable (placedIn op c s).bar0.rpl = true := h.rplRing
  have hdma : dmaOk (placedIn op c s) = true := h.dma
  have hroom : 16 ≤ ringFree (placedIn op c s).bar0.rpl := h.rplRoom
  have hunprepared : (placedIn op c s).rng.prepared = none := h.unprepared
  simp only [mayBegin, hplaced, hserved, hcmd, hrpl, hdma, hroom, hunprepared, decide_true, Option.isNone_none,
    Bool.and_self]

/-- A command placed in an idle ring begins at once and is the only one to be served. -/
theorem service_place_of_ready (h : Ready c s) (op : Nat) : service (place_ op c s) = serve op c (takenFrom c s) := by
  rw [place_of_ready h]
  change (if mayBegin c (placedIn op c s) then serve op c (takenFrom c s) else placedIn op c s) = _
  rw [if_pos (mayBegin_placedIn h op)]

/-- A command of the host in a ready block is what serving it does, where that leaves CAL with nothing to follow. -/
theorem hostCommand_of_ready (h : Ready c s) (op : Nat)
    (hruns : (serve op c (takenFrom c (advance c.t s))).cal.runs = [])
    (hspare : (serve op c (takenFrom c (advance c.t s))).cal.spareHome = none) :
    hostCommand op c s = .next (keepQueue s (serve op c (takenFrom c (advance c.t s)))) := by
  rw [hostCommand, serviceStep, atPrint_of_steady h.steady, service_place_of_ready (ready_advance h c.t),
    calStep_of_noRuns hruns hspare]

/-- The Reply Ring of a ready block takes a reply of up to 16 entries while a command is carried out. -/
theorem canWriteReply_takenFrom (h : Ready c s) {n : Nat} (hn : n ≤ 16) : canWriteReply (takenFrom c s) n = true := by
  have hring : ringUsable (takenFrom c s).bar0.rpl = true := h.rplRing
  have hdma : dmaOk (takenFrom c s) = true := h.dma
  have hroom : n ≤ ringFree (takenFrom c s).bar0.rpl := Nat.le_trans hn h.rplRoom
  simp only [canWriteReply, hring, hdma, hroom, decide_true, Bool.and_self]

/-- A command that is served by a refusal alone is answered with its status and result, and nothing else of the device
changes. -/
theorem hostCommand_of_refused (h : Ready c s) (hnone : s.cal.runs = []) {op : Nat} {v : Verdict}
    (hserve : serve op c (takenFrom c (advance c.t s)) = answer op c v (takenFrom c (advance c.t s)))
    (hok : v.1 ≠ eOk) (hpend : v.1 ≠ ePending) (hlen : 1 + contsFor v.2.length ≤ 16) :
    Runs (hostCommand op c s) fun t =>
      lastReply t.out = some { seq := c.seq, status := BitVec.ofNat 16 v.1, opcode := BitVec.ofNat 16 op, result := v.2,
                               source := BitVec.ofNat 8 s.rng.address.toNat } ∧ OnlyParts replyParts s t := by
  have htaken : RingsOnly s (takenFrom c (advance c.t s)) := RingsOnly.trans ⟨_, _, _, rfl⟩ (takenFrom_ringsOnly c _)
  have hrings : RingsOnly s (answer op c v (takenFrom c (advance c.t s))) := htaken.trans (answer_ringsOnly op c v _)
  refine ⟨_, hostCommand_of_ready h op ?_ ?_, ?_, ?_⟩
  · rw [hserve, hrings.cal, hnone]
  · rw [hserve, hrings.cal, h.steady.noSpare]
  · rw [hserve, keepQueue_out, answer_of_refused op c v _ hok hpend, htaken.rng]
    exact reply_lastReply h.noneHeld (canWriteReply_takenFrom (ready_advance h c.t) hlen)
  · rw [hserve]
    exact ⟨rfl, hrings.onlyParts.2⟩

end

/-- An opcode of no command is refused before anything else of the command is looked at (R5, R53). -/
theorem serve_of_undefined {op : Nat} (h : specOf op = none) (c : Cmd) (s : State) :
    serve op c s = answer op c (eBadOpcode, []) s := by
  simp only [serve, h]

end Sys2Proof.Machine.Laws
end

section
/-! SUPPORT. The scope of the opcodes: what the manual does not define (R5). -/
namespace Sys2Proof.Machine.Proofs
open Sys2Proof.Machine Sys2Proof.Machine.Laws

/-- Settles O4: nothing but the lookup of the opcode decides, and its refusal is answered with room to spare. -/
theorem undefinedOpcodeAnswered : Obligations.UndefinedOpcodeAnswered := by
  intro op c s hop hready hruns
  have hrefused := hostCommand_of_refused hready hruns (serve_of_undefined hop c _) (by decide) (by decide) (by decide)
  rwa [BitVec.ofNat_toNat, BitVec.setWidth_eq] at hrefused

end Sys2Proof.Machine.Proofs
end

section
/-! SUPPORT. The on-chip event buffer: what it does with an event that cannot be written to the Event Ring (R61). -/
namespace Sys2Proof.Machine.Laws
open Sys2Proof.Machine

/-- R61: whether a buffer that holds `n` events discards one of severity `v` (1 information, 2 warning, 3 fault). -/
def Discards (n v : Nat) : Prop := 512 ≤ n ∨ (448 ≤ n ∧ v ≤ 2) ∨ (384 ≤ n ∧ v ≤ 1)

theorem not_discards_iff {n v : Nat} : ¬ Discards n v ↔ n < 512 ∧ (n < 448 ∨ 2 < v) ∧ (n < 384 ∨ 1 < v) := by
  unfold Discards
  omega

section
variable {e : Event} {s : State}

/-- An event the buffer has room for is its newest, and nothing else of the device changes. -/
theorem bufferEvent_of_not_discards (h : ¬ Discards s.bar0.buffer.length (severity e)) :
    bufferEvent e s = { s with bar0 := { s.bar0 with buffer := s.bar0.buffer ++ [e] } } :=
  if_neg h

/-- A discarded event is only counted, by its severity. -/
theorem bufferEvent_of_discards (h : Discards s.bar0.buffer.length (severity e)) :
    bufferEvent e s =
      if severity e = 1 then { s with bar0 := { s.bar0 with lostInfo := s.bar0.lostInfo + 1 } }
      else if severity e = 2 then { s with bar0 := { s.bar0 with lostWarn := s.bar0.lostWarn + 1 } }
      else { s with bar0 := { s.bar0 with lostFault := s.bar0.lostFault + 1 } } :=
  if_pos h

theorem bufferEvent_buffer_of_not_discards (h : ¬ Discards s.bar0.buffer.length (severity e)) :
    (bufferEvent e s).bar0.buffer = s.bar0.buffer ++ [e] := by
  rw [bufferEvent_of_not_discards h]

theorem bufferEvent_buffer_of_discards (h : Discards s.bar0.buffer.length (severity e)) :
    (bufferEvent e s).bar0.buffer = s.bar0.buffer := by
  rw [bufferEvent_of_discards h]
  split
  · rfl
  · split
    · rfl
    · rfl

theorem bufferEvent_lostFault_of_discards (h : Discards s.bar0.buffer.length (severity e)) (hfault : severity e = 3) :
    (bufferEvent e s).bar0.lostFault = s.bar0.lostFault + 1 := by
  rw [bufferEvent_of_discards h, if_neg (by omega), if_neg (by omega)]

end

end Sys2Proof.Machine.Laws
end

section
/-! SUPPORT. The event buffer's thresholds (R61). -/
namespace Sys2Proof.Machine.Proofs
open Sys2Proof.Machine Sys2Proof.Machine.Laws

/-- Settles O56: each clause is one side of the buffer's rule for discarding, by occupancy and severity. -/
theorem eventBufferThresholds : Obligations.EventBufferThresholds := by
  refine ⟨?full, ?warning, ?information, ?anyTaken, ?warningTaken, ?faultTaken, ?faultCounted⟩
  case full =>
    intro e s hn
    exact bufferEvent_buffer_of_discards (.inl hn)
  case warning =>
    intro e s hn hsev
    exact bufferEvent_buffer_of_discards (.inr (.inl ⟨hn, hsev⟩))
  case information =>
    intro e s hn hsev
    exact bufferEvent_buffer_of_discards (.inr (.inr ⟨hn, hsev⟩))
  case anyTaken =>
    intro e s hn
    exact bufferEvent_buffer_of_not_discards (not_discards_iff.mpr ⟨by omega, .inl (by omega), .inl hn⟩)
  case warningTaken =>
    intro e s hn hsev
    exact bufferEvent_buffer_of_not_discards (not_discards_iff.mpr ⟨by omega, .inl hn, .inr (by omega)⟩)
  case faultTaken =>
    intro e s hn hsev
    exact bufferEvent_buffer_of_not_discards (not_discards_iff.mpr ⟨hn, .inr (by omega), .inr (by omega)⟩)
  case faultCounted =>
    intro e s hn hsev
    exact bufferEvent_lostFault_of_discards (.inl hn) hsev

end Sys2Proof.Machine.Proofs
end

section
/-! SUPPORT. What a step does in reset or without power: every row but the resets, their release and the restart of the
core acts only while the core runs, and otherwise moves device time alone (R89, R355; log entry 17). -/
namespace Sys2Proof.Machine.Laws
open Sys2Proof.Machine

section
variable {s : State}

/-- What every step that needs a running core comes to in a dead one. It is stated of the outcome such a step unfolds to,
so that it serves each of the model's step forms (`atTime`, `atPrint`, `serviceStep`, `hostCommand`, `atCal`, `atWeb`). -/
theorem next_of_not_alive (h : alive s = false) (t : Time) (acted : State) :
    (.next (keepQueue (advance t s) (if alive (advance t s) then acted else advance t s)) :
      Host.Outcome State Fault Refusal) = .next (advance t s) := by
  have hadvanced : alive (advance t s) = false := h
  rw [hadvanced, if_neg Bool.false_ne_true]
  rfl

/-- Only the resets, their release and the restart of the core act while the core does not run. -/
theorem exec_of_not_alive (i : Instr) (hrow : isResetRow i = false) (h : alive s = false) :
    ∃ t, exec i s = .next (advance t s) := by
  cases i with
  | powerOnReset | powerOnResetRelease | resetNLow | perst | perstRelease | deviceResetExecute | lockstepReset
  | coreRestart => cases hrow
  | _ => exact ⟨_, next_of_not_alive h _ _⟩

theorem advance_now_self (s : State) : advance s.now s = s := by
  rw [advance, Nat.max_self]

/-- A step in reset or without power takes the command at the front of the queue, if one waits, and moves device time. -/
theorem step_of_dormant (h : Dormant s) : ∃ t, step s = .next (advance t { s with pending := s.pending.tail }) := by
  obtain ⟨hdead, hqueue⟩ := h
  cases hp : s.pending with
  | nil =>
    have hidle : step s = .next s := by rw [step, hp]
    have hsame : { s with pending := ([] : List Instr).tail } = s := by rw [List.tail_nil, ← hp]
    exact ⟨s.now, by rw [hidle, hsame, advance_now_self]⟩
  | cons c rest =>
    have hrun : step s = exec c { s with pending := rest } := by rw [step, hp]
    rw [hp, List.all_cons, Bool.and_eq_true, Bool.not_eq_true'] at hqueue
    obtain ⟨hrow, -⟩ := hqueue
    rw [hrun]
    exact exec_of_not_alive c hrow hdead

/-- All that can have happened in a step in reset or without power. -/
theorem eq_advance_of_step_of_dormant {t : State} (h : Dormant s) (hstep : step s = .next t) :
    ∃ t0, t = advance t0 { s with pending := s.pending.tail } := by
  obtain ⟨t0, hnext⟩ := step_of_dormant h
  exact ⟨t0, Host.Outcome.next.inj (hstep.symm.trans hnext)⟩

end

end Sys2Proof.Machine.Laws
end

section
/-! SUPPORT. A block in reset or without power (R89, R344, R355). -/
namespace Sys2Proof.Machine.Proofs
open Sys2Proof.Machine Sys2Proof.Machine.Laws

/-- Settles O49: a step touches neither reset nor core power, and only shortens the queue. -/
theorem dormantStaysDormant : Obligations.DormantStaysDormant := by
  intro s t hdormant hstep
  obtain ⟨t0, rfl⟩ := eq_advance_of_step_of_dormant hdormant hstep
  obtain ⟨hdead, hqueue⟩ := hdormant
  have hrest : s.pending.tail.all (fun c => !isResetRow c) = true :=
    List.all_eq_true.mpr fun c hc => List.all_eq_true.mp hqueue c (List.mem_of_mem_tail hc)
  exact ⟨hdead, hrest⟩

/-- Settles O50: a step advances device time and takes the front of the queue, and that is all (log entry 17). -/
theorem dormantIsSilent : Obligations.DormantIsSilent := by
  intro s t hdormant hstep
  obtain ⟨t0, rfl⟩ := eq_advance_of_step_of_dormant hdormant hstep
  exact ⟨rfl, rfl⟩

end Sys2Proof.Machine.Proofs
end

section
/-! SUPPORT. The configuration records: how many bytes each setting has, and what a block's record holds in order (R36). -/
namespace Sys2Proof.Machine.Laws
open Sys2Proof.Machine

/-- How many bytes each setting has in a configuration record. -/
def settingLength : CfgSlot → Nat
  | .hub => 8
  | .timeSource => 16
  | .ptp _ => 24
  | .netPort _ => 40
  | .snapPin => 8
  | .window _ => 20
  | .encInput _ => 32
  | .regulator => 16
  | .pulse => 12
  | .memPort _ => 8
  | .memConfig => 8
  | .dram => 8
  | .grtBar => 8
  | .grtModule _ => 16
  | .grtStitch _ => 776
  | .escConfig => 8
  | .runAhead => 4
  | .profile => 96
  | .rowOffset _ => 8
  | .hlkConfig => 8
  | .lane _ => 8
  | .ringConfig => 16
  | .ringPort _ => 8
  | .ldgConfig => 24
  | .camera _ => 24
  | .compare => 32
  | .display => 16
  | .view => 16
  | .calPolicy => 32
  | .thermal => 16
  | .axis _ => 80
  | .mss => 8

theorem length_zeros (n : Nat) : (zeros n).length = n :=
  List.length_replicate

theorem length_leBytes (n v : Nat) : (leBytes n v).length = n := by
  induction n generalizing v with
  | zero => rfl
  | succ n ih => rw [leBytes, List.length_cons, ih]

theorem length_seBytes (n : Nat) (i : Int) : (seBytes n i).length = n :=
  length_leBytes n _

theorem length_cfgDefault (k : CfgSlot) : (cfgDefault k).length = settingLength k := by
  cases k <;> simp [cfgDefault, settingLength, length_zeros, length_leBytes, length_seBytes]

section
variable {s : State}

theorem length_cfgGet (h : CfgSized s) (k : CfgSlot) : (cfgGet s k).length = settingLength k :=
  (h k).trans (length_cfgDefault k)

theorem recordSlot_of_ne {k : CfgSlot} (hk : k ≠ .runAhead) : recordSlot s k = cfgGet s k :=
  if_neg fun h => hk h.1

/-- The depth of run-ahead firing reads 16 while its feature is not accepted (R180). -/
theorem recordSlot_runAhead :
    recordSlot s .runAhead = if hasFeature s 3 then cfgGet s .runAhead else [16, 0, 0, 0] := by
  cases hf : hasFeature s 3 with
  | false => simp only [recordSlot, hf]; rfl
  | true => simp [recordSlot, hf]

theorem length_recordSlot (h : CfgSized s) (k : CfgSlot) : (recordSlot s k).length = settingLength k := by
  unfold recordSlot
  split
  · next hdepth =>
    rw [hdepth.1]
    rfl
  · exact length_cfgGet h k

/-- A record is as long as the settings of its block together. -/
theorem length_blockRecord (h : CfgSized s) (b : Nat) :
    (blockRecord s b).length = ((blockSlots b).map settingLength).sum := by
  simp only [blockRecord, List.length_flatMap, length_recordSlot h]

/-- The record of a block without run-ahead firing holds the block's settings in force. -/
theorem blockRecord_of_notMem {b : Nat} (hb : .runAhead ∉ blockSlots b) :
    blockRecord s b = (blockSlots b).flatMap (cfgGet s) := by
  have hslots : (blockSlots b).map (recordSlot s) = (blockSlots b).map (cfgGet s) :=
    List.map_congr_left fun _ hk => recordSlot_of_ne (ne_of_mem_of_not_mem hk hb)
  rw [blockRecord, List.flatMap_def, hslots, List.flatMap_def]

end

end Sys2Proof.Machine.Laws
end

section
/-! SUPPORT. The configuration records of ENC, GRT, ESC, HLK and INS (R124, R159, R180, R213, R262). -/
namespace Sys2Proof.Machine.Proofs
open Sys2Proof.Machine Sys2Proof.Machine.Laws

/-- Settles O60: a record's length is the sum of its settings' bytes, and only ESC's record holds a slot that reads as
anything but the setting in force. -/
theorem configurationRecords : Obligations.ConfigurationRecords := by
  intro s hsized
  refine ⟨⟨?encLength, ?encOrder⟩, ⟨?grtLength, ?grtOrder⟩, ⟨?escLength, ?escOrder⟩, ⟨?hlkLength, ?hlkOrder⟩,
    ?insLength, ?insOrder⟩
  case encLength | grtLength | escLength | hlkLength | insLength =>
    rw [length_blockRecord hsized]
    rfl
  case encOrder | grtOrder | hlkOrder | insOrder =>
    rw [blockRecord_of_notMem (by decide)]
    simp [blockSlots, List.flatMap_map]
  case escOrder =>
    simp [blockRecord, blockSlots, List.flatMap_map, recordSlot_runAhead, recordSlot_of_ne]

end Sys2Proof.Machine.Proofs
end

section
/-! SUPPORT. The line code of the head links: the scrambler and its inverse, and the stuff bits (R184, R185). -/
namespace Sys2Proof.Machine.Laws
open Sys2Proof.Machine

/-! The scrambler (R184) -/

@[simp] theorem scrambleBit_scrambleBit (r : List Bool) (b : Bool) : scrambleBit r (scrambleBit r b) = b := by
  simp [scrambleBit]

/-- Descrambling undoes scrambling from the same register, and both leave the same register. -/
theorem descramble_scramble (r bs : List Bool) : descramble r (scramble r bs).1 = (bs, (scramble r bs).2) := by
  induction bs generalizing r with
  | nil => rfl
  | cons b bs ih => simp [scramble, descramble, ih]

/-- Two registers hold the same bits but for at most the `n` oldest of the 31. -/
def AgreeButOldest (n : Nat) (r r' : List Bool) : Prop := ∀ j, j + n < 31 → r.getD j false = r'.getD j false

section
variable {n : Nat} {r r' : List Bool}

theorem agreeButOldest_all (r r' : List Bool) : AgreeButOldest 31 r r' :=
  fun _ hj => absurd hj (by omega)

theorem getD_shiftIn_succ (r : List Bool) (b : Bool) {j : Nat} (hj : j < 30) :
    (shiftIn r b).getD (j + 1) false = r.getD j false := by
  simp [shiftIn, List.getD_eq_getElem?_getD, hj]

/-- Each bit shifted into both registers drives one more bit on which they differ out of them. -/
theorem AgreeButOldest.shiftIn (h : AgreeButOldest n r r') (b : Bool) :
    AgreeButOldest (n - 1) (shiftIn r b) (shiftIn r' b) := by
  intro j hj
  cases j with
  | zero => rfl
  | succ j =>
    rw [getD_shiftIn_succ r b (by omega), getD_shiftIn_succ r' b (by omega)]
    exact h j (by omega)

theorem scrambleBit_eq_of_agree (h : AgreeButOldest 0 r r') (b : Bool) : scrambleBit r' b = scrambleBit r b := by
  simp only [scrambleBit, h 27 (by omega), h 30 (by omega)]

/-- A descrambler whose register is wrong in the `n` oldest bits at most is wrong in the first `n` bits at most. -/
theorem drop_descramble_scramble (h : AgreeButOldest n r r') (bs : List Bool) :
    (descramble r' (scramble r bs).1).1.drop n = bs.drop n := by
  induction bs generalizing n r r' with
  | nil => rfl
  | cons b bs ih =>
    have hrest := ih (h.shiftIn (scrambleBit r b))
    simp only [scramble, descramble]
    cases n with
    | zero =>
      rw [scrambleBit_eq_of_agree h, scrambleBit_scrambleBit]
      exact congrArg (b :: ·) hrest
    | succ n => exact hrest

end

/-! Stuff bits (R185) -/

section
variable {last : Bool} {run : Nat}

/-- The run that a line bit ends, after a run of `run` bits `last`. -/
def runAfter (last : Bool) (run : Nat) (b : Bool) : Nat := if b = last then run + 1 else 1

theorem stuff_nil_of_lt (h : run < 48) : stuff last run [] = [] := if_neg (by omega)

theorem stuff_cons_of_lt (h : run < 48) (b : Bool) (bs : List Bool) :
    stuff last run (b :: bs) = b :: stuff b (runAfter last run b) bs := if_neg (by omega)

/-- After a run of 48 the opposite bit is sent, and the rest as after a run of that one bit. -/
theorem stuff_full (last : Bool) (bs : List Bool) : stuff last 48 bs = (!last) :: stuff (!last) 1 bs := by
  cases bs <;> rfl

theorem unstuff_cons_of_lt (h : run < 48) (b : Bool) (bs : List Bool) :
    unstuff last run (b :: bs)
      = (b :: (unstuff b (runAfter last run b) bs).1, (unstuff b (runAfter last run b) bs).2) := if_neg (by omega)

/-- The bit after a run of 48 is removed, and is no violation when it differs from the run. -/
theorem unstuff_full (last : Bool) (bs : List Bool) : unstuff last 48 ((!last) :: bs) = unstuff (!last) 1 bs := by
  simp [unstuff, b2n]

theorem runAfter_le (h : run < 48) (b : Bool) : runAfter last run b ≤ 48 := by
  unfold runAfter
  split <;> omega

/-- Induction along the line: a full run gives one stuff bit and leaves a run of that bit; else the next bit is sent. -/
theorem stuff_induction {motive : ∀ (_ : Bool) (run : Nat) (_ : List Bool), run ≤ 48 → Prop}
    (full : ∀ last bs, motive (!last) 1 bs (by omega) → motive last 48 bs (Nat.le_refl 48))
    (nil : ∀ last run (h : run < 48), motive last run [] (Nat.le_of_lt h))
    (cons : ∀ last run b bs (h : run < 48),
      motive b (runAfter last run b) bs (runAfter_le h b) → motive last run (b :: bs) (Nat.le_of_lt h))
    (last : Bool) (run : Nat) (bs : List Bool) (h : run ≤ 48) : motive last run bs h := by
  induction bs generalizing last run with
  | nil =>
    obtain hlt | rfl := Nat.lt_or_eq_of_le h
    · exact nil last run hlt
    · exact full last [] (nil (!last) 1 (by omega))
  | cons b bs ih =>
    have hshort : ∀ l n (hn : n < 48), motive l n (b :: bs) (Nat.le_of_lt hn) := fun l n hn =>
      cons l n b bs hn (ih b (runAfter l n b) (runAfter_le hn b))
    obtain hlt | rfl := Nat.lt_or_eq_of_le h
    · exact hshort last run hlt
    · exact full last (b :: bs) (hshort (!last) 1 (by omega))

/-- What the transmitter stuffs, the receiver gives back without a violation. -/
theorem unstuff_stuff (last : Bool) (run : Nat) (bs : List Bool) (h : run ≤ 48) :
    unstuff last run (stuff last run bs) = (bs, 0) := by
  induction last, run, bs, h using stuff_induction with
  | full last bs ih => rw [stuff_full, unstuff_full, ih]
  | nil last run h => rw [stuff_nil_of_lt h, unstuff]
  | cons last run b bs h ih => rw [stuff_cons_of_lt h, unstuff_cons_of_lt h, ih]

/-- Some bit stands 49 times in a row in a sequence of line bits. -/
def LongRun (l : List Bool) : Prop := ∃ v, List.replicate 49 v <:+: l

theorem not_longRun_replicate (last : Bool) (h : run ≤ 48) : ¬ LongRun (List.replicate run last) := by
  rintro ⟨v, hrun⟩
  have hlen := hrun.length_le
  simp only [List.length_replicate] at hlen
  omega

/-- 49 equal bits that begin within a run of at most 48 would have to hold the run's bit and the one that ends it. -/
theorem not_isPrefix_of_replicate (h : run ≤ 47) (v : Bool) (rest : List Bool) :
    ¬ List.replicate 49 v <+: List.replicate (run + 1) last ++ (!last) :: rest := by
  intro hstart
  have hlen : run + 1 < (List.replicate 49 v).length := by rw [List.length_replicate]; omega
  have hfirst : v = last := by simpa [List.getElem_append] using hstart.getElem (Nat.zero_lt_of_lt hlen)
  have hend : v = !last := by
    have hbit := hstart.getElem hlen
    rw [List.getElem_replicate] at hbit
    simpa using hbit
  exact Bool.not_eq_self last |>.mp (hend.symm.trans hfirst)

/-- 49 equal bits do not reach across the end of a run of at most 48. -/
theorem LongRun.of_replicate_append (h : run ≤ 48) {rest : List Bool}
    (hrun : LongRun (List.replicate run last ++ (!last) :: rest)) : LongRun ((!last) :: rest) := by
  induction run with
  | zero => exact hrun
  | succ run ih =>
    obtain ⟨v, hv⟩ := hrun
    have hnext := (List.infix_cons_iff.mp hv).resolve_left (not_isPrefix_of_replicate (by omega) v rest)
    exact ih (by omega) ⟨v, hnext⟩

/-- A run of at most 48 and the line bits that follow it hold no 49 equal bits in a row. -/
theorem not_longRun_stuff (last : Bool) (run : Nat) (bs : List Bool) (h : run ≤ 48) :
    ¬ LongRun (List.replicate run last ++ stuff last run bs) := by
  induction last, run, bs, h using stuff_induction with
  | full last bs ih =>
    rw [stuff_full]
    exact fun hrun => ih (hrun.of_replicate_append (Nat.le_refl 48))
  | nil last run h =>
    rw [stuff_nil_of_lt h, List.append_nil]
    exact not_longRun_replicate last (Nat.le_of_lt h)
  | cons last run b bs h ih =>
    rw [stuff_cons_of_lt h]
    obtain rfl | hb := Decidable.em (b = last)
    · rw [runAfter, if_pos rfl] at ih ⊢
      rwa [List.replicate_succ', List.append_assoc] at ih
    · rw [runAfter, if_neg hb] at ih ⊢
      obtain rfl := Bool.eq_not_of_ne hb
      exact fun hrun => ih (hrun.of_replicate_append (Nat.le_of_lt h))

end

end Sys2Proof.Machine.Laws
end

section
/-! SUPPORT. Head time: device time in units of 125 ps, modulo 2^40 (R163, R191). -/
namespace Sys2Proof.Machine.Laws
open Sys2Proof.Machine

/-- The head time of a whole number of 125 ps is that number. -/
theorem headTime_mul_unit (k : Nat) : headTime (k * 8192) = k % 2 ^ 40 := by
  simp [headTime, headUnit]

/-- Seconds, nanoseconds and the fraction in 2^-16 ns give the count of 125 ps units that R191 writes out. -/
theorem headTime_of_parts (sec ns frac : Nat) :
    headTime ((sec * 10 ^ 9 + ns) * 65536 + frac) = ((sec * 10 ^ 9 + ns) * 8 + frac / 8192) % 2 ^ 40 := by
  have hunits : ((sec * 10 ^ 9 + ns) * 65536 + frac) / 8192 = (sec * 10 ^ 9 + ns) * 8 + frac / 8192 := by omega
  rw [headTime, headUnit, hunits]

/-- Head time wraps after 2^40 units. -/
theorem headTime_add_wrap (t : Nat) : headTime (t + 137438953472 * 65536) = headTime t := by
  have hunits : (t + 137438953472 * 65536) / 8192 = t / 8192 + 2 ^ 40 := by omega
  rw [headTime, headUnit, hunits, Nat.add_mod_right, headTime, headUnit]

/-- What is rounded to 125 ps is a whole number of 125 ps. -/
theorem roundScaled_mod_unit (t : Int) : roundScaled t % 8192 = 0 := by
  have hunits : ∀ units : Int, (units * 8192).toNat % 8192 = 0 := by omega
  exact hunits _

/-- An instant found by rounding is a whole number of 125 ps. -/
theorem all_mod_unit_of_map_roundScaled (f : Int → Int) (found : Option Int) :
    (found.map fun t => roundScaled (f t)).all fun b => decide (b % 8192 = 0) := by
  cases found with
  | none => rfl
  | some t => exact decide_eq_true (roundScaled_mod_unit (f t))

theorem boundaryInstant_mod_unit (s : State) (n : Int) :
    (boundaryInstant s n).all fun b => decide (b % 8192 = 0) :=
  all_mod_unit_of_map_roundScaled id _

theorem rowInstant_mod_unit (s : State) (n : Int) (m r : Nat) :
    (rowInstant s n m r).all fun b => decide (b % 8192 = 0) :=
  all_mod_unit_of_map_roundScaled (· - psScaled _) _

end Sys2Proof.Machine.Laws
end

section
/-! SUPPORT. The line code of the head links and head time (R184, R185, R191). -/
namespace Sys2Proof.Machine.Proofs
open Sys2Proof.Machine Sys2Proof.Machine.Laws

/-- Settles O53: each code's receiver undoes one step of its transmitter, and 49 equal bits would have to reach across
the end of a run of at most 48. -/
theorem lineCodeRoundTrip : Obligations.LineCodeRoundTrip :=
  ⟨descramble_scramble, fun last run bs h => unstuff_stuff last run bs h,
    fun last run bs v _ h hrun => not_longRun_stuff last run bs h ⟨v, hrun⟩⟩

/-- Settles O54: every bit received drives one wrong bit out of the register, and after 31 none is left. -/
theorem descramblerSynchronises : Obligations.DescramblerSynchronises :=
  fun r r' bs => drop_descramble_scramble (agreeButOldest_all r r') bs

/-- Settles O58: 8192 ticks of 2^-16 ns are 125 ps, and ESC's instants are rounded to them. -/
theorem headTime : Obligations.HeadTime :=
  ⟨fun sec ns frac _ => headTime_of_parts sec ns frac, headTime_add_wrap, boundaryInstant_mod_unit, rowInstant_mod_unit,
    headTime_mul_unit⟩

end Sys2Proof.Machine.Proofs
end

section
/-! SUPPORT. A colour component: the quotient that rounds halves up, and the clamp to a byte (R322). -/
namespace Sys2Proof.Machine.Laws
open Sys2Proof.Machine

/-- The clamp to a byte gives more than its argument only as 0, and less only as 255. -/
theorem clampI_byte_toNat (q : Int) :
    (clampI 0 255 q).toNat ≤ 255 ∧ ((clampI 0 255 q).toNat ≠ 0 → ((clampI 0 255 q).toNat : Int) ≤ q) ∧
      ((clampI 0 255 q).toNat ≠ 255 → q ≤ ((clampI 0 255 q).toNat : Int)) := by
  unfold clampI
  omega

/-- The quotient is the whole number nearest to `v` millionths, halves up. -/
theorem micro_quotient_nearest (v : Int) :
    1000000 * ((v + 500000) / 1000000) - 500000 ≤ v ∧ v < 1000000 * ((v + 500000) / 1000000) + 500000 := by
  omega

/-- Only a clamp to 0 puts a component above the nearest value of `v` millionths, and only one to 255 below it. -/
theorem component_nearest (v : Int) :
    component v ≤ 255 ∧ (component v ≠ 0 → 1000000 * (component v : Int) - 500000 ≤ v) ∧
      (component v ≠ 255 → v < 1000000 * (component v : Int) + 500000) := by
  obtain ⟨hbyte, hlow, hhigh⟩ := clampI_byte_toNat ((v + 500000) / 1000000)
  obtain ⟨hfloor, hceil⟩ := micro_quotient_nearest v
  rw [← component] at hbyte hlow hhigh
  refine ⟨hbyte, fun hne => ?_, fun hne => ?_⟩
  · have hle := hlow hne
    omega
  · have hge := hhigh hne
    omega

end Sys2Proof.Machine.Laws
end

section
/-! SUPPORT. The colour conversion of the view (R322). -/
namespace Sys2Proof.Machine.Proofs
open Sys2Proof.Machine Sys2Proof.Machine.Laws

/-- Settles O59: each component is the clamped, rounded value of its own row of the full-range inverse. -/
theorem colourConversion : Obligations.ColourConversion :=
  fun _ _ _ _ _ _ => ⟨component_nearest _, component_nearest _, component_nearest _⟩

end Sys2Proof.Machine.Proofs
end

section
/-! SUPPORT. A unit whose address reads 31, the address of every unit. R70 gives no unit that address, but neither `Ready`
nor `Accepted` rules it out; such a unit follows its reply to a command addressed to it with the summary of a command to
every unit (R80), so that the summary is the reply last written. -/
namespace Sys2Proof.Machine.Laws
open Sys2Proof.Machine

/-- An enabled ring of 256 entries. -/
def openRing : RingRegs := { size := 256, ctrl := true, enabled := true }

/-- STANDBY with the three rings enabled and every feature accepted, at address 31. -/
def unit31 : State :=
  { State.reset with
    hub := { mode := .standby, bootState := .ready, features := 0xFFFF }
    bar0 := { cmd := openRing, rpl := openRing, evt := openRing }
    rng := { address := 31 } }

/-- A command addressed to that unit, with its parameters. -/
def toUnit31 (p : Bytes) : Cmd :=
  { t := 0, target := 31, paramLen := BitVec.ofNat 16 p.length, cont := BitVec.ofNat 8 (contsFor p.length), params := p }

theorem ready_unit31 (p : Bytes) : Ready (toUnit31 p) unit31 where
  steady := ⟨rfl, rfl, rfl, rfl⟩
  served := rfl
  cmdRing := rfl
  cmdSize := by decide
  cmdIdx := by decide
  cmdRead := rfl
  rplRing := rfl
  rplRoom := by decide
  noneHeld := rfl
  dma := rfl
  unprepared := rfl
  here := rfl
  onePhase := show bit 1 2 = false by decide

theorem accepted_unit31 {d : CmdSpec} {p : Bytes} (hheader : headerOk d.isRead (toUnit31 p) unit31 = true)
    (hpasses : refusal d (toUnit31 p) (advance 0 unit31) = none) : Accepted d (toUnit31 p) unit31 :=
  ⟨⟨ready_unit31 p, hheader, hpasses, by decide⟩, rfl⟩

/-- The reply last written in a step is the summary of a command to every unit, which has status E_PARTIAL (R80). -/
def endsInSummary : Host.Outcome State Fault Refusal → Bool
  | .next t => (lastReply t.out).any fun r => r.status == 0x010C
  | _ => false

/-- A command that is answered with E_OK in every state that accepts it is not one whose step ends in a summary for the
unit at address 31. -/
theorem false_of_answered_ok {row : Cmd → Instr} {d : CmdSpec} {op : Nat} {effect : Cmd → State → State → Prop}
    (hanswers : ∀ c s, Accepted d c s → Runs (exec (row c) s) fun t => Answered c op eOk [] s t ∧ effect c s t)
    (p : Bytes) (hheader : headerOk d.isRead (toUnit31 p) unit31 = true)
    (hpasses : refusal d (toUnit31 p) (advance 0 unit31) = none)
    (hsummary : endsInSummary (exec (row (toUnit31 p)) unit31) = true) : False := by
  obtain ⟨t, hnext, hanswered, -⟩ := hanswers _ _ (accepted_unit31 hheader hpasses)
  have hreply : (replyWanted (toUnit31 p) || !(eOk == eOk || eOk == ePending)) = true := show bit 1 0 || _ by decide
  rw [Answered, if_pos hreply] at hanswered
  rw [hnext, endsInSummary, hanswered] at hsummary
  exact absurd hsummary (show ¬ ((BitVec.ofNat 16 eOk == 0x010C) = true) by decide)

end Sys2Proof.Machine.Laws
end

section
/-! SUPPORT. The statements about the host's commands, refuted by the unit at address 31: a setting command with its
defaults is answered with E_OK, and a summary follows the answer. -/
namespace Sys2Proof.Machine.Proofs
open Sys2Proof.Machine Sys2Proof.Machine.Laws

/-- Refutes O3: HOST_WATCHDOG_SET to address 31 ends in a summary. -/
theorem not_hubCommandsComplete : ¬ Obligations.HubCommandsComplete := by
  rintro ⟨-, -, -, -, -, -, -, -, hset⟩
  exact false_of_answered_ok hset (cfgDefault .hub) (by decide) (by decide +kernel) (by decide +kernel)

/-- Refutes O7: RING_CONFIG to address 31 ends in a summary. -/
theorem not_ringCommandsComplete : ¬ Obligations.RingCommandsComplete := by
  rintro ⟨-, hset, -⟩
  exact false_of_answered_ok hset (cfgDefault .ringConfig) (by decide) (by decide +kernel) (by decide +kernel)

/-- Refutes O15: PULSE_SET to address 31 ends in a summary. -/
theorem not_encoderCommandsComplete : ¬ Obligations.EncoderCommandsComplete := by
  rintro ⟨-, -, -, hset⟩
  exact false_of_answered_ok hset (cfgDefault .pulse) (by decide) (by decide +kernel) (by decide +kernel)

/-- Refutes O24: MSS_CONFIG_SET to address 31 ends in a summary. -/
theorem not_managementCommandsComplete : ¬ Obligations.ManagementCommandsComplete := by
  rintro ⟨hset, -⟩
  exact false_of_answered_ok hset (cfgDefault .mss) (by decide) (by decide +kernel) (by decide +kernel)

/-- Refutes O27: MEM_PORT_SET to address 31 ends in a summary. -/
theorem not_pageStoreCommandsComplete : ¬ Obligations.PageStoreCommandsComplete := by
  rintro ⟨-, -, -, -, -, -, hset, -⟩
  exact false_of_answered_ok hset ((3 :: cfgDefault (.memPort 3)).take 8) (by decide) (by decide +kernel) (by decide +kernel)

/-- Refutes O29: ESC_CONFIG_SET to address 31 ends in a summary. -/
theorem not_geometryCommandsComplete : ¬ Obligations.GeometryCommandsComplete := by
  rintro ⟨-, -, -, -, -, -, hset, -⟩
  exact false_of_answered_ok hset (cfgDefault .escConfig) (by decide) (by decide +kernel) (by decide +kernel)

/-- Refutes O31: HLK_CONFIG_SET to address 31 ends in a summary. -/
theorem not_headLinkCommandsComplete : ¬ Obligations.HeadLinkCommandsComplete := by
  rintro ⟨hset, -⟩
  exact false_of_answered_ok hset (cfgDefault .hlkConfig) (by decide) (by decide +kernel) (by decide +kernel)

/-- Refutes O36: THM_CONFIG_SET to address 31 ends in a summary. -/
theorem not_thermalCommandsComplete : ¬ Obligations.ThermalCommandsComplete := by
  rintro ⟨hset, -⟩
  exact false_of_answered_ok hset (cfgDefault .thermal) (by decide) (by decide +kernel) (by decide +kernel)

/-- Refutes O38: LDG_CONFIG_SET to address 31 ends in a summary. -/
theorem not_ledgerCommandsComplete : ¬ Obligations.LedgerCommandsComplete := by
  rintro ⟨hset, -⟩
  exact false_of_answered_ok hset (cfgDefault .ldgConfig) (by decide) (by decide +kernel) (by decide +kernel)

/-- Refutes O40: INS_CAMERA_SET to address 31 ends in a summary. -/
theorem not_inspectionCommandsComplete : ¬ Obligations.InspectionCommandsComplete := by
  rintro ⟨hset, -⟩
  exact false_of_answered_ok hset (cfgDefault (.camera 0)) (by decide) (by decide +kernel) (by decide +kernel)

/-- Refutes O42: CAL_POLICY_SET to address 31 ends in a summary. -/
theorem not_calibrationCommandsComplete : ¬ Obligations.CalibrationCommandsComplete := by
  rintro ⟨hset, -⟩
  exact false_of_answered_ok hset (cfgDefault .calPolicy) (by decide) (by decide +kernel) (by decide +kernel)

/-- Refutes O44: AXS_CONFIG_SET to address 31 ends in a summary. -/
theorem not_axisCommandsComplete : ¬ Obligations.AxisCommandsComplete := by
  rintro ⟨hset, -⟩
  exact false_of_answered_ok hset (cfgDefault (.axis 0)) (by decide) (by decide +kernel) (by decide +kernel)

/-- Refutes O46: VIEW_MODE_SET to address 31 ends in a summary. -/
theorem not_viewCommandsComplete : ¬ Obligations.ViewCommandsComplete := by
  rintro ⟨hset, -⟩
  exact false_of_answered_ok hset (cfgDefault .view) (by decide) (by decide +kernel) (by decide +kernel)

/-- Refutes O5: RING_CONFIG of zeros is refused with E_BAD_VALUE, and at address 31 a summary follows the refusal. -/
theorem not_refusedCommandChangesNothing : ¬ Obligations.RefusedCommandChangesNothing := by
  intro h
  obtain ⟨t, hnext, hreply, -⟩ := h (.ringConfig (toUnit31 (zeros 16))) 0x0102 (toUnit31 (zeros 16)) ringConfigSpec
    (eBadValue, []) unit31 rfl rfl (ready_unit31 _) rfl (by decide) (by decide +kernel) (by decide) (by decide)
  have hsummary : endsInSummary (exec (.ringConfig (toUnit31 (zeros 16))) unit31) = true := by decide +kernel
  rw [hnext, endsInSummary, hreply] at hsummary
  exact absurd hsummary (by decide)

end Sys2Proof.Machine.Proofs
end

section
/-! SUPPORT. What every row has in common: it answers a next state and leaves the queue of waiting commands as it was. -/
namespace Sys2Proof.Machine.Laws
open Sys2Proof.Machine

/-- Every row ends in `keepQueue`: no row stops the block, and none touches the queue (log entry 1). -/
theorem exec_next (i : Instr) (s : State) : ∃ t, exec i s = .next (keepQueue s t) := by
  cases i <;> exact ⟨_, rfl⟩

end Sys2Proof.Machine.Laws
end

section
/-! SUPPORT. The step and the queue (log entry 1), and the state right after reset. -/
namespace Sys2Proof.Machine.Proofs
open Sys2Proof.Machine Sys2Proof.Machine.Laws

/-- Settles O1: the step's two cases are the queue's. -/
theorem stepRunsFront : Obligations.StepRunsFront :=
  ⟨fun c rest s hqueue => by rw [step, hqueue], fun s hqueue => by rw [step, hqueue]⟩

/-- Settles O48: the step runs the front of the queue on the rest, and its row keeps that rest. -/
theorem everyCommandCompletes : Obligations.EveryCommandCompletes := by
  intro c rest s hqueue
  obtain ⟨hfront, -⟩ := stepRunsFront
  obtain ⟨t, hnext⟩ := exec_next c { s with pending := rest }
  exact ⟨_, (hfront c rest s hqueue).trans hnext, rfl⟩

/-- Settles O51: at reset the page store and the display surface are empty, and DRAM's is the only setting listed. -/
theorem resetInvariants : Obligations.ResetInvariants := by
  refine ⟨?pages, ?surface, rfl, ?settings⟩
  case pages =>
    intro p hp
    exact absurd hp List.not_mem_nil
  case surface => exact ⟨List.Pairwise.nil, fun c hc => absurd hc List.not_mem_nil⟩
  case settings =>
    intro k
    by_cases hdram : k = .dram
    · rw [hdram]
      rfl
    · have hdefault : cfgGet State.reset k = cfgDefault k := by
        simp [cfgGet, State.reset, Ne.symm hdram]
      rw [hdefault]

end Sys2Proof.Machine.Proofs
end

section
/-! SUPPORT. Commands that R53 refuses before it looks at their own chapter's rules. -/
namespace Sys2Proof.Machine.Laws
open Sys2Proof.Machine

/-- Every row that places a command places it with its opcode (R5, R58). -/
theorem exec_of_opcodeRow {i : Instr} {op : Nat} {c : Cmd} (h : opcodeRow i = some (op, c)) (s : State) :
    exec i s = hostCommand op c s := by
  cases i <;> cases h <;> rfl

/-- What a command says of the mode when the mode forbids it fits into the reply's first entry. -/
theorem modeResult_length_le {d : CmdSpec} {op : Nat} (h : specOf op = some d) : d.modeResult.length ≤ 48 := by
  have hall : ∀ x ∈ allSpecs, x.modeResult.length ≤ 48 := by
    have hcheck : (allSpecs.all fun x => decide (x.modeResult.length ≤ 48)) = true := by decide
    simpa only [List.all_eq_true, decide_eq_true_eq] using hcheck
  exact hall d (List.mem_of_find?_eq_some h)

/-- The refusal of a command whose header does not hold: the mode is checked before the header (R53). -/
def headerVerdict (d : CmdSpec) (s : State) : Verdict :=
  if modePermits d s then (eBadValue, []) else (eBadMode, d.modeResult)

/-- A command to this unit whose header does not hold is served by its refusal alone. -/
theorem serve_of_bad_header {d : CmdSpec} {op : Nat} {c : Cmd} {s : State} (hspec : specOf op = some d)
    (hhere : isLocal c s = true) (hone : twoPhase c = false) (hheader : headerOk d.isRead c s = false) :
    serve op c s = answer op c (headerVerdict d s) s := by
  have hop : d.opcode = op := by simpa using List.find?_some hspec
  have hrefusal : headRefusal d c s = some (eBadValue, []) := by simp [headRefusal, hheader]
  have hrun : runLocal d c (localAsker s) s = (headerVerdict d s, s) := by
    cases hmode : modePermits d s <;> simp [runLocal, headerVerdict, hmode, hheader]
  have hdone : complete d (headerVerdict d s) (answer op c (headerVerdict d s) s)
      = answer op c (headerVerdict d s) s := by
    cases hmode : modePermits d s <;> simp [complete, headerVerdict, hmode, eBadValue, eBadMode, ePending]
  simp [serve, hspec, hhere, serveHere, hone, hrun, hop, hdone, hrefusal]

end Sys2Proof.Machine.Laws
end

section
/-! SUPPORT. A command with a bad header (R49, R53). -/
namespace Sys2Proof.Machine.Proofs
open Sys2Proof.Machine Sys2Proof.Machine.Laws

/-- Settles O6: mode and header are checked before anything of the command's own, and their refusal is all that follows. -/
theorem badHeaderRefused : Obligations.BadHeaderRefused := by
  intro i op c d s hrow hspec hready hruns hheader
  rw [exec_of_opcodeRow hrow]
  have hserve := serve_of_bad_header (s := takenFrom c (advance c.t s)) hspec hready.here hready.onePhase hheader
  have hverdict : headerVerdict d (takenFrom c (advance c.t s)) = headerVerdict d s := rfl
  rw [hverdict] at hserve
  have hlen := modeResult_length_le hspec
  cases hmode : modePermits d s with
  | true =>
    rw [headerVerdict, if_pos hmode] at hserve
    obtain ⟨t, hnext, hreply, honly⟩ := hostCommand_of_refused hready hruns hserve (by decide) (by decide) (by decide)
    exact ⟨t, hnext, _, hreply, rfl, rfl, honly⟩
  | false =>
    rw [headerVerdict, if_neg (by rw [hmode]; exact Bool.false_ne_true)] at hserve
    have hfits : 1 + contsFor d.modeResult.length ≤ 16 := by
      rw [contsFor, if_pos hlen]
      decide
    obtain ⟨t, hnext, hreply, honly⟩ := hostCommand_of_refused hready hruns hserve (show eBadMode ≠ eOk by decide)
      (show eBadMode ≠ ePending by decide) hfits
    exact ⟨t, hnext, _, hreply, rfl, rfl, honly⟩

end Sys2Proof.Machine.Proofs
end

section
/-! SUPPORT. Two counterexamples. A unit with no position source whose active encoder is found at standstill, settled when
a window ends, has a source again (R112, R121); and two tickets of one row that share an ID, which setTicket writes both. -/
namespace Sys2Proof.Machine.Proofs
open Sys2Proof.Machine Sys2Proof.Machine.Laws

/-- STANDBY with no encoder as position source, which stands as a SAFE cause, and window generator 0 running. -/
def noSourceUnit : State :=
  { unit31 with
    hub := { mode := .standby, bootState := .ready, safe := [{ bit := 5, block := 3, t := 0 }] }
    mer := { windows := [(0, { enabled := true })] }
    enc := { noSource := true } }

/-- A ticket of page 0, row 0, whose verdict is overdue. -/
def overdueTicket (id : BitVec 64) : Ticket := { id := id, page := 0, row := 0, lane := 0, deadline := -1 }

/-- Ticket 2, whose row is marked when it closes, before two tickets of that row with ID 1: one printing, one void. -/
def sharedIdUnit : State :=
  { unit31 with
    ldg :=
      { tickets := [overdueTicket 2, overdueTicket 1, { overdueTicket 1 with state := 5 }]
        rejects := [{ first := 0, pitch := 1, page := 0, row := 0, opens := 0, closes := 0, policy := 3 }] } }

/-- The SAFE causes that stand after a step. -/
def causesAfter : Host.Outcome State Fault Refusal → List CauseRec
  | .next t => t.hub.safe
  | _ => []

/-- The state of the ticket found by its ID after a step. -/
def stateAfter (id : BitVec 64) : Host.Outcome State Fault Refusal → Option Nat
  | .next t => (findTicket t id).map Ticket.state
  | _ => none

/-- Refutes O13: at the end of a window the standstill of the active encoder is settled, and the SAFE cause "no position
source" is cleared. -/
theorem not_timeRows : ¬ Obligations.TimeRows := by
  rintro ⟨-, -, -, -, -, hboundary, -⟩
  obtain ⟨t, hnext, -, -, -, hhub, -⟩ :=
    hboundary (10 ^ 15) 0 noSourceUnit (by decide +kernel) (by decide +kernel) (by decide +kernel) (by decide +kernel)
  have hcleared : causesAfter (exec (.windowBoundary (10 ^ 15) 0) noSourceUnit) = [] := by decide +kernel
  rw [hnext, causesAfter, hhub] at hcleared
  exact absurd hcleared (List.cons_ne_nil _ _)

/-- Refutes O39: the row's mark puts the void ticket in place of the printing ticket with the same ID, which then has no
missing verdict to close it. -/
theorem not_ledgerRows : ¬ Obligations.LedgerRows := by
  rintro ⟨hdeadline, -⟩
  obtain ⟨t, hnext, k, hfound, hstate, -⟩ :=
    hdeadline 0 1 (overdueTicket 1) sharedIdUnit (by decide +kernel) (by decide +kernel) (by decide +kernel)
      (by decide +kernel) (by decide +kernel) (by decide +kernel) (by decide +kernel)
  have hvoid : stateAfter 1 (exec (.verdictDeadline 0) sharedIdUnit) = some 5 := by decide +kernel
  rw [hnext, stateAfter, hfound] at hvoid
  exact absurd (hstate.symm.trans (Option.some.inj hvoid)) (by decide)

end Sys2Proof.Machine.Proofs
end

section
/-! SUPPORT. The frame of an operation: which pieces of the state it may change. A piece is a part of the state or what the
proofs need apart from the rest of its part; the frame of a sequence is that of its operations (`Within.trans`). -/
namespace Sys2Proof.Machine.Laws
open Sys2Proof.Machine

/-- The pieces of the state. HUB's causes, what an event and its message change in BAR0, the lanes and modules, the cameras,
the sensors, the event log's queue, the revocations and what sending changes in the ring's registers stand apart from the
rest of their part. Pieces of their own are that CAL with nothing to follow stays so, that every SAFE cause that stands
still stands, the states of the ring's ports, and what each module has told of itself. -/
inductive Piece where
  | hub | causes | standing | bar0 | events | link | rng | sends | ports | mer | enc | mem | grt | esc | revokes | hlk | lanes
  | modules | reports | ldg | ins | cameras | cal | idle | axs | view | thm | sensors | mss | logQueue | nvm | settings | held | free | out
  deriving DecidableEq, Repr

/-- The part a piece belongs to. -/
def Piece.part : Piece → Part
  | .hub | .causes | .standing => .hub
  | .bar0 | .events => .bar0
  | .link => .link
  | .rng | .sends | .ports => .rng
  | .mer => .mer
  | .enc => .enc
  | .mem => .mem
  | .grt => .grt
  | .esc | .revokes => .esc
  | .hlk | .lanes | .modules | .reports => .hlk
  | .ldg => .ldg
  | .ins | .cameras => .ins
  | .cal | .idle => .cal
  | .axs => .axs
  | .view => .view
  | .thm | .sensors => .thm
  | .mss | .logQueue => .mss
  | .nvm => .nvm
  | .settings => .settings
  | .held => .held
  | .free => .free
  | .out => .out

/-- What a module has told of itself: its IDENT and its last readings. -/
def told (h : HeadModule) : Option Ident × Int × Int := (h.ident, h.sensor0, h.sensor1)

/-- One piece is as it was; of a part whose other pieces may differ, all but those. -/
def samePiece (s t : State) : Piece → Prop
  | .hub => t.hub = { s.hub with safe := t.hub.safe, auto := t.hub.auto }
  | .causes => t.hub.safe = s.hub.safe ∧ t.hub.auto = s.hub.auto
  | .standing => ∀ c ∈ s.hub.safe, c ∈ t.hub.safe
  | .bar0 => t.bar0 = { s.bar0 with
      evt := t.bar0.evt, buffer := t.bar0.buffer, lostInfo := t.bar0.lostInfo, lostWarn := t.bar0.lostWarn,
      lostFault := t.bar0.lostFault, sources := t.bar0.sources, pba := t.bar0.pba, srcPending := t.bar0.srcPending }
  | .events => t.bar0.evt = s.bar0.evt ∧ t.bar0.buffer = s.bar0.buffer ∧ t.bar0.lostInfo = s.bar0.lostInfo
      ∧ t.bar0.lostWarn = s.bar0.lostWarn ∧ t.bar0.lostFault = s.bar0.lostFault ∧ t.bar0.sources = s.bar0.sources
      ∧ t.bar0.pba = s.bar0.pba ∧ t.bar0.srcPending = s.bar0.srcPending
  | .link => t.link = s.link
  | .rng => t.rng = { s.rng with
      east := t.rng.east, west := t.rng.west, txSeq := t.rng.txSeq, completions := t.rng.completions,
      heldVoids := t.rng.heldVoids, voidTx := t.rng.voidTx }
  | .sends => t.rng.east = s.rng.east ∧ t.rng.west = s.rng.west ∧ t.rng.txSeq = s.rng.txSeq
      ∧ t.rng.completions = s.rng.completions ∧ t.rng.heldVoids = s.rng.heldVoids ∧ t.rng.voidTx = s.rng.voidTx
  | .ports => t.rng.east.state = s.rng.east.state ∧ t.rng.west.state = s.rng.west.state
  | .mer => t.mer = s.mer
  | .enc => t.enc = s.enc
  | .mem => t.mem = s.mem
  | .grt => t.grt = s.grt
  | .esc => t.esc = { s.esc with revokes := t.esc.revokes }
  | .revokes => t.esc.revokes = s.esc.revokes
  | .hlk => t.hlk = { s.hlk with lanes := t.hlk.lanes, modules := t.hlk.modules }
  | .lanes => t.hlk.lanes = s.hlk.lanes
  | .modules => t.hlk.modules = s.hlk.modules
  | .reports => ∀ m, told (moduleOf t m) = told (moduleOf s m)
  | .ldg => t.ldg = s.ldg
  | .ins => t.ins = { s.ins with cameras := t.ins.cameras }
  | .cameras => t.ins.cameras = s.ins.cameras
  | .cal => t.cal = s.cal
  | .idle => s.cal.runs = [] → s.cal.spareHome = none → t.cal.runs = [] ∧ t.cal.spareHome = none
  | .axs => t.axs = s.axs
  | .view => t.view = s.view
  | .thm => t.thm = { s.thm with sensors := t.thm.sensors }
  | .sensors => t.thm.sensors = s.thm.sensors
  | .mss => t.mss = { s.mss with logQueue := t.mss.logQueue }
  | .logQueue => t.mss.logQueue = s.mss.logQueue
  | .nvm => t.nvm = s.nvm
  | .settings => t.cfg = s.cfg
  | .held => t.held = s.held
  | .free => t.freeCtr = s.freeCtr
  | .out => t.out = s.out

/-- Of all pieces at most those listed differ, and device time and the queue of commands are as they were. -/
structure Within (l : List Piece) (s t : State) : Prop where
  now : t.now = s.now
  pending : t.pending = s.pending
  same : ∀ p, p ∉ l → samePiece s t p

variable {l l' : List Piece} {s t u : State}

theorem samePiece_refl (s : State) (p : Piece) : samePiece s s p := by
  cases p
  case idle => exact fun hruns hspare => ⟨hruns, hspare⟩
  all_goals simp [samePiece]

theorem samePiece_trans {p : Piece} (hst : samePiece s t p) (htu : samePiece t u p) : samePiece s u p := by
  cases p <;> simp only [samePiece] at hst htu ⊢
  case idle => exact fun hruns hspare => htu (hst hruns hspare).1 (hst hruns hspare).2
  case standing => exact fun c hc => htu c (hst c hc)
  case reports => exact fun m => (htu m).trans (hst m)
  case hub | bar0 | rng | esc | hlk | ins | thm | mss => rw [htu, hst]
  all_goals simp [hst, htu]

theorem Within.refl (l : List Piece) (s : State) : Within l s s :=
  ⟨rfl, rfl, fun p _ => samePiece_refl s p⟩

theorem Within.trans (hst : Within l s t) (htu : Within l t u) : Within l s u :=
  ⟨htu.now.trans hst.now, htu.pending.trans hst.pending, fun p hp => samePiece_trans (hst.same p hp) (htu.same p hp)⟩

/-- The pieces of one list are among those of another. -/
def incl (l l' : List Piece) : Bool := l.all fun p => l'.contains p

theorem mem_of_incl {p : Piece} (h : incl l l' = true) (hp : p ∈ l) : p ∈ l' :=
  List.contains_iff_mem.1 (List.all_eq_true.1 h p hp)

theorem Within.mono (h : Within l s t) (hl : incl l l' = true) : Within l' s t :=
  ⟨h.now, h.pending, fun p hp => h.same p fun hp' => hp (mem_of_incl hl hp')⟩

/-- The frame of a next operation, whose pieces are among those listed. -/
theorem Within.andThen (hst : Within l s t) (htu : Within l' t u) (hl : incl l' l = true) : Within l s u :=
  hst.trans (htu.mono hl)

/-- The frame of two operations, whose pieces are among those listed. -/
theorem Within.seq {m : List Piece} (hst : Within l s t) (htu : Within l' t u) (hm : incl (l ++ l') m = true) :
    Within m s u := by
  simp only [incl, List.all_append, Bool.and_eq_true] at hm
  exact (hst.mono hm.1).trans (htu.mono hm.2)

/-- A piece that is not listed is as it was. -/
theorem Within.keeps (h : Within l s t) (p : Piece) (hp : l.contains p = false) : samePiece s t p :=
  h.same p fun hp' => Bool.false_ne_true (hp ▸ List.contains_iff_mem.2 hp')

theorem Within.ite {c : Prop} [Decidable c] {a b : State} (ha : Within l s a) (hb : Within l s b) :
    Within l s (if c then a else b) := by
  split
  · exact ha
  · exact hb

theorem Within.when {c : Bool} {f : State → State} (hf : Within l s (f s)) : Within l s (when_ c f s) :=
  .ite hf (.refl l s)

theorem Within.each {α : Type} {f : α → State → State} (hf : ∀ a s, Within l s (f a s)) (xs : List α) (s : State) :
    Within l s (each xs f s) := by
  induction xs generalizing s with
  | nil => exact .refl l s
  | cons a r ih => exact (hf a s).trans (ih (f a s))

/-- The state with the listed pieces taken from another. -/
def patch (l : List Piece) (s u : State) : State :=
  { s with
    hub :=
      let base := if .hub ∈ l then u.hub else s.hub
      { base with safe := if .causes ∈ l then (if .standing ∈ l then u.hub.safe else s.hub.safe) else s.hub.safe
                  auto := if .causes ∈ l then u.hub.auto else s.hub.auto }
    bar0 :=
      let base := if .bar0 ∈ l then u.bar0 else s.bar0
      { base with evt := if .events ∈ l then u.bar0.evt else s.bar0.evt
                  buffer := if .events ∈ l then u.bar0.buffer else s.bar0.buffer
                  lostInfo := if .events ∈ l then u.bar0.lostInfo else s.bar0.lostInfo
                  lostWarn := if .events ∈ l then u.bar0.lostWarn else s.bar0.lostWarn
                  lostFault := if .events ∈ l then u.bar0.lostFault else s.bar0.lostFault
                  sources := if .events ∈ l then u.bar0.sources else s.bar0.sources
                  pba := if .events ∈ l then u.bar0.pba else s.bar0.pba
                  srcPending := if .events ∈ l then u.bar0.srcPending else s.bar0.srcPending }
    link := if .link ∈ l then u.link else s.link
    rng :=
      let base := if .rng ∈ l then u.rng else s.rng
      { base with
        east := if .sends ∈ l then { u.rng.east with state := if .ports ∈ l then u.rng.east.state else s.rng.east.state }
          else s.rng.east
        west := if .sends ∈ l then { u.rng.west with state := if .ports ∈ l then u.rng.west.state else s.rng.west.state }
          else s.rng.west
        txSeq := if .sends ∈ l then u.rng.txSeq else s.rng.txSeq
        completions := if .sends ∈ l then u.rng.completions else s.rng.completions
        heldVoids := if .sends ∈ l then u.rng.heldVoids else s.rng.heldVoids
        voidTx := if .sends ∈ l then u.rng.voidTx else s.rng.voidTx }
    mer := if .mer ∈ l then u.mer else s.mer
    enc := if .enc ∈ l then u.enc else s.enc
    mem := if .mem ∈ l then u.mem else s.mem
    grt := if .grt ∈ l then u.grt else s.grt
    esc :=
      let base := if .esc ∈ l then u.esc else s.esc
      { base with revokes := if .revokes ∈ l then u.esc.revokes else s.esc.revokes }
    hlk :=
      let base := if .hlk ∈ l then u.hlk else s.hlk
      { base with lanes := if .lanes ∈ l then u.hlk.lanes else s.hlk.lanes
                  modules := if .modules ∈ l then (if .reports ∈ l then u.hlk.modules else s.hlk.modules)
                             else s.hlk.modules }
    ldg := if .ldg ∈ l then u.ldg else s.ldg
    ins :=
      let base := if .ins ∈ l then u.ins else s.ins
      { base with cameras := if .cameras ∈ l then u.ins.cameras else s.ins.cameras }
    cal :=
      if .cal ∈ l then
        { u.cal with runs := if .idle ∈ l then u.cal.runs else s.cal.runs
                     spareHome := if .idle ∈ l then u.cal.spareHome else s.cal.spareHome }
      else s.cal
    axs := if .axs ∈ l then u.axs else s.axs
    view := if .view ∈ l then u.view else s.view
    thm :=
      let base := if .thm ∈ l then u.thm else s.thm
      { base with sensors := if .sensors ∈ l then u.thm.sensors else s.thm.sensors }
    mss :=
      let base := if .mss ∈ l then u.mss else s.mss
      { base with logQueue := if .logQueue ∈ l then u.mss.logQueue else s.mss.logQueue }
    nvm := if .nvm ∈ l then u.nvm else s.nvm
    cfg := if .settings ∈ l then u.cfg else s.cfg
    held := if .held ∈ l then u.held else s.held
    freeCtr := if .free ∈ l then u.freeCtr else s.freeCtr
    out := if .out ∈ l then u.out else s.out }

theorem within_patch (l : List Piece) (s u : State) : Within l s (patch l s u) where
  now := rfl
  pending := rfl
  same p hp := by
    cases p
    case idle =>
      intro hruns hspare
      by_cases hcal : Piece.cal ∈ l <;> simp [patch, hp, hcal, hruns, hspare]
    case ports => by_cases hsends : Piece.sends ∈ l <;> simp [samePiece, patch, hp, hsends]
    case standing => by_cases hcauses : Piece.causes ∈ l <;> simp [samePiece, patch, hp, hcauses]
    case reports => by_cases hmodules : Piece.modules ∈ l <;> simp [samePiece, patch, hp, hmodules, moduleOf]
    all_goals simp [samePiece, patch, hp]

/-- A state that is another but for the listed pieces, field for field. -/
theorem Within.of_patch (h : t = patch l s t) : Within l s t := h ▸ within_patch l s t

/-- A change of CAL's runs that leaves CAL with nothing to follow where it had nothing. -/
theorem Within.ofIdle (h : Within [.cal, .idle] s t)
    (hidle : s.cal.runs = [] → s.cal.spareHome = none → t.cal.runs = [] ∧ t.cal.spareHome = none) : Within [.cal] s t := by
  refine ⟨h.now, h.pending, fun p hp => ?_⟩
  by_cases hp' : p = .idle
  · rw [hp']
    exact hidle
  · exact h.same p fun hmem => by simp_all

/-- A change of the SAFE causes that clears none. -/
theorem Within.ofStanding (h : Within [.causes, .standing] s t) (hstand : ∀ c ∈ s.hub.safe, c ∈ t.hub.safe) :
    Within [.causes] s t := by
  refine ⟨h.now, h.pending, fun p hp => ?_⟩
  by_cases hp' : p = .standing
  · rw [hp']
    exact hstand
  · exact h.same p fun hmem => by simp_all

/-- A change of the ring's ports that leaves their states. -/
theorem Within.ofPorts (h : Within [.sends, .ports] s t)
    (hports : t.rng.east.state = s.rng.east.state ∧ t.rng.west.state = s.rng.west.state) : Within [.sends] s t := by
  refine ⟨h.now, h.pending, fun p hp => ?_⟩
  by_cases hp' : p = .ports
  · rw [hp']
    exact hports
  · exact h.same p fun hmem => by simp_all

/-- A change of the modules that leaves what each has told of itself. -/
theorem Within.ofReports (h : Within [.modules, .reports] s t) (htold : ∀ m, told (moduleOf t m) = told (moduleOf s m)) :
    Within [.modules] s t := by
  refine ⟨h.now, h.pending, fun p hp => ?_⟩
  by_cases hp' : p = .reports
  · rw [hp']
    exact htold
  · exact h.same p fun hmem => by simp_all

/-- The frame of an operation after a record update: that of the operation, with the pieces updated. -/
theorem Within.fromPatch (htu : Within l' t u) (hst : t = patch l s t) (hl : incl l' l = true) :
    Within l s u :=
  (Within.of_patch hst).andThen htu hl

theorem Within.onlyParts {ps : List Part} (h : Within l s t) (hparts : (l.all fun p => ps.contains p.part) = true) :
    OnlyParts ps s t := by
  have keep : ∀ p : Piece, p.part ∉ ps → samePiece s t p := fun p hp => h.same p fun hp' =>
    hp (List.contains_iff_mem.1 (List.all_eq_true.1 hparts p hp'))
  refine ⟨h.pending, fun q hq => ?_⟩
  cases q
  case hub =>
    have h₁ := keep .hub hq
    have h₂ := keep .causes hq
    simp only [samePiece] at h₁ h₂
    rw [samePart, h₁, h₂.1, h₂.2]
  case rng =>
    have h₁ := keep .rng hq
    have h₂ := keep .sends hq
    simp only [samePiece] at h₁ h₂
    obtain ⟨heast, hwest, hseq, howed, hvoids, hsent⟩ := h₂
    rw [samePart, h₁, heast, hwest, hseq, howed, hvoids, hsent]
  case esc =>
    have h₁ := keep .esc hq
    have h₂ := keep .revokes hq
    simp only [samePiece] at h₁ h₂
    rw [samePart, h₁, h₂]
  case hlk =>
    have h₁ := keep .hlk hq
    have h₂ := keep .lanes hq
    have h₃ := keep .modules hq
    simp only [samePiece] at h₁ h₂ h₃
    rw [samePart, h₁, h₂, h₃]
  case ins =>
    have h₁ := keep .ins hq
    have h₂ := keep .cameras hq
    simp only [samePiece] at h₁ h₂
    rw [samePart, h₁, h₂]
  case thm =>
    have h₁ := keep .thm hq
    have h₂ := keep .sensors hq
    simp only [samePiece] at h₁ h₂
    rw [samePart, h₁, h₂]
  case mss =>
    have h₁ := keep .mss hq
    have h₂ := keep .logQueue hq
    simp only [samePiece] at h₁ h₂
    rw [samePart, h₁, h₂]
  case bar0 =>
    have h₁ := keep .bar0 hq
    have h₂ := keep .events hq
    simp only [samePiece] at h₁ h₂
    obtain ⟨hevt, hbuffer, hinfo, hwarn, hfault, hsources, hpba, hpending⟩ := h₂
    rw [samePart, h₁, hevt, hbuffer, hinfo, hwarn, hfault, hsources, hpba, hpending]
  case link => exact keep .link hq
  case mer => exact keep .mer hq
  case enc => exact keep .enc hq
  case mem => exact keep .mem hq
  case grt => exact keep .grt hq
  case ldg => exact keep .ldg hq
  case cal => exact keep .cal hq
  case axs => exact keep .axs hq
  case view => exact keep .view hq
  case nvm => exact keep .nvm hq
  case settings => exact keep .settings hq
  case held => exact keep .held hq
  case free => exact keep .free hq
  case out => exact keep .out hq

/-! Whole parts that are as they were -/

theorem Within.hub_eq (h : Within l s t) (h₁ : l.contains .hub = false) (h₂ : l.contains .causes = false) :
    t.hub = s.hub := by
  rw [h.keeps .hub h₁, (h.keeps .causes h₂).1, (h.keeps .causes h₂).2]

theorem Within.bar0_eq (h : Within l s t) (h₁ : l.contains .bar0 = false) (h₂ : l.contains .events = false) :
    t.bar0 = s.bar0 := by
  obtain ⟨hevt, hbuffer, hinfo, hwarn, hfault, hsources, hpba, hpending⟩ := h.keeps .events h₂
  rw [h.keeps .bar0 h₁, hevt, hbuffer, hinfo, hwarn, hfault, hsources, hpba, hpending]

/-- What commands are placed is not among what an event changes. -/
theorem Within.placed_eq (h : Within l s t) (h₁ : l.contains .bar0 = false) : t.bar0.placed = s.bar0.placed :=
  (congrArg Bar0.placed (h.keeps .bar0 h₁) :)

theorem Within.esc_eq (h : Within l s t) (h₁ : l.contains .esc = false) (h₂ : l.contains .revokes = false) :
    t.esc = s.esc := by
  rw [h.keeps .esc h₁, h.keeps .revokes h₂]

theorem Within.ins_eq (h : Within l s t) (h₁ : l.contains .ins = false) (h₂ : l.contains .cameras = false) :
    t.ins = s.ins := by
  rw [h.keeps .ins h₁, h.keeps .cameras h₂]

theorem Within.thm_eq (h : Within l s t) (h₁ : l.contains .thm = false) (h₂ : l.contains .sensors = false) :
    t.thm = s.thm := by
  rw [h.keeps .thm h₁, h.keeps .sensors h₂]

theorem Within.mss_eq (h : Within l s t) (h₁ : l.contains .mss = false) (h₂ : l.contains .logQueue = false) :
    t.mss = s.mss := by
  rw [h.keeps .mss h₁, h.keeps .logQueue h₂]

theorem Within.rng_eq (h : Within l s t) (h₁ : l.contains .rng = false) (h₂ : l.contains .sends = false) :
    t.rng = s.rng := by
  obtain ⟨heast, hwest, hseq, howed, hvoids, hsent⟩ := h.keeps .sends h₂
  rw [h.keeps .rng h₁, heast, hwest, hseq, howed, hvoids, hsent]

theorem Within.hlk_eq (h : Within l s t) (h₁ : l.contains .hlk = false) (h₂ : l.contains .lanes = false)
    (h₃ : l.contains .modules = false) : t.hlk = s.hlk := by
  rw [h.keeps .hlk h₁, h.keeps .lanes h₂, h.keeps .modules h₃]

end Sys2Proof.Machine.Laws
end

section
/-! SUPPORT. The frames of the shared operations: what is sent, written and raised, SAFE causes, and the steps. -/
namespace Sys2Proof.Machine.Laws
open Sys2Proof.Machine

variable {l l' : List Piece} {s t u : State}

/-- What an event may change. -/
def eventPieces : List Piece := [.events, .out, .logQueue, .sends]

/-! The ring ports -/

theorem setRingPort_within (p : RingPort) (v : RingPortState) (s : State) :
    Within [.sends, .ports] s (setRingPort p v s) := by
  cases p <;> exact .of_patch rfl

/-- A port written with its state as it was. -/
theorem setRingPort_keeps {p : RingPort} {v : RingPortState} (h : v.state = (ringPort s p).state) :
    Within [.sends] s (setRingPort p v s) :=
  (setRingPort_within p v s).ofPorts (by cases p <;> exact ⟨by simp [setRingPort, ringPort, h], by simp [setRingPort, ringPort, h]⟩)

theorem send_within (o : Output) (s : State) : Within [.out] s (send o s) := .of_patch rfl

theorem sendOn_within (p : RingPort) (k : RingPacket) (s : State) : Within [.sends, .out] s (sendOn p k s) := by
  have hput : ∀ q k, Within [.sends, .out] s
      (send (.ring q k) (if bodyKept k.body then
        setRingPort q { ringPort s q with copies := (ringPort s q).copies ++ [k] } s else s)) := fun q k =>
    (Within.ite ((setRingPort_keeps (by rfl)).mono rfl) (.refl _ s)).andThen (send_within _ _) rfl
  exact .ite (hput _ _) (.ite (hput _ _) (.refl _ s))

theorem sendVia_within (ports : List RingPort) (dst : BitVec 5) (body : RingBody) (s : State) :
    Within [.sends, .out] s (sendVia ports dst body s) :=
  (Within.each (fun _ _ => sendOn_within _ _ _) _ _).fromPatch rfl rfl

theorem sendRing_within (dst : BitVec 5) (body : RingBody) (s : State) : Within [.sends, .out] s (sendRing dst body s) :=
  sendVia_within _ _ _ s

theorem sendBoth_within (dst : BitVec 5) (body : RingBody) (s : State) : Within [.sends, .out] s (sendBoth dst body s) :=
  sendVia_within _ _ _ s

/-! Events and replies -/

theorem sendMessage_within (n : Nat) (s : State) : Within [.events, .out] s (sendMessage n s) :=
  .ite (.of_patch rfl) (.ite (.of_patch rfl) (.of_patch rfl))

theorem countEntry_within (n : Nat) (s : State) : Within [.events, .out] s (countEntry n s) :=
  .ite (sendMessage_within _ _) (.ite ((sendMessage_within _ _).fromPatch rfl rfl) (.of_patch rfl))

theorem writeEvent_within (e : Event) (s : State) : Within [.events, .out] s (writeEvent e s) :=
  (countEntry_within _ _).fromPatch rfl rfl

theorem bufferEvent_within (e : Event) (s : State) : Within [.events] s (bufferEvent e s) :=
  .ite (.ite (.of_patch rfl) (.ite (.of_patch rfl) (.of_patch rfl))) (.of_patch rfl)

theorem insertLost_within (s : State) : Within [.events] s (insertLost s) := .ite (.of_patch rfl) (.refl _ s)

theorem drainEvents_within (n : Nat) (s : State) : Within [.events, .out] s (drainEvents n s) := by
  induction n generalizing s with
  | zero => exact .refl _ s
  | succ n ih =>
    unfold drainEvents
    split
    · exact .refl _ s
    · next e r _ =>
      exact .ite ((((insertLost_within _).fromPatch rfl rfl).andThen (writeEvent_within e _) rfl).trans (ih _)) (.refl _ s)

theorem flushEvents_within (s : State) : Within [.events, .out] s (flushEvents s) := drainEvents_within _ s

theorem deliverEvent_within (e : Event) (s : State) : Within [.events, .out] s (deliverEvent e s) :=
  .ite (writeEvent_within e s) ((insertLost_within s).seq (bufferEvent_within e _) rfl)

theorem logEvent_within (e : Event) (s : State) : Within [.logQueue] s (logEvent e s) := .ite (.of_patch rfl) (.refl _ s)

theorem forwardEvent_within (e : Event) (s : State) : Within [.sends, .out] s (forwardEvent e s) :=
  (Within.ite (.ite (.refl [.sends, .out] _) (sendRing_within _ _ _))
    (.each (fun _ _ => sendRing_within _ _ _) _ _)).fromPatch rfl rfl

theorem raiseAt_within (at_ : Time) (code block : Nat) (detail : Bytes) (s : State) :
    Within eventPieces s (raiseAt at_ code block detail s) :=
  (deliverEvent_within _ s).seq (logEvent_within _ _) rfl |>.andThen (forwardEvent_within _ _) rfl

theorem raise_within (code block : Nat) (detail : Bytes) (s : State) :
    Within eventPieces s (raise code block detail s) := raiseAt_within _ _ _ _ s

theorem writeReply_within (r : Reply) (s : State) : Within [.bar0, .events, .out] s (writeReply r s) :=
  (countEntry_within _ _).fromPatch rfl rfl

theorem drainReplies_within (n : Nat) (s : State) : Within [.bar0, .events, .out] s (drainReplies n s) := by
  induction n generalizing s with
  | zero => exact .refl _ s
  | succ n ih =>
    unfold drainReplies
    split
    · exact .refl _ s
    · next r rest _ =>
      exact .ite (((writeReply_within r _).fromPatch rfl rfl).trans (ih _)) (.refl _ s)

theorem flushReplies_within (s : State) : Within [.bar0, .events, .out] s (flushReplies s) := drainReplies_within _ s

theorem reply_within (r : Reply) (s : State) : Within [.bar0, .events, .out] s (reply r s) :=
  .ite (writeReply_within r s) (.of_patch rfl)

/-! SAFE causes and automatic transitions -/

theorem scheduleSafe_within (s : State) : Within [.causes] s (scheduleSafe s) := .ite (.refl _ s) (.of_patch rfl)

theorem raiseSafeAt_within (at_ : Time) (bit block : Nat) (s : State) :
    Within [.causes] s (raiseSafeAt at_ bit block s) := by
  refine Within.trans (.ite (.refl _ s) ?_) (scheduleSafe_within _)
  exact (Within.of_patch (l := [.causes, .standing]) rfl).ofStanding fun c hc => List.mem_append_left _ hc

theorem raiseSafe_within (bit block : Nat) (s : State) : Within [.causes] s (raiseSafe bit block s) :=
  raiseSafeAt_within _ _ _ s

theorem clearSafe_within (bit block : Nat) (s : State) : Within [.causes, .standing] s (clearSafe bit block s) :=
  .of_patch rfl

theorem scheduleDrain_within (cause : Nat) (due : Due) (s : State) : Within [.causes] s (scheduleDrain cause due s) :=
  .ite (.of_patch rfl) (.refl _ s)

theorem internalFault_within (block : Nat) (s : State) : Within [.causes] s (internalFault block s) :=
  raiseSafe_within _ _ s

/-! What an event leaves as it was -/

@[simp] theorem raise_now (code block : Nat) (detail : Bytes) (s : State) :
    (raise code block detail s).now = s.now := (raise_within code block detail s).now

@[simp] theorem raise_hub (code block : Nat) (detail : Bytes) (s : State) :
    (raise code block detail s).hub = s.hub := (raise_within code block detail s).hub_eq rfl rfl

@[simp] theorem raise_link (code block : Nat) (detail : Bytes) (s : State) :
    (raise code block detail s).link = s.link := (raise_within code block detail s).keeps .link rfl

@[simp] theorem raise_mer (code block : Nat) (detail : Bytes) (s : State) :
    (raise code block detail s).mer = s.mer := (raise_within code block detail s).keeps .mer rfl

@[simp] theorem raise_enc (code block : Nat) (detail : Bytes) (s : State) :
    (raise code block detail s).enc = s.enc := (raise_within code block detail s).keeps .enc rfl

@[simp] theorem raise_mem (code block : Nat) (detail : Bytes) (s : State) :
    (raise code block detail s).mem = s.mem := (raise_within code block detail s).keeps .mem rfl

@[simp] theorem raise_grt (code block : Nat) (detail : Bytes) (s : State) :
    (raise code block detail s).grt = s.grt := (raise_within code block detail s).keeps .grt rfl

@[simp] theorem raise_esc (code block : Nat) (detail : Bytes) (s : State) :
    (raise code block detail s).esc = s.esc := (raise_within code block detail s).esc_eq rfl rfl

@[simp] theorem raise_hlk (code block : Nat) (detail : Bytes) (s : State) :
    (raise code block detail s).hlk = s.hlk := (raise_within code block detail s).hlk_eq rfl rfl rfl

@[simp] theorem raise_ldg (code block : Nat) (detail : Bytes) (s : State) :
    (raise code block detail s).ldg = s.ldg := (raise_within code block detail s).keeps .ldg rfl

@[simp] theorem raise_ins (code block : Nat) (detail : Bytes) (s : State) :
    (raise code block detail s).ins = s.ins := (raise_within code block detail s).ins_eq rfl rfl

@[simp] theorem raise_cal (code block : Nat) (detail : Bytes) (s : State) :
    (raise code block detail s).cal = s.cal := (raise_within code block detail s).keeps .cal rfl

@[simp] theorem raise_axs (code block : Nat) (detail : Bytes) (s : State) :
    (raise code block detail s).axs = s.axs := (raise_within code block detail s).keeps .axs rfl

@[simp] theorem raise_view (code block : Nat) (detail : Bytes) (s : State) :
    (raise code block detail s).view = s.view := (raise_within code block detail s).keeps .view rfl

@[simp] theorem raise_thm (code block : Nat) (detail : Bytes) (s : State) :
    (raise code block detail s).thm = s.thm := (raise_within code block detail s).thm_eq rfl rfl

@[simp] theorem raise_nvm (code block : Nat) (detail : Bytes) (s : State) :
    (raise code block detail s).nvm = s.nvm := (raise_within code block detail s).keeps .nvm rfl

@[simp] theorem raise_cfg (code block : Nat) (detail : Bytes) (s : State) :
    (raise code block detail s).cfg = s.cfg := (raise_within code block detail s).keeps .settings rfl

@[simp] theorem raise_held (code block : Nat) (detail : Bytes) (s : State) :
    (raise code block detail s).held = s.held := (raise_within code block detail s).keeps .held rfl

@[simp] theorem raise_freeCtr (code block : Nat) (detail : Bytes) (s : State) :
    (raise code block detail s).freeCtr = s.freeCtr := (raise_within code block detail s).keeps .free rfl

@[simp] theorem raise_pending (code block : Nat) (detail : Bytes) (s : State) :
    (raise code block detail s).pending = s.pending := (raise_within code block detail s).pending

/-! Steps -/

/-- A step of a block that lives carries out its operation at its instant. -/
theorem runs_atTime {t0 : Time} {f : State → State} {s : State} {P : State → Prop} (halive : alive s = true)
    (h : P (keepQueue s (f (advance t0 s)))) : Runs (atTime t0 f s) P :=
  ⟨_, by rw [atTime, if_pos (show alive (advance t0 s) = true from halive)]; rfl, h⟩

end Sys2Proof.Machine.Laws
end

section
/-! SUPPORT. Tables, and the registers that are kept in them, read after a write; and what has left the ports. -/
namespace Sys2Proof.Machine.Laws
open Sys2Proof.Machine

variable {s t : State}

/-! Tables -/

@[simp] theorem tget_tset_same {κ α : Type} [DecidableEq κ] (d : α) (m : Tab κ α) (k : κ) (v : α) :
    tget d (tset m k v) k = v := by
  induction m with
  | nil => simp [tset, tget]
  | cons x r ih => by_cases h : x.1 = k <;> simp [tset, tget, h, ih]

@[simp] theorem tget_tset_of_ne {κ α : Type} [DecidableEq κ] (d : α) (m : Tab κ α) {k j : κ} (v : α) (h : j ≠ k) :
    tget d (tset m k v) j = tget d m j := by
  induction m with
  | nil => simp [tset, tget, h.symm]
  | cons x r ih =>
    by_cases hx : x.1 = k
    · simp [tset, tget, hx, h.symm]
    · simp [tset, tget, hx, ih]

@[simp] theorem laneOf_setLane_same (n : Nat) (v : Lane) (s : State) : laneOf (setLane n v s) n = v := tget_tset_same ..

@[simp] theorem laneOf_setLane_of_ne {n k : Nat} (v : Lane) (s : State) (h : k ≠ n) :
    laneOf (setLane n v s) k = laneOf s k := tget_tset_of_ne _ _ _ h

@[simp] theorem moduleOf_setModule_same (m : Nat) (v : HeadModule) (s : State) : moduleOf (setModule m v s) m = v :=
  tget_tset_same ..

@[simp] theorem moduleOf_setModule_of_ne {m k : Nat} (v : HeadModule) (s : State) (h : k ≠ m) :
    moduleOf (setModule m v s) k = moduleOf s k := tget_tset_of_ne _ _ _ h

@[simp] theorem axisOf_setAxis_same (a : Nat) (v : Axis) (s : State) : axisOf (setAxis a v s) a = v := tget_tset_same ..

@[simp] theorem axisOf_setAxis_of_ne {a k : Nat} (v : Axis) (s : State) (h : k ≠ a) :
    axisOf (setAxis a v s) k = axisOf s k := tget_tset_of_ne _ _ _ h

@[simp] theorem sensorOf_setSensor_same (i : Nat) (v : Sensor) (s : State) : sensorOf (setSensor i v s) i = v :=
  tget_tset_same ..

@[simp] theorem sensorOf_setSensor_of_ne {i k : Nat} (v : Sensor) (s : State) (h : k ≠ i) :
    sensorOf (setSensor i v s) k = sensorOf s k := tget_tset_of_ne _ _ _ h

@[simp] theorem camOf_setCam_same (c : Nat) (v : Camera) (s : State) : camOf (setCam c v s) c = v := tget_tset_same ..

@[simp] theorem camOf_setCam_of_ne {c k : Nat} (v : Camera) (s : State) (h : k ≠ c) :
    camOf (setCam c v s) k = camOf s k := tget_tset_of_ne _ _ _ h

/-! The same registers where their table is as it was -/

theorem laneOf_congr (h : t.hlk.lanes = s.hlk.lanes) (n : Nat) : laneOf t n = laneOf s n := by rw [laneOf, h, laneOf]

theorem moduleOf_congr (h : t.hlk.modules = s.hlk.modules) (m : Nat) : moduleOf t m = moduleOf s m := by
  rw [moduleOf, h, moduleOf]

theorem axisOf_congr (h : t.axs = s.axs) (a : Nat) : axisOf t a = axisOf s a := by rw [axisOf, h, axisOf]

theorem sensorOf_congr (h : t.thm.sensors = s.thm.sensors) (i : Nat) : sensorOf t i = sensorOf s i := by
  rw [sensorOf, h, sensorOf]

theorem camOf_congr (h : t.ins.cameras = s.ins.cameras) (c : Nat) : camOf t c = camOf s c := by rw [camOf, h, camOf]

theorem ptpOf_congr (h : t.mer = s.mer) (d : Nat) : ptpOf t d = ptpOf s d := by rw [ptpOf, h, ptpOf]

theorem encOf_congr (h : t.enc = s.enc) (x : Nat) : encOf t x = encOf s x := by rw [encOf, h, encOf]

/-! What has left the ports -/

theorem sent_of_append {o : List Output} (h : t.out = o ++ s.out) : sent s t = o := by
  simp [sent, h]

/-! Steps of a steady block -/

theorem runs_atPrint {t0 : Time} {f : State → State} {P : State → Prop} (hsteady : Steady s)
    (h : P (keepQueue s (f (advance t0 s)))) : Runs (atPrint t0 f s) P :=
  ⟨_, atPrint_of_steady hsteady t0 f, h⟩

/-- A step whose operation changes nothing. -/
theorem onlyParts_of_eq {t0 : Time} (h : t = advance t0 s) (l : List Part) :
    OnlyParts l s (keepQueue s t) := by
  subst h
  exact ⟨rfl, fun p _ => by cases p <;> rfl⟩

/-- The frame of a step, from the frame of its operation. -/
theorem Within.step {l : List Piece} {ps : List Part} {t0 : Time} (h : Within l (advance t0 s) t)
    (hparts : (l.all fun p => ps.contains p.part) = true) : OnlyParts ps s (keepQueue s t) := by
  obtain ⟨-, hsame⟩ := h.onlyParts hparts
  exact ⟨rfl, fun p hp => by cases p <;> exact hsame _ hp⟩

theorem Within.keepQueue_eq {l : List Piece} {t0 : Time} (h : Within l (advance t0 s) t) : keepQueue s t = t := by
  rw [keepQueue, ← advance_pending t0 s, ← h.pending]

/-- A step of a block that lives, where the frame of its operation is known. -/
theorem Within.runs {l : List Piece} {t0 : Time} {f : State → State} {P : State → Prop}
    (h : Within l (advance t0 s) (f (advance t0 s))) (halive : alive s = true) (hP : P (f (advance t0 s))) :
    Runs (atTime t0 f s) P :=
  runs_atTime halive (by rwa [h.keepQueue_eq])

/-- A step of a steady block, where the frame of its operation is known. -/
theorem Within.runsPrint {l : List Piece} {t0 : Time} {f : State → State} {P : State → Prop}
    (h : Within l (advance t0 s) (f (advance t0 s))) (hsteady : Steady s) (hP : P (f (advance t0 s))) :
    Runs (atPrint t0 f s) P :=
  runs_atPrint hsteady (by rwa [h.keepQueue_eq])

/-- The frame of an operation is that of its step: its instant changes no part. -/
theorem Within.only {l : List Piece} {ps : List Part} {t0 : Time} (h : Within l (advance t0 s) t)
    (hparts : (l.all fun p => ps.contains p.part) = true) : OnlyParts ps s t := by
  obtain ⟨hpending, hsame⟩ := h.onlyParts hparts
  exact ⟨hpending, fun p hp => by cases p <;> exact hsame _ hp⟩

end Sys2Proof.Machine.Laws
end

section
/-! SUPPORT. Sending a slot to its module (R197, R198). -/
namespace Sys2Proof.Machine.Laws
open Sys2Proof.Machine

theorem sendPairs_within (m : Nat) (n : Int) (payload : Bytes) (instants : List Time) (gen : BitVec 32) (resend : Bool)
    (s : State) : Within [.out] s (sendPairs m n payload instants gen resend s) :=
  .each (fun _ _ => .each (fun _ _ => send_within _ _) _ _) _ s

/-- A module that has taken a slot and holds its line until the receipt. -/
def holdLine (n : Int) (pay : Bytes) (ins : List Time) (gen : BitVec 32) (h : HeadModule) : HeadModule :=
  { h with sentTop := n, lines := h.lines ++ [{ slot := n, payload := pay, instants := ins, gen := gen }] }

/-- The registers once a slot's blocks have left. -/
def takeSlot (m : Nat) (n : Int) (h : HeadModule) (gen : BitVec 32) (s : State) : State :=
  setModule m h { s with hlk := { s.hlk with sentGen := gen }, esc := { s.esc with taken := max s.esc.taken n } }

theorem takeSlot_within (m : Nat) (n : Int) (h : HeadModule) (gen : BitVec 32) (s : State) :
    Within [.esc, .hlk, .modules, .reports] s (takeSlot m n h gen s) := .of_patch rfl

theorem slotSend_of_ready {m : Nat} {n : Int} {pay : Bytes} {ins : List Time} {gen : BitVec 32} {s : State}
    (hready : readySlot s m n = some (pay, ins, gen)) (husable : moduleUsable s m = true)
    (hnew : (moduleOf s m).sentTop < n) (hlower : lowerWaits s m n = false)
    (hroom : occupancy s (moduleOf s m) < queueDepth (moduleOf s m))
    (htime : inTime s m (slotBlocks s m 36) s.now ins = true) (hpurge : s.hlk.purge = none) :
    slotSend m n s = takeSlot m n (holdLine n pay ins gen (moduleOf s m)) gen (sendPairs m n pay ins gen false s) := by
  have hhlk : (sendPairs m n pay ins gen false s).hlk.purge = none :=
    (congrArg Hlk.purge ((sendPairs_within m n pay ins gen false s).keeps .hlk rfl)).trans hpurge
  simp [slotSend, hready, husable, hlower, htime, Int.not_le.2 hnew, Nat.not_le.2 hroom, setModule, hhlk, takeSlot,
    holdLine]

theorem slotSend_of_taken {m : Nat} {n : Int} {s : State} (h : n ≤ (moduleOf s m).sentTop) : slotSend m n s = s := by
  unfold slotSend
  split
  · rfl
  · exact if_pos (by simp [h])

end Sys2Proof.Machine.Laws

namespace Sys2Proof.Machine.Proofs
open Sys2Proof.Machine Sys2Proof.Machine.Laws

/-- Settles O33: the three branches of sending a slot. -/
theorem slotSendRows : Obligations.SlotSendRows := by
  refine ⟨fun t0 m n pay ins gen s hcalm hpurge hready husable hnew hlower hroom htime => ?_,
    fun t0 m n s hcalm hready => ?_, fun t0 m n s hcalm hold => ?_⟩
  all_goals refine runs_atPrint hcalm.steady ?_
  · rw [slotSend_of_ready hready husable hnew hlower hroom htime hpurge]
    have hp := sendPairs_within m.val n pay ins gen false (advance t0 s)
    generalize sendPairs m.val n pay ins gen false (advance t0 s) = p at hp ⊢
    have hwithin := hp.seq (m := [.esc, .hlk, .modules, .reports, .out])
      (takeSlot_within m.val n (holdLine n pay ins gen (moduleOf (advance t0 s) m.val)) gen p) rfl
    refine ⟨?_, ?_, rfl, fun k hk => ?_, laneOf_congr (hp.keeps .lanes rfl), hwithin.step rfl⟩
    · exact congrArg HeadModule.sentTop (moduleOf_setModule_same ..)
    · exact congrArg HeadModule.lines (moduleOf_setModule_same ..)
    · exact (moduleOf_setModule_of_ne _ _ hk).trans (moduleOf_congr (hp.keeps .modules rfl) k)
  · rw [slotSend, hready]
    exact onlyParts_of_eq rfl _
  · rw [slotSend_of_taken (s := advance t0 s) hold]
    exact onlyParts_of_eq rfl _

end Sys2Proof.Machine.Proofs
end

section
/-! SUPPORT. The display output (R317 to R325). -/
namespace Sys2Proof.Machine.Laws
open Sys2Proof.Machine

variable {s t u : State}

/-- The display output's registers without what it counts and checks. -/
def steering (v : View) : View :=
  { v with run0 := 0, run1 := 0, crc0 := 0, crc1 := 0, readErr0 := 0, readErr1 := 0, frameUnder := 0, underrun := 0 }

/-- Of the display output at most what it counts and checks differs. -/
def ChecksOnly (s t : State) : Prop := steering t.view = steering s.view

theorem ChecksOnly.trans (hst : ChecksOnly s t) (htu : ChecksOnly t u) : ChecksOnly s u := Eq.trans htu hst

theorem ChecksOnly.state (h : ChecksOnly s t) : t.view.state = s.view.state := (congrArg View.state h :)

theorem ChecksOnly.frame (h : ChecksOnly s t) : t.view.frame = s.view.frame := (congrArg View.frame h :)

theorem ChecksOnly.line (h : ChecksOnly s t) : t.view.line = s.view.line := (congrArg View.line h :)

theorem ChecksOnly.latchTime (h : ChecksOnly s t) : t.view.latchTime = s.view.latchTime := (congrArg View.latchTime h :)

theorem ChecksOnly.shadow (h : ChecksOnly s t) : t.view.shadow = s.view.shadow := (congrArg View.shadow h :)

theorem ChecksOnly.late (h : ChecksOnly s t) : t.view.late = s.view.late := (congrArg View.late h :)

theorem ChecksOnly.buffered (h : ChecksOnly s t) : t.view.buffered = s.view.buffered := (congrArg View.buffered h :)

theorem ChecksOnly.ite {c : Prop} [Decidable c] (ht : ChecksOnly s t) (hu : ChecksOnly s u) :
    ChecksOnly s (if c then t else u) := by
  split
  · exact ht
  · exact hu

theorem Within.checksOnly {l : List Piece} (h : Within l s t) (hl : l.contains .view = false) : ChecksOnly s t :=
  congrArg steering (h.keeps .view hl)

theorem raise_checksOnly {code block : Nat} {detail : Bytes} (h : ChecksOnly s t) :
    ChecksOnly s (raise code block detail t) :=
  h.trans ((raise_within _ _ _ _).checksOnly rfl)

theorem sendLine_within (line : Nat) (pixels : List (Nat × Nat × Nat)) (s : State) :
    Within [.view, .out] s (sendLine line pixels s) :=
  (Within.each (fun _ _ => send_within _ _) _ _).fromPatch rfl rfl

theorem sendLine_checksOnly (line : Nat) (pixels : List (Nat × Nat × Nat)) (s : State) :
    ChecksOnly s (sendLine line pixels s) :=
  (Within.each (fun _ _ => send_within _ _) _ _).checksOnly rfl

theorem readBack_within (link : Nat) (pad : Option (BitVec 32)) (s : State) :
    Within (.view :: eventPieces) s (readBack link pad s) :=
  .ite (.refl _ s) (.ite (.of_patch rfl) ((raise_within _ _ _ _).fromPatch rfl rfl))

theorem readBack_checksOnly (link : Nat) (pad : Option (BitVec 32)) (s : State) : ChecksOnly s (readBack link pad s) := by
  by_cases hlink : link = 0
  all_goals
    simp only [readBack, hlink, if_true, if_false]
    exact .ite rfl (.ite rfl (raise_checksOnly rfl))

theorem activeLine_within (line y : Nat) (dataTo : Option Nat) (s : State) :
    Within (.view :: .mem :: eventPieces) s (activeLine line y dataTo s) := by
  have hsent := (sendLine_within line (viewLine s y dataTo) (countPort 4 (viewFetchBytes s y) s)).fromPatch (s := s)
    (l := .view :: .mem :: eventPieces) rfl rfl
  exact .ite hsent (hsent.trans (.ite ((raise_within _ _ _ _).fromPatch rfl rfl) (.of_patch rfl)))

theorem activeLine_checksOnly (line y : Nat) (dataTo : Option Nat) (s : State) :
    ChecksOnly s (activeLine line y dataTo s) := by
  have hsent : ChecksOnly s (sendLine line (viewLine s y dataTo) (countPort 4 (viewFetchBytes s y) s)) :=
    sendLine_checksOnly _ _ _
  exact .ite hsent (hsent.trans (.ite (raise_checksOnly rfl) rfl))

theorem viewEnter_within (new status : Nat) (s : State) : Within (.view :: eventPieces) s (viewEnter new status s) :=
  (raise_within _ _ _ _).fromPatch rfl rfl

theorem viewEnter_view (new status : Nat) (s : State) : (viewEnter new status s).view = { s.view with state := new } :=
  raise_view _ _ _ _

theorem frameBegins_within (f : Nat) (s : State) : Within [.view] s (frameBegins f s) := .of_patch rfl

/-- A frame begins at line 0 with the latest set in the shadow (R318). -/
theorem frameBegins_view (f : Nat) (s : State) :
    let v := (frameBegins f s).view
    v.state = s.view.state ∧ v.frame = f ∧ v.line = 0 ∧ v.latchTime = s.now ∧ v.shadow = s.view.late ∧ v.late = none := by
  unfold frameBegins viewTransfer
  dsimp only
  split <;> exact ⟨rfl, rfl, rfl, rfl, rfl, rfl⟩

theorem viewStopped_within (status : Nat) (s : State) : Within (.view :: eventPieces) s (viewStopped status s) :=
  (viewEnter_within _ _ _).fromPatch rfl rfl

theorem viewStopped_view (status : Nat) (s : State) :
    (viewStopped status s).view.state = 0 ∧ (viewStopped status s).view.frame = s.view.frame := by
  rw [viewStopped, viewEnter_view]
  exact ⟨rfl, rfl⟩

/-- A new frame and its first line: what the display output's registers hold then. -/
theorem firstLine_view {f : Nat} :
    let v := (sendLine 0 [] (frameBegins f s)).view
    v.state = s.view.state ∧ v.frame = f ∧ v.line = 0 ∧ v.latchTime = s.now ∧ v.shadow = s.view.late ∧ v.late = none := by
  obtain ⟨hstate, hframe, hline, htime, hshadow, hlate⟩ := frameBegins_view f s
  have h : ChecksOnly (frameBegins f s) _ := sendLine_checksOnly 0 [] _
  exact ⟨h.state.trans hstate, h.frame.trans hframe, h.line.trans hline,
    h.latchTime.trans htime, h.shadow.trans hshadow, h.late.trans hlate⟩

theorem firstLine_within (f : Nat) (s : State) : Within [.view, .out] s (sendLine 0 [] (frameBegins f s)) :=
  (frameBegins_within f s).seq (sendLine_within _ _ _) rfl

theorem readBacks_within (pad0 pad1 : Option (BitVec 32)) (s : State) :
    Within (.view :: eventPieces) s (readBack 1 pad1 (readBack 0 pad0 s)) :=
  (readBack_within _ _ _).trans (readBack_within _ _ _)

theorem readBacks_checksOnly (pad0 pad1 : Option (BitVec 32)) (s : State) :
    ChecksOnly s (readBack 1 pad1 (readBack 0 pad0 s)) :=
  (readBack_checksOnly _ _ _).trans (readBack_checksOnly _ _ _)

/-- The output starts: its first frame begins (R317). -/
theorem pixelClockLock_of_starting (hstate : s.view.state = 1) (htime : s.now ≤ s.view.startedAt + 5 * tpMs) :
    let t := pixelClockLock s
    Within (.view :: eventPieces) s t ∧ t.view.state = 2 ∧ t.view.frame = 0 ∧ t.view.line = 0 ∧ t.view.latchTime = s.now
      ∧ t.view.shadow = s.view.late ∧ t.view.late = none := by
  rw [pixelClockLock, if_pos ⟨hstate, htime⟩]
  have hview := viewEnter_view 2 0 { s with view := { s.view with frame := 0 } }
  have hwithin := (viewEnter_within 2 0 { s with view := { s.view with frame := 0 } }).fromPatch (s := s)
    (l := .view :: eventPieces) rfl rfl
  generalize viewEnter 2 0 _ = u at hview hwithin
  obtain ⟨hs, hf, hl, ht, hsh, hla⟩ := firstLine_view (s := u) (f := 0)
  exact ⟨hwithin.andThen (firstLine_within 0 u) rfl, hs.trans (congrArg View.state hview :), hf, hl, ht.trans hwithin.now,
    hsh.trans (congrArg View.late hview :), hla⟩

/-- The next frame begins (R318). -/
theorem latchPoint_of_running (p q : Option (BitVec 32)) (hstate : s.view.state = 2) :
    let t := latchPoint p q s
    Within (.view :: eventPieces) s t ∧ t.view.state = 2 ∧ t.view.frame = s.view.frame + 1 ∧ t.view.line = 0
      ∧ t.view.latchTime = s.now ∧ t.view.shadow = s.view.late ∧ t.view.late = none := by
  rw [latchPoint, if_pos hstate]
  have hread := readBacks_checksOnly p q s
  have hwithin := readBacks_within p q s
  generalize readBack 1 q (readBack 0 p s) = r at hread hwithin
  obtain ⟨hs, hf, hl, ht, hsh, hla⟩ := firstLine_view (s := r) (f := s.view.frame + 1)
  exact ⟨hwithin.andThen (firstLine_within _ r) rfl, hs.trans (hread.state.trans hstate), hf, hl,
    ht.trans hwithin.now, hsh.trans hread.late, hla⟩

/-- The output stops at the end of its frame (R319). -/
theorem latchPoint_of_stopping (p q : Option (BitVec 32)) (hstate : s.view.state = 3) :
    let t := latchPoint p q s
    Within (.view :: eventPieces) s t ∧ t.view.state = 0 ∧ t.view.frame = s.view.frame := by
  rw [latchPoint, if_neg (by omega), if_pos hstate]
  have hread := readBacks_checksOnly p q s
  obtain ⟨hs, hf⟩ := viewStopped_view 0 (readBack 1 q (readBack 0 p s))
  exact ⟨(readBacks_within p q s).trans (viewStopped_within 0 _), hs, hf.trans hread.frame⟩

/-- A line of the frame in progress is sent (R323, R325). -/
theorem viewLineStart_of_next {n : Nat} (d : Option Nat) (l : Nat) (hstate : s.view.state = 2 ∨ s.view.state = 3)
    (hn : n = s.view.line + 1) (hactive : n < (viewMode s).vTotal) :
    let t := viewLineStart n d l s
    Within (.view :: .mem :: eventPieces) s t ∧ t.view.line = n ∧ t.view.buffered = min l 32768
      ∧ t.view.frame = s.view.frame ∧ t.view.shadow = s.view.shadow := by
  have hline : ¬((s.view.state ≠ 2 ∧ s.view.state ≠ 3) ∨ n ≠ s.view.line + 1 ∨ (viewMode s).vTotal ≤ n) := by omega
  rw [viewLineStart, if_neg hline]
  have hchecks : ChecksOnly { s with view := { s.view with line := n, buffered := min l 32768 } } _ :=
    .ite (c := n < (viewMode s).vTotal - (viewMode s).vActive ∨ s.view.frame = 0) (sendLine_checksOnly n [] _)
      (activeLine_checksOnly n (n - ((viewMode s).vTotal - (viewMode s).vActive)) d _)
  exact ⟨.ite ((sendLine_within _ _ _).fromPatch rfl rfl) ((activeLine_within _ _ _ _).fromPatch rfl rfl), hchecks.line,
    hchecks.buffered, hchecks.frame, hchecks.shadow⟩

end Sys2Proof.Machine.Laws

namespace Sys2Proof.Machine.Proofs
open Sys2Proof.Machine Sys2Proof.Machine.Laws

/-- Settles O47: each step by the branch it takes. -/
theorem viewRows : Obligations.ViewRows := by
  refine ⟨fun t0 s halive hstate hnow => ?_, fun t0 s halive hstate hnow => ?_, fun t0 p q s halive hstate => ?_,
    fun t0 p q s halive hstate => ?_, fun t0 p q s halive h₂ h₃ => ?_, fun t0 n d l s halive hstate hn hactive => ?_,
    fun t0 n d l s halive hn => ?_⟩
  all_goals refine runs_atTime halive ?_
  · obtain ⟨hwithin, hs, hf, hl, ht, hsh, hla⟩ := pixelClockLock_of_starting (s := advance t0 s) hstate hnow
    exact ⟨hs, hf, hl, ht, hsh, hla, hwithin.step rfl⟩
  · rw [pixelClockTimeout, if_pos (show (advance t0 s).view.state = 1 ∧ (advance t0 s).view.startedAt + 5 * tpMs ≤ (advance t0 s).now from ⟨hstate, hnow⟩)]
    exact ⟨(viewStopped_view 1 _).1, (viewStopped_within 1 _).step rfl⟩
  · obtain ⟨hwithin, hs, hf, hl, ht, hsh, hla⟩ := latchPoint_of_running (s := advance t0 s) p q hstate
    exact ⟨hs, hf, hl, ht, hsh, hla, hwithin.step rfl⟩
  · obtain ⟨hwithin, hs, hf⟩ := latchPoint_of_stopping (s := advance t0 s) p q hstate
    exact ⟨hs, hf, hwithin.step rfl⟩
  · rw [latchPoint, if_neg (show ¬ (advance t0 s).view.state = 2 from h₂),
      if_neg (show ¬ (advance t0 s).view.state = 3 from h₃)]
    exact onlyParts_of_eq rfl _
  · obtain ⟨hwithin, hl, hb, hf, hsh⟩ := viewLineStart_of_next (s := advance t0 s) d l.toNat hstate hn hactive
    exact ⟨hl, hb, hf, hsh, hwithin.step rfl⟩
  · rw [viewLineStart, if_pos (.inr (.inl hn))]
    exact onlyParts_of_eq rfl _

end Sys2Proof.Machine.Proofs
end

section
/-! SUPPORT. The page store (R126 to R138): what an operation leaves of the objects it finds. -/
namespace Sys2Proof.Machine.Laws
open Sys2Proof.Machine

variable {s t : State}

theorem findPage_congr (h : t.mem.pages = s.mem.pages) (id : Nat) : findPage t id = findPage s id := by
  rw [findPage, h, findPage]

theorem pageState_congr (h : t.mem.pages = s.mem.pages) (id : Nat) : pageState t id = pageState s id := by
  rw [pageState, pageState, findPage_congr h]

/-- An object that a change keeps the ID of is found again, changed. -/
theorem findPage_modPage_same {f : Page → Page} (hf : ∀ p, (f p).id = p.id) (id : Nat) (s : State) :
    findPage (modPage id f s) id = (findPage s id).map f := by
  have hid : ((fun p : Page => decide (p.id = id)) ∘ fun p => if p.id = id then f p else p) = fun p => decide (p.id = id) := by
    funext p
    by_cases h : p.id = id <;> simp [h, hf]
  rw [findPage, modPage, List.find?_map, hid, ← findPage]
  cases hfound : findPage s id with
  | none => rfl
  | some p => simp [show p.id = id by simpa using List.find?_some hfound]

theorem exists_findPage_of_mem {p : Page} (h : p ∈ s.mem.pages) : ∃ q, findPage s p.id = some q ∧ q.id = p.id := by
  cases hfound : findPage s p.id with
  | none => exact absurd (List.find?_eq_none.1 hfound p h) (by simp)
  | some q => exact ⟨q, rfl, by simpa using List.find?_some hfound⟩

theorem mem_of_firstLoading {p : Page} (h : firstLoading s = some p) : p ∈ s.mem.pages := List.mem_of_find?_eq_some h

theorem modPage_within (id : Nat) (f : Page → Page) (s : State) : Within [.mem] s (modPage id f s) := .of_patch rfl

/-! Objects that become INVALID -/

theorem invalidate_within (id reason : Nat) (s : State) : Within [.mem, .ins, .cal] s (invalidate id reason s) :=
  .of_patch rfl

theorem pageState_invalidate (id reason : Nat) {q : Page} (h : findPage s id = some q) :
    pageState (invalidate id reason s) id = .invalid := by
  have hfound : findPage (invalidate id reason s) id = _ :=
    findPage_modPage_same (f := fun p => { p with state := .invalid, reason := reason, data := [] }) (fun _ => rfl) id s
  rw [pageState, hfound, h]
  rfl

/-- An object that a load ends for, by `f`, with the event that says so. -/
theorem pageLoaded_within {l : List Piece} {f : State → State} (hf : Within l s (f s)) (p : Page) (reached reason : Nat)
    (hevent : incl (.mem :: eventPieces) l = true) : Within l s (pageLoaded p reached reason f s) :=
  hf.andThen ((raise_within _ _ _ _).fromPatch (l := .mem :: eventPieces) rfl rfl) hevent

theorem pageLoaded_pages (p : Page) (reached reason : Nat) (f : State → State) (s : State) :
    (pageLoaded p reached reason f s).mem.pages = (f s).mem.pages :=
  (congrArg Mem.pages (raise_mem _ _ _ _) :)

/-- What had arrived of an object whose load fails, and the state that says so. -/
def arrivedBy (p : Page) (reason : Nat) (s : State) : Nat × State := if reason = 2 then (0, s) else arrived p s

theorem arrivedBy_within (p : Page) (reason : Nat) (s : State) : Within [.free] s (arrivedBy p reason s).2 := by
  unfold arrivedBy arrived
  split
  · exact .refl _ s
  · split <;> exact .of_patch rfl

/-- An object whose load fails, with the bytes that had arrived. -/
def failLoad (p : Page) (reason loaded : Nat) (s : State) : State :=
  modPage p.id (fun g => { g with loaded := loaded }) (invalidate p.id reason s)

theorem loadFails_eq (p : Page) (reason : Nat) (s : State) :
    loadFails p reason s
      = pageLoaded p 5 reason (failLoad p reason (arrivedBy p reason s).1) (arrivedBy p reason s).2 := rfl

theorem failLoad_within (p : Page) (reason loaded : Nat) (s : State) :
    Within [.mem, .ins, .cal] s (failLoad p reason loaded s) :=
  (invalidate_within _ _ _).andThen (modPage_within _ _ _) rfl

theorem loadFails_within (p : Page) (reason : Nat) (s : State) :
    Within (.mem :: .ins :: .cal :: .free :: eventPieces) s (loadFails p reason s) := by
  rw [loadFails_eq]
  exact ((arrivedBy_within p reason s).mono rfl).trans (pageLoaded_within ((failLoad_within _ _ _ _).mono rfl) _ _ _ rfl)

theorem pageState_failLoad {p q : Page} (reason loaded : Nat) (h : findPage s p.id = some q) :
    pageState (failLoad p reason loaded s) p.id = .invalid := by
  have hinvalid := pageState_invalidate p.id reason h
  rw [pageState] at hinvalid ⊢
  rw [failLoad, findPage_modPage_same (f := fun g => { g with loaded := loaded }) (fun _ => rfl)]
  cases hq : findPage (invalidate p.id reason s) p.id with
  | none => simp [hq] at hinvalid
  | some g => simpa [hq] using hinvalid

/-- A load that fails leaves its object INVALID (R128). -/
theorem pageState_loadFails {p q : Page} (reason : Nat) (h : findPage s p.id = some q) :
    pageState (loadFails p reason s) p.id = .invalid := by
  rw [loadFails_eq, pageState_congr (pageLoaded_pages _ _ _ _ _)]
  refine pageState_failLoad reason _ (Eq.trans ?_ h)
  exact findPage_congr (congrArg Mem.pages ((arrivedBy_within p reason s).keeps .mem rfl)) _

end Sys2Proof.Machine.Laws
end

section
/-! SUPPORT. Page loads, scrubbing, refresh and memory ports (R128, R135 to R138). -/
namespace Sys2Proof.Machine.Laws
open Sys2Proof.Machine

variable {s t : State}

/-- The object that a load filled, RESIDENT. -/
def loadedPage (total : Nat) (data : List Host.Cell) (at_ : Time) (p : Page) : Page :=
  { p with state := .resident, loaded := total, residentAt := at_, data := data }

theorem pageLoadEnd_eq_of_loaded {p : Page} {cells : List (Nat × Byte)} (hfirst : firstLoading s = some p)
    (hcheck : pageCrcCheck p = false) :
    let size := sizeOf (pageRows p) (pagePitch p)
    pageLoadEnd p.id (.loaded size cells) s
      = pageLoaded p 2 0 (modPage p.id (loadedPage size (memOf (cells.filter fun c => c.1 < size)) s.now))
          (countPort 1 size s) := by
  simp only [pageLoadEnd, hfirst, hcheck]
  simp only [ne_eq, not_true_eq_false, if_false, Bool.false_and, Bool.false_eq_true]
  rfl

/-- A load whose bytes all arrived leaves its object RESIDENT, in canonical form (R126, R128). -/
theorem pageLoadEnd_of_loaded {p : Page} (cells : List (Nat × Byte)) (hfirst : firstLoading s = some p)
    (hcheck : pageCrcCheck p = false) :
    let size := sizeOf (pageRows p) (pagePitch p)
    let t := pageLoadEnd p.id (.loaded size cells) s
    Within (.mem :: eventPieces) s t ∧ ∃ g, findPage t p.id = some g ∧ g.state = .resident ∧ g.loaded = size
      ∧ g.residentAt = s.now ∧ Memory.wf g.data := by
  obtain ⟨q, hq, -⟩ := exists_findPage_of_mem (mem_of_firstLoading hfirst)
  dsimp only
  rw [pageLoadEnd_eq_of_loaded hfirst hcheck]
  have hwf := memOf_wf (cells.filter fun c => c.1 < sizeOf (pageRows p) (pagePitch p))
  generalize sizeOf (pageRows p) (pagePitch p) = size at hwf ⊢
  generalize memOf (cells.filter fun c => c.1 < size) = data at hwf ⊢
  refine ⟨(pageLoaded_within (l := .mem :: eventPieces) ((modPage_within _ _ _).mono rfl) p 2 0 rfl).fromPatch rfl rfl,
    loadedPage size data s.now q, ?_, rfl, rfl, rfl, hwf⟩
  rw [findPage_congr (pageLoaded_pages _ _ _ _ _), findPage_modPage_same (f := loadedPage _ _ _) (fun _ => rfl)]
  exact congrArg (Option.map _) hq

theorem pageLoadEnd_of_failed {p : Page} {o : LoadEnd} (hfirst : firstLoading s = some p)
    (ho : o = .listError ∨ o = .dmaError ∨ o = .uncorrectable) : ∃ reason, pageLoadEnd p.id o s = loadFails p reason s := by
  rcases ho with rfl | rfl | rfl <;> exact ⟨_, by simp only [pageLoadEnd, hfirst]; exact if_neg (by simp)⟩

theorem uncorrectable_within (port : Nat) (p : Position) (addr page : Nat) (s : State) :
    Within (.mem :: eventPieces) s (uncorrectable port p addr page s) := (raise_within _ _ _ _).fromPatch rfl rfl

theorem scrubNext_eq (addr : Nat) (s : State) :
    ∃ a n, scrubNext addr s = { s with mem := { s.mem with scrubAddr := a, scrubPasses := n } } := by
  by_cases h : memBytes s ≤ addr + 64
  · exact ⟨0, s.mem.scrubPasses + 1, if_pos h⟩
  · exact ⟨addr + 64, s.mem.scrubPasses, if_neg h⟩

theorem scrubNext_within (addr : Nat) (s : State) : Within [.mem] s (scrubNext addr s) := by
  obtain ⟨a, n, h⟩ := scrubNext_eq addr s
  rw [h]
  exact .of_patch rfl

/-- The state once an uncorrectable error that the scrub found is counted. -/
def scrubbed (addr : Nat) (pos : Position) (id : Nat) (s : State) : State :=
  uncorrectable 7 pos addr id (scrubNext addr s)

theorem scrubbed_within (addr : Nat) (pos : Position) (id : Nat) (s : State) :
    Within (.mem :: eventPieces) s (scrubbed addr pos id s) :=
  (scrubNext_within _ _).seq (uncorrectable_within _ _ _ _ _) rfl

theorem scrubbed_mem (addr : Nat) (pos : Position) (id : Nat) (s : State) :
    (scrubbed addr pos id s).mem.pages = s.mem.pages
      ∧ (scrubbed addr pos id s).mem.uncorrectable = satInc 32 s.mem.uncorrectable := by
  obtain ⟨a, n, h⟩ := scrubNext_eq addr s
  rw [scrubbed, h, uncorrectable, raise_mem]
  exact ⟨rfl, rfl⟩

theorem memBytes_congr (h : t.cfg = s.cfg) : memBytes t = memBytes s := by
  rw [memBytes, memBytes, dramGib, dramGib, cfgGet, cfgGet, h]

theorem patrolScrubRead_of_clean {addr : Nat} (h : addr + 64 < memBytes s) :
    patrolScrubRead addr .clean s = { s with mem := { s.mem with scrubAddr := addr + 64 } } := by
  have hclean : patrolScrubRead addr .clean s = scrubNext addr s := rfl
  have hnext : scrubNext addr s = _ := if_neg (Nat.not_le.2 h)
  exact hclean.trans hnext

theorem patrolScrubRead_eq_of_resident (addr : Nat) (pos : Position) {id burst : Nat} {q : Page}
    (hnext : pageState (scrubNext addr s) id = .resident) (hq : findPage (scrubbed addr pos id s) id = some q) :
    patrolScrubRead addr (.uncorrectable pos id burst) s = invalidate id 4 (scrubbed addr pos id s) := by
  generalize hf : ScrubFind.uncorrectable pos id burst = f
  rw [scrubbed] at hq ⊢
  rw [patrolScrubRead.eq_def]
  split
  case h_1 => cases hf
  case h_2 => cases hf
  case h_3 =>
    cases hf
    simp only [hnext, hq]
    simp

/-- An uncorrectable error in a RESIDENT object makes it INVALID (R136). -/
theorem patrolScrubRead_of_resident (addr : Nat) (pos : Position) {id : Nat} (burst : Nat)
    (h : pageState s id = .resident) :
    let t := patrolScrubRead addr (.uncorrectable pos id burst) s
    Within (.mem :: .ins :: .cal :: eventPieces) s t ∧ pageState t id = .invalid
      ∧ t.mem.uncorrectable = satInc 32 s.mem.uncorrectable := by
  obtain ⟨q, hq⟩ : ∃ q, findPage s id = some q := by
    rw [pageState] at h
    cases hq : findPage s id with
    | none => simp [hq] at h
    | some q => exact ⟨q, rfl⟩
  obtain ⟨hpages, hcount⟩ := scrubbed_mem addr pos id s
  have hq' : findPage (scrubbed addr pos id s) id = some q := (findPage_congr hpages id).trans hq
  have hnext : pageState (scrubNext addr s) id = .resident := by
    obtain ⟨a, n, hscrub⟩ := scrubNext_eq addr s
    rw [hscrub]
    exact h
  have hkeeps : ∀ u, (invalidate id 4 u).mem.uncorrectable = u.mem.uncorrectable := fun _ => rfl
  dsimp only
  rw [patrolScrubRead_eq_of_resident addr pos hnext hq']
  refine ⟨(scrubbed_within addr pos id s).seq (invalidate_within id 4 _) rfl, pageState_invalidate _ _ hq', ?_⟩
  rw [hkeeps, hcount]

theorem refreshTo_within (two : Bool) (rank : Nat) (s : State) : Within (.mem :: eventPieces) s (refreshTo two rank s) :=
  (raise_within _ _ _ _).fromPatch rfl rfl

/-- The refresh rate for what the temperatures read (R137). -/
def refreshFor (temps : List DramTemp) (s : State) : State :=
  match temps.find? fun d => d.above85 with
  | some d =>
    let s := { s with mem := { s.mem with coolSince := none } }
    if s.mem.refresh2 then s else refreshTo true d.rank s
  | none => { s with mem := { s.mem with coolSince := some (s.mem.coolSince.getD s.now) } }

theorem refreshFor_within (temps : List DramTemp) (s : State) : Within (.mem :: eventPieces) s (refreshFor temps s) := by
  unfold refreshFor
  split
  · exact .ite (.of_patch rfl) ((refreshTo_within _ _ _).fromPatch rfl rfl)
  · exact .of_patch rfl

theorem refreshFor_of_warm {temps : List DramTemp} (h : ∃ d ∈ temps, d.above85 = true) (s : State) :
    (refreshFor temps s).mem.refresh2 = true ∧ (refreshFor temps s).mem.coolSince = none := by
  obtain ⟨d, hd⟩ : ∃ d, temps.find? (fun d => d.above85) = some d := by
    rwa [← Option.isSome_iff_exists, List.find?_isSome]
  rw [refreshFor, hd]
  dsimp only
  split
  · next htwo => exact ⟨htwo, rfl⟩
  · rw [refreshTo, raise_mem]
    exact ⟨rfl, rfl⟩

theorem refreshFor_of_cool {temps : List DramTemp} (h : ∀ d ∈ temps, d.above85 = false) (s : State) :
    (refreshFor temps s).mem.refresh2 = s.mem.refresh2
      ∧ (refreshFor temps s).mem.coolSince = some (s.mem.coolSince.getD s.now) := by
  have hnone : temps.find? (fun d => d.above85) = none := List.find?_eq_none.2 (by simpa using h)
  rw [refreshFor, hnone]
  exact ⟨rfl, rfl⟩

theorem each_mem {α : Type} {f : α → State → State} (hf : ∀ a s, (f a s).mem = s.mem) (xs : List α) (s : State) :
    (each xs f s).mem = s.mem := by
  induction xs generalizing s with
  | nil => rfl
  | cons a r ih => exact (ih (f a s)).trans (hf a s)

theorem dramTempRead_within (temps : List DramTemp) (s : State) :
    Within (.mem :: eventPieces) s (dramTempRead temps s) :=
  ((refreshFor_within temps s).andThen (.each (fun _ _ => raise_within _ _ _ _) _ _) rfl).trans (.of_patch rfl)

theorem dramTempRead_mem (temps : List DramTemp) (s : State) :
    (dramTempRead temps s).mem = { (refreshFor temps s).mem with hot := temps.any fun d => d.aboveMax } := by
  have hevents := each_mem (f := fun (d : DramTemp) =>
    raise 0x3402 0x04 (leBytes 1 d.channel ++ leBytes 1 d.rank ++ leBytes 1 d.reading)) (fun _ _ => raise_mem _ _ _ _)
    (temps.filter fun d => d.aboveMax) (refreshFor temps s)
  exact congrArg (fun m : Mem => { m with hot := temps.any fun d => d.aboveMax }) hevents

theorem refreshRelax_of_cool {at_ : Time} (hsince : s.mem.coolSince = some at_) (htwo : s.mem.refresh2 = true)
    (htime : at_ + tpS ≤ s.now) : refreshRelax s = refreshTo false s.mem.refreshRank s := by
  rw [refreshRelax, hsince]
  exact if_pos ⟨htwo, htime⟩

/-- The sub-channel takes the nearest delay set that is measured (R138). -/
theorem allBankRefresh_of_band {a b u : Nat} (hband : nearestBand s s.thm.dieBand = some u) :
    let t := allBankRefresh a b s
    Within (.mem :: eventPieces) s t ∧ tget s.thm.dieBand t.mem.bandUsed (a, b) = u
      ∧ t.mem.stale = decide (u ≠ s.thm.dieBand) := by
  dsimp only
  rw [allBankRefresh, hband]
  dsimp only
  split
  · next hsame => exact ⟨.of_patch rfl, hsame.1, rfl⟩
  · split
    · refine ⟨(raise_within _ _ _ _).fromPatch rfl rfl, ?_⟩
      rw [raise_mem]
      exact ⟨tget_tset_same .., rfl⟩
    · exact ⟨.of_patch rfl, tget_tset_same .., rfl⟩

theorem delayMeasureDone_of_measured {b : Nat} (eye : Nat) (h : s.mem.measuring = some b) :
    let t := delayMeasureDone true eye s
    Within (.mem :: .nvm :: .mss :: eventPieces) s t ∧ t.mem = { s.mem with measuring := none }
      ∧ t.nvm.delaySets = s.nvm.delaySets ||| BitVec.ofNat 6 (2 ^ b) := by
  dsimp only
  rw [delayMeasureDone, h]
  refine ⟨(raise_within _ _ _ _).fromPatch rfl rfl, ?_⟩
  rw [raise_mem, raise_nvm]
  exact ⟨rfl, rfl⟩

theorem dramDescribeDone_of_described {d : Bytes} (h : s.mem.describing = some d) (hdevice : s.nvm.failed0 = false) :
    let t := dramDescribeDone true true s
    Within (.mem :: .nvm :: eventPieces) s t ∧ t.nvm.dram = d ∧ t.mem = { s.mem with describing := none } := by
  dsimp only
  rw [dramDescribeDone, h]
  simp only [onBothDevices, hdevice, when_, Bool.true_and, Bool.not_false, Bool.true_or, if_true, Bool.not_true,
    Bool.false_eq_true, if_false]
  refine ⟨(raise_within _ _ _ _).fromPatch rfl rfl, ?_⟩
  rw [raise_mem, raise_nvm]
  exact ⟨rfl, rfl⟩

end Sys2Proof.Machine.Laws
end

section
/-! CERTIFICATE. The statement about the memory. -/
namespace Sys2Proof.Machine.Proofs
open Sys2Proof.Machine Sys2Proof.Machine.Laws

/-- Settles O28: each event by the branch it takes. -/
theorem memoryRows : Obligations.MemoryRows := by
  refine ⟨fun t0 id p total cells s halive hfirst hid htotal hcheck => ?loaded,
    fun t0 id p o s halive hfirst hid ho => ?failed, fun t0 addr s halive hnext => ?clean,
    fun t0 addr pos id burst s halive hresident => ?found, fun t0 l s halive hwarm => ?warm,
    fun t0 l s halive hcool => ?cool, fun t0 at_ s halive hsince htwo htime => ?relax,
    fun t0 a b u s halive hband => ?refresh, fun t0 eye b s halive hmeasuring => ?measured,
    fun t0 d s halive hdescribing hdevice => ?described⟩
  case loaded =>
    subst htotal
    obtain ⟨hwithin, g, hfound, hstate, hloaded, htime, hwf⟩ :=
      pageLoadEnd_of_loaded (s := advance t0 s) cells hfirst hcheck
    rw [hid] at hwithin hfound
    exact hwithin.runs halive ⟨g, hid ▸ hfound, hstate, hloaded, htime, hwf, hwithin.only rfl⟩
  case failed =>
    obtain ⟨q, hq, -⟩ := exists_findPage_of_mem (mem_of_firstLoading hfirst)
    obtain ⟨reason, hfails⟩ := pageLoadEnd_of_failed (s := advance t0 s) hfirst ho
    have hwithin := loadFails_within p reason (advance t0 s)
    have hstate := pageState_loadFails (s := advance t0 s) reason hq
    rw [← hfails, hid] at hwithin hstate
    exact hwithin.runs halive ⟨hid ▸ hstate, hwithin.only rfl⟩
  case clean =>
    have hstep := patrolScrubRead_of_clean (s := advance t0 s) (by rwa [memBytes_congr (advance_cfg t0 s)])
    have hwithin : Within [.mem] (advance t0 s) (patrolScrubRead addr .clean (advance t0 s)) := hstep ▸ .of_patch rfl
    exact hwithin.runs halive ⟨congrArg State.mem hstep, hwithin.only rfl⟩
  case found =>
    obtain ⟨hwithin, hstate, hcount⟩ := patrolScrubRead_of_resident (s := advance t0 s) addr pos burst hresident
    exact hwithin.runs halive ⟨hstate, hcount, hwithin.only rfl⟩
  case warm =>
    have hwithin := dramTempRead_within l (advance t0 s)
    obtain ⟨htwo, hsince⟩ := refreshFor_of_warm hwarm (advance t0 s)
    refine hwithin.runs halive ?_
    rw [dramTempRead_mem]
    exact ⟨htwo, hsince, hwithin.only rfl⟩
  case cool =>
    obtain ⟨htwo, hsince⟩ := refreshFor_of_cool hcool (advance t0 s)
    refine (dramTempRead_within l (advance t0 s)).runs halive ?_
    rw [dramTempRead_mem]
    exact ⟨htwo, hsince⟩
  case relax =>
    have hstep := refreshRelax_of_cool (s := advance t0 s) hsince htwo htime
    have hwithin := refreshTo_within false (advance t0 s).mem.refreshRank (advance t0 s)
    rw [← hstep] at hwithin
    refine hwithin.runs halive ⟨?_, hwithin.only rfl⟩
    rw [hstep, refreshTo, raise_mem]
    rfl
  case refresh =>
    obtain ⟨hwithin, hused, hstale⟩ := allBankRefresh_of_band (s := advance t0 s) (a := a.val) (b := b.val) hband
    exact hwithin.runs halive ⟨hused, hstale, hwithin.only rfl⟩
  case measured =>
    obtain ⟨hwithin, hmem, hsets⟩ := delayMeasureDone_of_measured (s := advance t0 s) eye hmeasuring
    exact hwithin.runs halive ⟨hmem, hsets, hwithin.only rfl⟩
  case described =>
    obtain ⟨hwithin, hdram, hmem⟩ := dramDescribeDone_of_described (s := advance t0 s) hdescribing hdevice
    have hcfg : (dramDescribeDone true true (advance t0 s)).cfg = s.cfg := hwithin.keeps .settings rfl
    exact hwithin.runs halive ⟨hdram, hmem, by rw [cfgGet, hcfg, cfgGet], hwithin.only rfl⟩

end Sys2Proof.Machine.Proofs
end

section
/-! SUPPORT. SAFE causes in HUB_SAFE_CAUSE, and masks of bits. -/
namespace Sys2Proof.Machine.Laws
open Sys2Proof.Machine

variable {s t : State}

theorem bit_eq_testBit (v n : Nat) : bit v n = v.testBit n := by
  rw [bit, Nat.testBit_eq_decide_div_mod_eq]
  rfl

theorem maskOf_succ (n : Nat) (p : Nat → Bool) : maskOf (n + 1) p = 2 ^ n * (if p n then 1 else 0) + maskOf n p := by
  have hsum : ∀ (l : List Nat) (a : Nat), sumNat (l ++ [a]) = sumNat l + a := fun l a => by simp [sumNat]
  rw [maskOf, upTo, List.range_succ, List.map_append, List.map_singleton, hsum, Nat.add_comm, maskOf, upTo]
  by_cases h : p n <;> simp [h]

theorem maskOf_lt (n : Nat) (p : Nat → Bool) : maskOf n p < 2 ^ n := by
  induction n with
  | zero => exact Nat.one_pos
  | succ n ih =>
    rw [maskOf_succ, Nat.pow_succ]
    by_cases h : p n <;> simp [h] <;> omega

/-- A mask has the bits whose condition holds. -/
theorem bit_maskOf (n : Nat) (p : Nat → Bool) {i : Nat} (hi : i < n) : bit (maskOf n p) i = p i := by
  induction n with
  | zero => omega
  | succ n ih =>
    rw [bit_eq_testBit, maskOf_succ, Nat.testBit_two_pow_mul_add _ (maskOf_lt n p)]
    by_cases hlt : i < n
    · rw [if_pos hlt, ← bit_eq_testBit, ih hlt]
    · obtain rfl : i = n := by omega
      by_cases h : p i <;> simp [h]

theorem safeWord_congr (h : t.hub.safe = s.hub.safe) : safeWord t = safeWord s := by rw [safeWord, h, safeWord]

theorem bit_safeWord_of_mem {b : Nat} (hb : b < 7) {c : CauseRec} (hc : c ∈ s.hub.safe) (hbit : c.bit = b) :
    bit (safeWord s) b = true := by
  rw [safeWord, bit_maskOf 7 _ hb]
  exact List.any_eq_true.2 ⟨c, hc, decide_eq_true hbit⟩

theorem scheduleSafe_safe (s : State) : (scheduleSafe s).hub.safe = s.hub.safe := by
  unfold scheduleSafe
  split <;> rfl

/-- A cause that arises stands in HUB_SAFE_CAUSE. -/
theorem bit_safeWord_raiseSafe {b : Nat} (block : Nat) (hb : b < 7) (s : State) :
    bit (safeWord (raiseSafe b block s)) b = true := by
  rw [raiseSafe, raiseSafeAt, safeWord_congr (scheduleSafe_safe _)]
  by_cases h : s.hub.safe.any (fun c => c.bit = b ∧ c.block = block)
  · obtain ⟨c, hc, hbit⟩ := List.any_eq_true.1 h
    rw [if_pos h]
    exact bit_safeWord_of_mem hb hc (of_decide_eq_true hbit).1
  · rw [if_neg h]
    exact bit_safeWord_of_mem hb (List.mem_append_right _ (List.mem_singleton_self _)) rfl

/-- An event changes of the management subsystem at most the event log's queue. -/
theorem raise_mss (code block : Nat) (detail : Bytes) (s : State) :
    ∃ q, (raise code block detail s).mss = { s.mss with logQueue := q } := ⟨_, (raise_within code block detail s).keeps .mss rfl⟩

end Sys2Proof.Machine.Laws
end

section
/-! SUPPORT. Journal, event log, random numbers, lockstep and supplies (R328 to R344). -/
namespace Sys2Proof.Machine.Laws
open Sys2Proof.Machine

variable {s t : State}

theorem onBothDevices_of_sound (cause : Nat) (h : s.nvm.failed0 = false) :
    onBothDevices true true cause s = (true, s) := by
  simp [onBothDevices, when_, h]

/-- What stands at the head of the journal is programmed (R333). -/
theorem journalCommit_of_preferred {b : Bool} {rest : List JournalRec} (hjournal : s.mss.journal = .preferred b :: rest)
    (hdevice : s.nvm.failed0 = false) :
    journalCommit true true s
      = { s with mss := { s.mss with journal := rest, programming := false }, nvm := { s.nvm with preferredB := b } } := by
  rw [journalCommit, hjournal]
  simp [onBothDevices_of_sound, commitRecord, hdevice, when_]

/-- An event is programmed into a log with room for it (R340). -/
theorem eventLogAppend_of_room {e : Bytes} (hqueue : s.mss.logQueue = [e]) (hdevice : s.nvm.failed0 = false)
    (hroom : s.nvm.log.length < logCapacity) :
    eventLogAppend true true s = { s with
      mss := { s.mss with logQueue := [] }
      nvm := { s.nvm with
        log := s.nvm.log ++ [{ event := e, h := sha256 (s.nvm.logHead ++ e) }]
        logHead := sha256 (s.nvm.logHead ++ e)
        logCount := s.nvm.logCount + 1 } } := by
  have happend : ∀ u : State, u.nvm = s.nvm → each [e] appendLog u = { u with nvm := { u.nvm with
      log := u.nvm.log ++ [{ event := e, h := sha256 (u.nvm.logHead ++ e) }]
      logHead := sha256 (u.nvm.logHead ++ e)
      logCount := u.nvm.logCount + 1 } } := by
    intro u hu
    have : u.nvm.log.length < logCapacity := hu ▸ hroom
    simp only [each, List.foldl_cons, List.foldl_nil, appendLog, if_pos this]
  rw [eventLogAppend, hqueue]
  dsimp only [List.isEmpty_cons]
  rw [if_neg Bool.false_ne_true]
  simp [onBothDevices_of_sound, hdevice, happend, when_]

theorem trngHealthFailure_of_booted (test : Nat) (h : s.hub.mode ≠ .boot) :
    trngHealthFailure test s = raise 0x3F02 0x0F (leBytes 1 test) { s with mss := { s.mss with trngFailed := true } } := by
  rw [trngHealthFailure]
  refine if_neg fun hboot => h ?_
  rw [← hboot.1, raise_hub]

theorem startShutdown_of_none (cause : Nat) (t0 : Time) (h : s.mss.shutdown = none) :
    startShutdown cause t0 s = { s with
      mss := { s.mss with shutdown := some (cause, t0) }
      nvm := { s.nvm with shutdownCause := BitVec.ofNat 16 cause, shutdownTime := t0 } } := by
  rw [startShutdown, h]

theorem startShutdown_within (cause : Nat) (t0 : Time) (s : State) : Within [.mss, .nvm] s (startShutdown cause t0 s) := by
  unfold startShutdown
  split
  · exact .refl _ s
  · exact .of_patch rfl

/-- A shutdown that a SAFE cause begins. -/
theorem startShutdown_raiseSafe {b : Nat} (block cause : Nat) (hb : b < 7) (h : s.mss.shutdown = none) :
    let t := startShutdown cause s.now (raiseSafe b block s)
    Within [.causes, .mss, .nvm] s t ∧ bit (safeWord t) b = true ∧ t.mss.shutdown = some (cause, s.now)
      ∧ t.nvm.shutdownCause = BitVec.ofNat 16 cause ∧ t.nvm.shutdownTime = s.now := by
  have hraised := raiseSafe_within b block s
  have hnone : (raiseSafe b block s).mss.shutdown = none :=
    (congrArg Mss.shutdown (hraised.keeps .mss rfl) :).trans h
  have hbit := bit_safeWord_raiseSafe block hb s
  generalize raiseSafe b block s = u at hraised hnone hbit ⊢
  refine ⟨hraised.seq (startShutdown_within _ _ _) rfl, ?_⟩
  rw [startShutdown_of_none cause s.now hnone]
  exact ⟨hbit, rfl, rfl, rfl⟩

theorem supplyFault_within (supply mv : Nat) (s : State) :
    Within (.causes :: .mss :: eventPieces) s (supplyFault supply mv s) := by
  refine .ite ?_ (.of_patch rfl)
  exact ((raise_within _ _ _ _).fromPatch (l := .mss :: eventPieces) rfl rfl).seq (raiseSafe_within _ _ _) rfl

theorem supplyFault_shutdown (supply mv : Nat) (s : State) :
    (supplyFault supply mv s).mss.shutdown = s.mss.shutdown := by
  unfold supplyFault
  dsimp only
  split
  · refine (congrArg Mss.shutdown ((raiseSafe_within _ _ _).keeps .mss rfl) :).trans ?_
    obtain ⟨q, hq⟩ := raise_mss 0x3F01 0x0F (supplyDetail supply mv) { readSupply supply mv s with
      mss := { (readSupply supply mv s).mss with
        fault := (readSupply supply mv s).mss.fault ||| BitVec.ofNat 7 (2 ^ supply) } }
    rw [hq]
    rfl
  · rfl

/-- A supply outside 5 % is a fault and a SAFE cause (R344). -/
theorem supplyFault_of_outside {supply mv : Nat} (hout : outsideMv supply mv 5 = true)
    (hnew : bit s.mss.fault.toNat supply = false) :
    let t := supplyFault supply mv s
    t.mss.fault = s.mss.fault ||| BitVec.ofNat 7 (2 ^ supply) ∧ bit (safeWord t) 3 = true := by
  dsimp only
  rw [supplyFault]
  simp only [readSupply, hout, hnew, Bool.not_false, Bool.and_true, if_true]
  refine ⟨?_, bit_safeWord_raiseSafe _ (by decide) _⟩
  refine (congrArg Mss.fault ((raiseSafe_within _ _ _).keeps .mss rfl) :).trans ?_
  exact (congrArg Mss.fault (raise_mss _ _ _ _).choose_spec :)

theorem supplyWarning_of_outside {supply mv : Nat} (hout : outsideMv supply mv 3 = true)
    (hnew : bit s.mss.warn.toNat supply = false) :
    let t := supplyWarning supply mv s
    Within (.mss :: eventPieces) s t ∧ t.mss.warn = s.mss.warn ||| BitVec.ofNat 7 (2 ^ supply)
      ∧ tget 0 t.mss.supplyMv supply = mv := by
  dsimp only
  rw [supplyWarning]
  simp only [readSupply, hout, hnew, Bool.not_false, Bool.and_true, if_true]
  refine ⟨(raise_within _ _ _ _).fromPatch rfl rfl, ?_⟩
  obtain ⟨q, hq⟩ := raise_mss 0x2F01 0x0F (supplyDetail supply mv) { s with mss := { s.mss with
    supplyMv := tset s.mss.supplyMv supply mv, warn := s.mss.warn ||| BitVec.ofNat 7 (2 ^ supply) } }
  rw [hq]
  exact ⟨rfl, tget_tset_same ..⟩

theorem supplyCollapse_of_below {supply mv : Nat} (h : mv * 100 < nominalMv supply * 92) (hnone : s.mss.shutdown = none) :
    let t := supplyCollapse supply mv s
    Within (.causes :: .mss :: .nvm :: eventPieces) s t ∧ t.mss.shutdown = some (2, s.now)
      ∧ t.nvm.shutdownCause = 2 ∧ t.nvm.shutdownTime = s.now := by
  have hstep : supplyCollapse supply mv s = startShutdown 2 s.now (supplyFault supply mv (readSupply supply mv s)) :=
    if_pos (decide_eq_true h)
  have hwithin := (supplyFault_within supply mv (readSupply supply mv s)).fromPatch (s := s)
    (l := .causes :: .mss :: .nvm :: eventPieces) rfl rfl
  have hshutdown := (supplyFault_shutdown supply mv (readSupply supply mv s)).trans hnone
  dsimp only
  rw [hstep]
  generalize supplyFault supply mv (readSupply supply mv s) = u at hwithin hshutdown ⊢
  refine ⟨hwithin.andThen (startShutdown_within _ _ _) rfl, ?_⟩
  rw [startShutdown_of_none 2 s.now hshutdown]
  exact ⟨rfl, rfl, rfl⟩

theorem bit_and_not_pow (v : BitVec 7) {p : Nat} (hp : p < 7) : bit (v &&& ~~~BitVec.ofNat 7 (2 ^ p)).toNat p = false := by
  have hbit : (v &&& ~~~BitVec.ofNat 7 (2 ^ p)).getLsbD p = false := by
    rw [BitVec.getLsbD_and, BitVec.getLsbD_not, BitVec.getLsbD_ofNat, Nat.testBit_two_pow_self]
    simp [hp]
  rw [bit_eq_testBit]
  exact hbit

/-- The registers once a supply reads within 3 % (R344). -/
def supplyInside (supply mv : Nat) (s : State) : State :=
  { s with mss := { s.mss with
    supplyMv := tset s.mss.supplyMv supply mv
    warn := s.mss.warn &&& ~~~BitVec.ofNat 7 (2 ^ supply)
    fault := s.mss.fault &&& ~~~BitVec.ofNat 7 (2 ^ supply) } }

theorem supplyClear_of_inside {supply mv : Nat} (hp : supply < 7) (hin : outsideMv supply mv 3 = false) :
    let t := supplyClear supply mv s
    Within [.causes, .standing, .mss] s t ∧ bit t.mss.warn.toNat supply = false ∧ bit t.mss.fault.toNat supply = false
      ∧ tget 0 t.mss.supplyMv supply = mv := by
  have hstep : supplyClear supply mv s = if (supplyInside supply mv s).mss.fault = 0
      then clearSafe 3 0x0F (supplyInside supply mv s) else supplyInside supply mv s :=
    if_neg (by simp [hin])
  have hmss : (supplyClear supply mv s).mss = (supplyInside supply mv s).mss := by
    rw [hstep]
    split <;> rfl
  refine ⟨hstep ▸ .ite (.of_patch rfl) (.of_patch rfl), ?_⟩
  rw [hmss]
  exact ⟨bit_and_not_pow _ hp, bit_and_not_pow _ hp, tget_tset_same ..⟩

end Sys2Proof.Machine.Laws

namespace Sys2Proof.Machine.Proofs
open Sys2Proof.Machine Sys2Proof.Machine.Laws

/-- Settles O26: each event by the branch it takes. -/
theorem managementRows : Obligations.ManagementRows := by
  refine ⟨fun t0 b rest s halive hjournal hdevice => ?journal, fun t0 e s halive hqueue hdevice hroom => ?log,
    fun t0 n s halive hmode => ?trng, fun t0 s halive hnone => ?lockstep, fun t0 s halive hboot hnone => ?watchdog,
    fun t0 p mv s halive hout hnew => ?warning, fun t0 p mv s halive hout hnew => ?fault,
    fun t0 p mv s halive hbelow hnone => ?collapse, fun t0 p mv s halive hin => ?clear⟩
  case journal =>
    refine runs_atTime halive ?_
    rw [journalCommit_of_preferred (s := advance t0 s) hjournal hdevice]
    exact ⟨rfl, rfl, (Within.of_patch rfl : Within [.mss, .nvm] (advance t0 s) _).step rfl⟩
  case log =>
    refine runs_atTime halive ?_
    rw [eventLogAppend_of_room (s := advance t0 s) hqueue hdevice hroom]
    exact ⟨rfl, rfl, rfl, rfl, (Within.of_patch rfl : Within [.logQueue, .nvm] (advance t0 s) _).step rfl⟩
  case trng =>
    have hstep := trngHealthFailure_of_booted (s := advance t0 s) n hmode
    have hwithin : Within (.mss :: eventPieces) (advance t0 s) (trngHealthFailure n (advance t0 s)) :=
      hstep ▸ (raise_within _ _ _ _).fromPatch rfl rfl
    refine hwithin.runs halive ⟨?_, hwithin.only rfl⟩
    rw [hstep]
    exact (congrArg Mss.trngFailed (raise_mss _ _ _ _).choose_spec :)
  case lockstep =>
    obtain ⟨hwithin, hbit, hshutdown, hcause, -⟩ :=
      startShutdown_raiseSafe (s := advance t0 s) (b := 2) 0x0F 3 (by decide) hnone
    exact hwithin.runs (f := lockstepMismatch) halive ⟨hbit, hshutdown, hcause, hwithin.only rfl⟩
  case watchdog =>
    have hstep : mssWatchdogExpiry (advance t0 s) = _ := if_neg hboot
    obtain ⟨hwithin, hbit, hshutdown, hcause, -⟩ :=
      startShutdown_raiseSafe (s := advance t0 s) (b := 5) 0x0F 4 (by decide) hnone
    rw [← internalFault] at hwithin hbit hshutdown hcause
    rw [← hstep] at hwithin hbit hshutdown hcause
    exact hwithin.runs halive ⟨hbit, hshutdown, hcause, hwithin.only rfl⟩
  case warning =>
    obtain ⟨hwithin, hwarn, hmv⟩ := supplyWarning_of_outside (s := advance t0 s) hout hnew
    exact hwithin.runs halive ⟨hwarn, hmv, hwithin.only rfl⟩
  case fault =>
    have hwithin := supplyFault_within p.val mv (advance t0 s)
    obtain ⟨hfault, hbit⟩ := supplyFault_of_outside (s := advance t0 s) hout hnew
    exact hwithin.runs halive ⟨hfault, hbit, hwithin.only rfl⟩
  case collapse =>
    obtain ⟨hwithin, hshutdown, hcause, htime⟩ := supplyCollapse_of_below (s := advance t0 s) hbelow hnone
    exact hwithin.runs halive ⟨hshutdown, hcause, htime, hwithin.only rfl⟩
  case clear =>
    obtain ⟨hwithin, hwarn, hfault, hmv⟩ := supplyClear_of_inside (s := advance t0 s) p.isLt hin
    exact hwithin.runs halive ⟨hwarn, hfault, hmv, hwithin.only rfl⟩

end Sys2Proof.Machine.Proofs
end

section
/-! SUPPORT. The frames of the ledger's operations (R217 to R237): blocks, records, tickets and voids. -/
namespace Sys2Proof.Machine.Laws
open Sys2Proof.Machine

variable {s t : State}

/-- What the closing and sealing of a block may change. -/
def blockPieces : List Piece := .ldg :: eventPieces

/-- What a record may change: for want of space it raises a SAFE cause. -/
def recordPieces : List Piece := .causes :: blockPieces

/-- What a void may change: it is broadcast on the ring. -/
def voidPieces : List Piece := .rng :: recordPieces

/-! Blocks -/

theorem recoveredReport_within (s : State) : Within blockPieces s (recoveredReport s) :=
  .ite ((raise_within _ _ _ _).fromPatch rfl rfl) (.refl _ s)

theorem sealNext_within (signed : Bool) (s : State) : Within blockPieces s (sealNext signed s) := by
  unfold sealNext
  split
  · exact .refl _ s
  · exact ((raise_within _ _ _ _).fromPatch rfl rfl).trans (recoveredReport_within _)

theorem sealClosed_within (n : Nat) (s : State) : Within blockPieces s (sealClosed n s) := by
  induction n generalizing s with
  | zero => exact .refl _ s
  | succ n ih => exact .ite (.refl _ s) (.ite ((sealNext_within _ _).trans (ih _)) (.refl _ s))

theorem closeAt_within (cause : Nat) (at_ : Time) (reopen : Bool) (s : State) :
    Within blockPieces s (closeAt cause at_ reopen s) := by
  unfold closeAt
  split
  · exact .refl _ s
  · exact (Within.ite (.of_patch rfl) (.of_patch rfl)).trans (sealClosed_within _ _)

theorem closeBlock_within (cause : Nat) (s : State) : Within blockPieces s (closeBlock cause s) := by
  unfold closeBlock
  split
  · exact .refl _ s
  · exact .ite (.of_patch rfl) (closeAt_within _ _ _ _)

/-! Records -/

theorem deferRecord_within (r : Bytes) (id : BitVec 64) (s : State) : Within blockPieces s (deferRecord r id s) :=
  .ite (.of_patch rfl) ((raise_within _ _ _ _).fromPatch rfl rfl)

theorem putRecord_within (b : Block) (r : Bytes) (id : BitVec 64) (s : State) :
    Within blockPieces s (putRecord b r id s) :=
  .ite (.of_patch rfl) (.of_patch rfl)

theorem storageFull_within (s : State) : Within recordPieces s (storageFull s) :=
  .ite (.refl _ s) (((raise_within _ _ _ _).fromPatch rfl rfl).andThen (internalFault_within _ _) rfl)

theorem appendRecord_within (r : Bytes) (id : BitVec 64) (s : State) : Within recordPieces s (appendRecord r id s) := by
  unfold appendRecord
  split
  · exact (deferRecord_within _ _ _).mono rfl
  · refine .ite ((storageFull_within s).andThen (deferRecord_within _ _ _) rfl) ?_
    dsimp only
    split
    · exact .ite ((putRecord_within _ _ _ _).seq (closeAt_within _ _ _ _) rfl) ((putRecord_within _ _ _ _).mono rfl)
    · exact (putRecord_within _ _ _ _).mono rfl

theorem amend_within (k : Ticket) (flags : Nat) (s : State) : Within recordPieces s (amend k flags s) :=
  (appendRecord_within _ _ _).fromPatch rfl rfl

/-! Tickets -/

theorem setTicket_within (k : Ticket) (s : State) : Within [.ldg] s (setTicket k s) := .of_patch rfl

theorem markRow_within (page row : Nat) (cur : Option (BitVec 64)) (s : State) :
    Within recordPieces s (markRow page row cur s) := by
  unfold markRow
  split
  · exact .refl _ s
  · refine .ite (.refl _ s) (Within.fromPatch (.each (l := recordPieces) (fun k u => ?_) _ _) rfl rfl)
    have hset : ∀ c d x, Within recordPieces u (setTicket x (when_ c (raise 0x2902 0x09 d) u)) := fun _ _ _ =>
      (Within.when ((raise_within _ _ _ _).mono rfl)).andThen (setTicket_within _ _) rfl
    exact .ite ((hset _ _ _).trans (amend_within _ _ _)) (hset _ _ _)

theorem closeTicket_within (k : Ticket) (s : State) : Within recordPieces s (closeTicket k s) := by
  have hset : Within recordPieces s (setTicket k s) := (setTicket_within _ _).mono rfl
  refine hset.trans (.trans (.ite ((markRow_within _ _ _ _).fromPatch rfl rfl) (.of_patch rfl)) (appendRecord_within _ _ _))

theorem tryClose_within (k : Ticket) (s : State) : Within recordPieces s (tryClose k s) :=
  .ite (.refl _ s) (.ite (closeTicket_within _ s) (.ite (closeTicket_within _ s) (.ite (closeTicket_within _ s)
    (.ite (closeTicket_within _ s) (.refl _ s)))))

theorem closeTickets_within (s : State) : Within recordPieces s (closeTickets s) :=
  .each (fun _ _ => tryClose_within _ _) _ s

theorem flagTickets_within (flag : Nat) (sel : Ticket → Bool) (s : State) : Within [.ldg] s (flagTickets flag sel s) :=
  .of_patch rfl

/-! Voids -/

theorem sendVoid_within (b : RingBody) (s : State) : Within [.sends, .out] s (sendVoid b s) :=
  .ite ((sendRing_within _ _ _).fromPatch rfl rfl) (.of_patch rfl)

theorem sendRanges_within (n reason : Nat) (l : List TicketRange) (s : State) :
    Within [.sends, .out] s (sendRanges n reason l s) := by
  induction n generalizing l s with
  | zero => exact .refl _ s
  | succ n ih => exact .ite (.refl _ s) ((sendVoid_within _ _).trans (ih _ _))

theorem voidReport_within (reason origin a k : Nat) (s : State) : Within blockPieces s (voidReport reason origin a k s) := by
  unfold voidReport
  dsimp only
  split
  · exact (raise_within _ _ _ _).fromPatch rfl rfl
  · exact .of_patch rfl

theorem voidEvent_within (reason : Nat) (origin : BitVec 5) (ids : List Nat) (s : State) :
    Within blockPieces s (voidEvent reason origin ids s) := by
  unfold voidEvent
  split
  · exact .refl _ s
  · exact voidReport_within _ _ _ _ _

theorem announceVoids_within (reason : Nat) (ids : List (BitVec 64)) (s : State) :
    Within voidPieces s (announceVoids reason ids s) :=
  (sendRanges_within _ _ _ s).seq (voidEvent_within _ _ _ _) rfl

theorem rewriteVoid_within (k : Ticket) (s : State) : Within [.ldg] s (rewriteVoid k s) := by
  unfold rewriteVoid
  split
  · exact .ite (.of_patch rfl) (.refl _ s)
  · exact .refl _ s

theorem dropPending_within (id : BitVec 64) (s : State) : Within [.rng] s (dropPending id s) := .of_patch rfl

theorem voidTicket_within (c : VoidCause) (id : BitVec 64) (s : State) : Within voidPieces s (voidTicket c id s).2 := by
  unfold voidTicket
  split
  · split
    · exact (closeTicket_within _ _).seq (dropPending_within _ _) rfl
    · split
      · refine Within.andThen (l' := [.rng]) ?_ (dropPending_within _ _) rfl
        refine Within.andThen (l' := recordPieces) ?_ (amend_within _ _ _) rfl
        exact ((setTicket_within _ _).fromPatch rfl rfl).andThen (markRow_within _ _ _ _) rfl
      · split
        · split
          · split
            · exact ((setTicket_within _ _).fromPatch (l := [.ldg]) rfl rfl).seq (rewriteVoid_within _ _) rfl
            · exact .refl _ s
          · exact .refl _ s
        · exact .refl _ s
  · split
    · exact ((closeTicket_within _ _).fromPatch rfl rfl).andThen (dropPending_within _ _) rfl
    · exact .refl _ s

/-- A run over a list that carries the state along keeps a frame that its step keeps. -/
theorem Within.foldl {α β : Type} {l : List Piece} {f : β × State → α → β × State}
    (hf : ∀ r a, Within l r.2 (f r a).2) (xs : List α) (r : β × State) : Within l r.2 (xs.foldl f r).2 := by
  induction xs generalizing r with
  | nil => exact .refl l r.2
  | cons a xs ih => exact (hf r a).trans (ih (f r a))

theorem voidTickets_within (c : VoidCause) (ids : List (BitVec 64)) (s : State) :
    Within voidPieces s (voidTickets c ids s).2 := by
  unfold voidTickets
  refine Within.foldl ?_ ids ([], s)
  exact fun _ _ => voidTicket_within _ _ _

theorem voidHere_within (c : VoidCause) (ids : List (BitVec 64)) (s : State) : Within voidPieces s (voidHere c ids s) :=
  (voidTickets_within _ _ _).trans (announceVoids_within _ _ _)

theorem voidArea_within (reason : Nat) (at_ : Time) (l1 l2 c1 c2 : Int) (s : State) :
    Within voidPieces s (voidArea reason at_ l1 l2 c1 c2 s) := voidHere_within _ _ _

theorem voidPrinting_within (c : VoidCause) (s : State) : Within voidPieces s (voidPrinting c s) := voidHere_within _ _ _

theorem pendVoids_within (ids : List (BitVec 64)) (origin : BitVec 5) (reason : BitVec 8) (s : State) :
    Within (.rng :: eventPieces) s (pendVoids ids origin reason s) :=
  .ite (.refl _ s) (.ite (.of_patch rfl) (.each (fun _ _ => (raise_within _ _ _ _).fromPatch rfl rfl) _ _))

theorem ldgVerdict_within (id : BitVec 64) (v score cameras : Nat) (strip : Bool) (s : State) :
    Within voidPieces s (ldgVerdict id v score cameras strip s) := by
  unfold ldgVerdict
  split
  · exact .refl _ s
  · refine .ite ?_ (.ite (.ite (voidHere_within _ _ _) (.ite (.of_patch rfl) (.refl _ s))) (.refl _ s))
    exact .ite ((setTicket_within _ _).seq (voidHere_within _ _ _) rfl)
      ((setTicket_within _ _).seq (tryClose_within _ _) rfl)

end Sys2Proof.Machine.Laws
end

section
/-! SUPPORT. Firmware update, activation and trial (R341 to R343). -/
namespace Sys2Proof.Machine.Laws
open Sys2Proof.Machine

variable {s t : State}

theorem slotOf_congr (h : t.nvm = s.nvm) (b : Bool) : slotOf t b = slotOf s b := by rw [slotOf, h, slotOf]

theorem setSlot_within (b : Bool) (v : ImageSlot) (s : State) : Within [.nvm] s (setSlot b v s) :=
  .ite (.of_patch rfl) (.of_patch rfl)

theorem slotOf_setSlot_same (b : Bool) (v : ImageSlot) (s : State) : slotOf (setSlot b v s) b = v := by cases b <;> rfl

theorem slotOf_setSlot_not (b : Bool) (v : ImageSlot) (s : State) : slotOf (setSlot (!b) v s) b = slotOf s b := by
  cases b <;> rfl

theorem updateDone_within (status : Nat) (version : BitVec 32) (s : State) :
    Within eventPieces s (updateDone status version s) := raise_within _ _ _ _

/-- What an event leaves of the management subsystem's registers. -/
theorem updateDone_mss (status : Nat) (version : BitVec 32) (s : State) :
    ∃ q, (updateDone status version s).mss = { s.mss with logQueue := q } := raise_mss _ _ _ _

/-- The inactive slot is erased and takes data (R341). -/
def slotErased (s : State) : State :=
  setSlot (!s.mss.activeB) {} { s with mss := { s.mss with erasing := false, update := .writing, written := [] } }

theorem slotErased_mss (s : State) :
    (slotErased s).mss = { s.mss with erasing := false, update := .writing, written := [] } :=
  (setSlot_within _ _ _).mss_eq rfl rfl

theorem slotEraseDone_of_sound (herasing : s.mss.erasing = true) (hdevice : s.nvm.failed0 = false) :
    let t := slotEraseDone true true s
    Within (.mss :: .nvm :: eventPieces) s t ∧ t.mss.erasing = false ∧ t.mss.update = .writing ∧ t.mss.written = []
      ∧ (slotOf t (!s.mss.activeB)).present = false ∧ slotOf t s.mss.activeB = slotOf s s.mss.activeB := by
  have hstep : slotEraseDone true true s = raise 0x1F03 0x0F (leBytes 1 1 ++ leBytes 1 (b2n (!true))) (slotErased s) := by
    rw [slotEraseDone]
    simp [herasing, onBothDevices_of_sound, hdevice, slotErased]
  have hset : Within (.mss :: .nvm :: eventPieces) s (slotErased s) := (setSlot_within _ _ _).fromPatch rfl rfl
  have herased : slotOf (slotErased s) (!s.mss.activeB) = {} := slotOf_setSlot_same _ _ _
  have hother : slotOf (slotErased s) s.mss.activeB = slotOf s s.mss.activeB := slotOf_setSlot_not _ _ _
  obtain ⟨q, hq⟩ := raise_mss 0x1F03 0x0F (leBytes 1 1 ++ leBytes 1 (b2n (!true))) (slotErased s)
  have hnvm := raise_nvm 0x1F03 0x0F (leBytes 1 1 ++ leBytes 1 (b2n (!true))) (slotErased s)
  dsimp only
  rw [hstep, slotOf_congr hnvm, slotOf_congr hnvm, herased, hother, hq, slotErased_mss]
  exact ⟨hset.andThen (raise_within _ _ _ _) rfl, rfl, rfl, rfl, rfl, rfl⟩

/-- The registers at the end of a verification (R341). -/
def verifyEnded (reason : Nat) (img : ImageSlot) (s : State) : State :=
  if reason = 0 then setSlot (!s.mss.activeB) img { s with mss := { s.mss with verifying := false, update := .verified } }
  else { s with mss := { s.mss with verifying := false } }

theorem verifyEnded_mss (reason : Nat) (img : ImageSlot) (s : State) :
    (verifyEnded reason img s).mss
      = { s.mss with verifying := false, update := if reason = 0 then .verified else s.mss.update } := by
  by_cases h : reason = 0
  · rw [verifyEnded, if_pos h, if_pos h]
    cases s.mss.activeB <;> rfl
  · rw [verifyEnded, if_neg h, if_neg h]

theorem verifyEnded_slot (reason : Nat) (img : ImageSlot) (s : State) :
    slotOf (verifyEnded reason img s) s.mss.activeB = slotOf s s.mss.activeB := by
  by_cases h : reason = 0
  · rw [verifyEnded, if_pos h, slotOf_setSlot_not]
    rfl
  · rw [verifyEnded, if_neg h]
    rfl

theorem verifyEnded_within (reason : Nat) (img : ImageSlot) (s : State) :
    Within [.mss, .nvm] s (verifyEnded reason img s) :=
  .ite ((setSlot_within _ _ _).fromPatch rfl rfl) (.of_patch rfl)

theorem updateVerifyDone_of_verifying (a b k : Bool) (h : s.mss.verifying = true) :
    let t := updateVerifyDone a b k s
    Within (.mss :: .nvm :: eventPieces) s t ∧ t.mss.verifying = false
      ∧ t.mss.update = (if verifyReason s a b k = 0 then .verified else s.mss.update)
      ∧ slotOf t s.mss.activeB = slotOf s s.mss.activeB := by
  obtain ⟨d, img, hstep⟩ :
      ∃ d img, updateVerifyDone a b k s = raise 0x1F01 0x0F d (verifyEnded (verifyReason s a b k) img s) := by
    rw [updateVerifyDone, h]
    exact ⟨_, imageOf (assembled s.mss.written 256), rfl⟩
  generalize verifyReason s a b k = reason at hstep ⊢
  obtain ⟨q, hq⟩ := raise_mss 0x1F01 0x0F d (verifyEnded reason img s)
  dsimp only
  rw [hstep, slotOf_congr (raise_nvm _ _ _ _), verifyEnded_slot, hq, verifyEnded_mss]
  exact ⟨(verifyEnded_within _ _ _).seq (raise_within _ _ _ _) rfl, rfl, rfl, rfl⟩

/-- The cores switch bank at T_a (R342). -/
def switched (begin : Option Int) (s : State) : State :=
  { s with mss := { s.mss with
    activeB := !s.mss.activeB, update := .idle, activation := none, activateTime := s.now
    beginSlot := (begin.getD 0).toNat, trialOver := false
    trial := some (s.now + u8 (cfgGet s .mss) 1 * tpS) } }

theorem switched_within (begin : Option Int) (s : State) : Within [.mss] s (switched begin s) := .of_patch rfl

theorem activation_of_due {begin : Option Int} {a : Activation} {at_ : Time} (hact : s.mss.activation = some a)
    (hlive : a.live = true) (hbefore : a.notBefore = none) (hat : a.t = some at_) (htime : at_ ≤ s.now)
    (hsafe : s.hub.safe = []) :
    let t := activation begin s
    Within (.mss :: blockPieces) s t ∧ t.mss.activeB = (!s.mss.activeB) ∧ t.mss.update = .idle
      ∧ t.mss.activation = none ∧ t.mss.activateTime = s.now
      ∧ t.mss.trial = some (s.now + u8 (cfgGet s .mss) 1 * tpS) := by
  have hstep : activation begin s = switched begin (closeBlock 4 s) := by
    simp [activation, hact, activationDue, hlive, hbefore, hat, htime, hsafe, switched]
  have hclose := closeBlock_within 4 s
  dsimp only
  rw [hstep]
  generalize closeBlock 4 s = u at hclose ⊢
  have hactive : u.mss.activeB = s.mss.activeB := (congrArg Mss.activeB (hclose.keeps .mss rfl) :)
  have hcfg : u.cfg = s.cfg := hclose.keeps .settings rfl
  refine ⟨hclose.seq (switched_within _ _) rfl, congrArg not hactive, rfl, rfl, hclose.now, ?_⟩
  rw [switched, hclose.now, cfgGet, hcfg, cfgGet]

theorem imageConfirm_of_trial {d : Time} (htrial : s.mss.trial = some d) (htime : s.now ≤ d)
    (hover : s.mss.trialOver = false) :
    let t := imageConfirm s
    Within (.mss :: eventPieces) s t ∧ t.mss.trial = none
      ∧ t.mss.journal = s.mss.journal ++ [.preferred s.mss.activeB] ∧ t.mss.activeB = s.mss.activeB := by
  have hstep : imageConfirm s = updateDone 0 (activeImage s).fwVersion { s with mss := { s.mss with
      trial := none, journal := s.mss.journal ++ [.preferred s.mss.activeB] } } := by
    rw [imageConfirm, htrial]
    exact if_pos ⟨htime, by rw [hover]; rfl⟩
  obtain ⟨q, hq⟩ := updateDone_mss 0 (activeImage s).fwVersion { s with mss := { s.mss with
    trial := none, journal := s.mss.journal ++ [.preferred s.mss.activeB] } }
  dsimp only
  rw [hstep, hq]
  exact ⟨(updateDone_within _ _ _).fromPatch rfl rfl, rfl, rfl, rfl⟩

theorem trialTimeout_of_due {d : Time} (htrial : s.mss.trial = some d) (htime : d ≤ s.now) (hprint : s.hub.mode ≠ .print)
    (hdrain : s.hub.mode ≠ .drain) : trialTimeout s = revertTrial s := by
  simp [trialTimeout, htrial, htime, hprint, hdrain]

/-- The cores go back to the bank that ran before the trial (R343). -/
theorem revertTrial_frame (s : State) :
    let t := revertTrial s
    Within (.mss :: blockPieces) s t ∧ t.mss.activeB = (!s.mss.activeB) ∧ t.mss.trial = none ∧ t.mss.trialOver = false := by
  have hclose := closeBlock_within 4 s
  dsimp only
  rw [revertTrial]
  generalize closeBlock 4 s = u at hclose ⊢
  have hactive : u.mss.activeB = s.mss.activeB := (congrArg Mss.activeB (hclose.keeps .mss rfl) :)
  refine ⟨hclose.seq ((updateDone_within _ _ _).fromPatch (l := .mss :: eventPieces) rfl rfl) rfl, ?_⟩
  dsimp only
  obtain ⟨q, hq⟩ := updateDone_mss 1
    (activeImage { u with mss := { u.mss with activeB := !u.mss.activeB, trial := none, trialOver := false } }).fwVersion
    { u with mss := { u.mss with activeB := !u.mss.activeB, trial := none, trialOver := false } }
  rw [hq]
  exact ⟨congrArg not hactive, rfl, rfl⟩

end Sys2Proof.Machine.Laws

namespace Sys2Proof.Machine.Proofs
open Sys2Proof.Machine Sys2Proof.Machine.Laws

/-- Settles O25: each event by the branch it takes. -/
theorem firmwareRows : Obligations.FirmwareRows := by
  refine ⟨fun t0 s halive herasing hdevice => ?erased, fun t0 a b k s halive hverifying => ?verified,
    fun t0 begin a at_ s halive hact hlive hbefore hat htime hsafe => ?activated,
    fun t0 d s halive htrial htime hover => ?confirmed, fun t0 d s halive htrial htime hprint hdrain => ?ranOut,
    fun t0 n s halive hover => ?reverted⟩
  case erased =>
    obtain ⟨hwithin, herasing, hupdate, hwritten, hslot, hother⟩ :=
      slotEraseDone_of_sound (s := advance t0 s) herasing hdevice
    exact hwithin.runs halive ⟨herasing, hupdate, hwritten, hslot, hother, hwithin.only rfl⟩
  case verified =>
    obtain ⟨hwithin, hverifying, hupdate, hslot⟩ := updateVerifyDone_of_verifying (s := advance t0 s) a b k hverifying
    exact hwithin.runs halive ⟨hverifying, hupdate, hslot, hwithin.only rfl⟩
  case activated =>
    obtain ⟨hwithin, hactive, hupdate, hnone, htime, htrial⟩ :=
      activation_of_due (s := advance t0 s) (begin := begin) hact hlive hbefore hat htime hsafe
    exact hwithin.runs halive ⟨hactive, hupdate, hnone, htime, htrial, hwithin.hub_eq rfl rfl, hwithin.keeps .settings rfl⟩
  case confirmed =>
    obtain ⟨hwithin, htrial, hjournal, hactive⟩ := imageConfirm_of_trial (s := advance t0 s) htrial htime hover
    exact hwithin.runs halive ⟨htrial, hjournal, hactive, hwithin.only rfl⟩
  case ranOut =>
    have hstep := trialTimeout_of_due (s := advance t0 s) htrial htime hprint hdrain
    obtain ⟨hwithin, hactive, htrial, -⟩ := revertTrial_frame (advance t0 s)
    rw [← hstep] at hwithin hactive htrial
    exact hwithin.runs halive ⟨hactive, htrial, hwithin.hub_eq rfl rfl, hwithin.keeps .settings rfl⟩
  case reverted =>
    have hstep : trialRevert (some n) (advance t0 s) = revertTrial (advance t0 s) := if_pos ⟨hover, .inl rfl⟩
    obtain ⟨hwithin, hactive, htrial, hover⟩ := revertTrial_frame (advance t0 s)
    rw [← hstep] at hwithin hactive htrial hover
    exact hwithin.runs halive ⟨hactive, htrial, hover, hwithin.hub_eq rfl rfl, hwithin.keeps .settings rfl⟩

end Sys2Proof.Machine.Proofs
end

section
/-! SUPPORT. The host's rings, and the steps that may begin a command. -/
namespace Sys2Proof.Machine.Laws
open Sys2Proof.Machine

variable {s t u : State}

/-! Steps that may begin a command -/

theorem service_of_nonePlaced (h : s.bar0.placed = []) : service s = s := by
  rw [service, h]
  rfl

/-- The step of an operation after which commands may begin, where none waits and CAL has nothing to follow. -/
theorem Within.runsService {l : List Piece} {t0 : Time} {f : State → State} {P : State → Prop}
    (h : Within l (advance t0 s) (f (advance t0 s))) (hcalm : Calm s) (hidle : l.contains .idle = false)
    (hplaced : (f (advance t0 s)).bar0.placed = []) (hP : P (f (advance t0 s))) : Runs (serviceStep t0 f s) P := by
  obtain ⟨hruns, hspare⟩ := h.keeps .idle hidle hcalm.noRuns hcalm.steady.noSpare
  have hstill : calStep (service (f (advance t0 s))) = f (advance t0 s) := by
    rw [service_of_nonePlaced hplaced, calStep_of_noRuns hruns hspare]
  exact runs_atPrint hcalm.steady (by rwa [hstill, h.keepQueue_eq])

/-! Enabling and disabling a ring (R44, R46) -/

theorem flushRings_of_nothing (hheld : s.bar0.heldReplies = []) (hbuffer : s.bar0.buffer = []) : flushRings s = s := by
  simp [flushRings, flushReplies, flushEvents, hheld, hbuffer, drainReplies, drainEvents]

/-- The registers of a ring that the host has started. -/
def startedRing (g : RingSel) (r : RingRegs) : RingRegs :=
  { r with ctrl := true, enabled := true, code := 0, idx := 0, other := 0, phase := g ≠ .cmd }

/-- A ring started, with nothing placed in the Command Ring. -/
def startRing (g : RingSel) (s : State) : State :=
  let s := setRing g (startedRing g (ringRegs s g)) s
  if g = .cmd then { s with bar0 := { s.bar0 with placed := [] } } else s

theorem startRing_within (g : RingSel) (s : State) : Within [.bar0, .events] s (startRing g s) := by
  cases g <;> exact .of_patch rfl

theorem enableRing_of_sound {g : RingSel} (henabled : (ringRegs s g).enabled = false) (herror : (ringRegs s g).error = false)
    (hsound : enableError g s = none) (hheld : s.bar0.heldReplies = []) (hbuffer : s.bar0.buffer = []) :
    enableRing g s = startRing g s := by
  have hstep : enableRing g s = flushRings (startRing g s) := by
    rw [enableRing]
    dsimp only
    rw [if_neg (by simp [henabled, herror]), hsound]
    rfl
  rw [hstep]
  exact flushRings_of_nothing (by cases g <;> exact hheld) (by cases g <;> exact hbuffer)

/-- The Command Ring in the error state, with nothing placed in it. -/
def failCmdRing (code : Nat) (s : State) : State :=
  { s with bar0 := { s.bar0 with
    cmd := { s.bar0.cmd with error := true, code := BitVec.ofNat 8 code }, placed := [] } }

theorem ringError_cmd (code : Nat) (s : State) :
    ∃ d, ringError .cmd code s = countEntry 4 (raise 0x3002 0x01 d (failCmdRing code s)) := ⟨_, rfl⟩

theorem ringError_cmd_within (code : Nat) (s : State) : Within (.bar0 :: eventPieces) s (ringError .cmd code s) := by
  obtain ⟨d, h⟩ := ringError_cmd code s
  exact h ▸ ((raise_within _ _ _ _).andThen (countEntry_within _ _) rfl).fromPatch rfl rfl

theorem ringError_cmd_regs (code : Nat) (s : State) :
    (ringError .cmd code s).bar0.cmd = { s.bar0.cmd with error := true, code := BitVec.ofNat 8 code } := by
  obtain ⟨d, h⟩ := ringError_cmd code s
  have hkept : Within eventPieces (failCmdRing code s) (ringError .cmd code s) :=
    h ▸ (raise_within _ _ _ _).andThen (countEntry_within _ _) rfl
  exact (congrArg Bar0.cmd (hkept.keeps .bar0 rfl) :)

theorem enableRing_of_unsound {g : RingSel} {code : Nat} (henabled : (ringRegs s g).enabled = false)
    (herror : (ringRegs s g).error = false) (hunsound : enableError g s = some code) :
    enableRing g s = ringError g code (setRing g { ringRegs s g with ctrl := true } s) := by
  rw [enableRing]
  dsimp only
  rw [if_neg (by simp [henabled, herror]), hunsound]

theorem disableRing_within (g : RingSel) (s : State) : Within [.bar0, .events] s (disableRing g s) := by
  cases g <;> exact .of_patch rfl

end Sys2Proof.Machine.Laws

namespace Sys2Proof.Machine.Proofs
open Sys2Proof.Machine Sys2Proof.Machine.Laws

/-- Settles O17: a ring starts, fails its first check, or is switched off. -/
theorem ringEnableRows : Obligations.RingEnableRows := by
  refine ⟨fun t0 s halive henabled herror hsound hheld hbuffer => ?cmdStarts,
    fun t0 code s halive henabled herror hunsound => ?cmdFails, fun t0 s halive => ?cmdStops,
    fun t0 s hcalm henabled herror hsound hheld hbuffer => ?rplStarts, fun t0 s halive => ?rplStops,
    fun t0 s halive henabled herror hsound hheld hbuffer => ?evtStarts, fun t0 s halive => ?evtStops⟩
  case cmdStarts =>
    have hstep := enableRing_of_sound (s := advance t0 s) (g := .cmd) henabled herror hsound hheld hbuffer
    have hwithin := startRing_within .cmd (advance t0 s)
    refine Within.runs (l := [.bar0, .events]) (by rwa [hstep]) halive ?_
    rw [hstep]
    exact ⟨rfl, rfl, hwithin.only rfl⟩
  case cmdFails =>
    have hstep := enableRing_of_unsound (s := advance t0 s) (g := .cmd) henabled herror hunsound
    have hwithin : Within (.bar0 :: eventPieces) (advance t0 s) (enableRing .cmd (advance t0 s)) :=
      hstep ▸ (ringError_cmd_within _ _).fromPatch rfl rfl
    refine hwithin.runs halive ?_
    rw [hstep, ringError_cmd_regs, ← hstep]
    exact ⟨rfl, rfl, henabled, hwithin.only rfl⟩
  case cmdStops =>
    have hwithin := disableRing_within .cmd (advance t0 s)
    exact hwithin.runs halive ⟨rfl, rfl, rfl, rfl, rfl, hwithin.only rfl⟩
  case rplStarts =>
    have hstep := enableRing_of_sound (s := advance t0 s) (g := .rpl) henabled herror hsound hheld hbuffer
    have hwithin : Within [.bar0, .events] (advance t0 s) (enableRing .rpl (advance t0 s)) := hstep ▸ startRing_within .rpl _
    refine hwithin.runsService hcalm rfl (by rw [hstep]; exact hcalm.steady.nonePlaced) ?_
    exact ⟨by rw [hstep]; rfl, hwithin.only rfl⟩
  case rplStops =>
    have hwithin := disableRing_within .rpl (advance t0 s)
    exact hwithin.runs halive ⟨rfl, rfl, rfl, rfl, hwithin.only rfl⟩
  case evtStarts =>
    have hstep := enableRing_of_sound (s := advance t0 s) (g := .evt) henabled herror hsound hheld hbuffer
    have hwithin := startRing_within .evt (advance t0 s)
    refine Within.runs (l := [.bar0, .events]) (by rwa [hstep]) halive ?_
    rw [hstep]
    exact ⟨rfl, hwithin.only rfl⟩
  case evtStops =>
    have hwithin := disableRing_within .evt (advance t0 s)
    exact hwithin.runs halive ⟨rfl, rfl, rfl, rfl, hwithin.only rfl⟩

end Sys2Proof.Machine.Proofs
end

section
/-! SUPPORT. The PTP domains and the choice of the time source (R90 to R98). -/
namespace Sys2Proof.Machine.Laws
open Sys2Proof.Machine

variable {s t u : State}

/-! The choice of the time source changes only its own registers -/

/-- The registers of device time without the choice of its source and its rate. -/
def besideSource (m : Mer) : Mer :=
  { m with source := 0, master := 0, holdover := false, slewing := false, rate := 0, rateTime := 0, step := none }

/-- Of device time at most the choice of its source and its rate differs. -/
def SourceOnly (s t : State) : Prop := besideSource t.mer = besideSource s.mer

theorem SourceOnly.trans (hst : SourceOnly s t) (htu : SourceOnly t u) : SourceOnly s u := Eq.trans htu hst

theorem SourceOnly.ite {c : Prop} [Decidable c] (ht : SourceOnly s t) (hu : SourceOnly s u) :
    SourceOnly s (if c then t else u) := by
  split
  · exact ht
  · exact hu

theorem SourceOnly.ptpOf (h : SourceOnly s t) (d : Nat) : ptpOf t d = ptpOf s d := by
  unfold Machine.ptpOf
  rw [show t.mer.ptpA = s.mer.ptpA from (congrArg Mer.ptpA h :), show t.mer.ptpB = s.mer.ptpB from (congrArg Mer.ptpB h :)]

theorem SourceOnly.portLink (h : SourceOnly s t) (p : Nat) : portLink t p = portLink s p := by
  unfold Machine.portLink
  rw [show t.mer.linkUp0 = s.mer.linkUp0 from (congrArg Mer.linkUp0 h :),
    show t.mer.linkUp1 = s.mer.linkUp1 from (congrArg Mer.linkUp1 h :)]

theorem Within.sourceOnly {l : List Piece} (h : Within l s t) (hl : l.contains .mer = false) : SourceOnly s t :=
  congrArg besideSource (h.keeps .mer hl)

theorem raise_sourceOnly (code block : Nat) (detail : Bytes) (s : State) : SourceOnly s (raise code block detail s) :=
  (raise_within _ _ _ _).sourceOnly rfl

theorem adjustRate_within (s : State) : Within [.mer, .free] s (adjustRate s) := .of_patch rfl

theorem adjustRate_sourceOnly (s : State) : SourceOnly s (adjustRate s) := rfl

/-- The registers with another active source (R91, R98). -/
def withSource (new : Nat) (off : Int) (hold big : Bool) (s : State) : State :=
  { s with mer := { s.mer with
    source := new, holdover := hold, slewing := new ≠ 0 ∧ off ≠ 0, rate := if policyFree s then 0 else s.mer.rate,
    step := if big && stepEnable s && stepPermitted s then some (off, s.now) else s.mer.step } }

/-- The events of another active source. -/
def sourceEvents (old new : Nat) (off : Int) (hold big : Bool) (s : State) : State :=
  let s := raise 0x1203 0x02 (leBytes 1 old ++ leBytes 1 new ++ zeros 2 ++ seBytes 8 off) s
  let s := if hold then raise 0x2202 0x02 (seBytes 4 s.mer.rate) s else s
  if big && !stepPermitted s then raise 0x2203 0x02 (leBytes 1 new ++ zeros 3 ++ seBytes 8 off) s else s

theorem sourceEvents_within (old new : Nat) (off : Int) (hold big : Bool) (s : State) :
    Within eventPieces s (sourceEvents old new off hold big s) :=
  .trans (.trans (raise_within _ _ _ _) (.ite (raise_within _ _ _ _) (.refl _ _))) (.ite (raise_within _ _ _ _) (.refl _ _))

theorem takeSource_eq (new : Nat) (s : State) : ∃ off hold big,
    takeSource new s = if new = s.mer.source then s
      else sourceEvents s.mer.source new off hold big (withSource new off hold big s) := by
  refine ⟨sourceOffset s new, decide (new = 0 ∧ !policyFree s), decide (stepThreshold s < (sourceOffset s new).natAbs), ?_⟩
  unfold takeSource sourceEvents withSource
  by_cases hsame : new = s.mer.source
  · exact (if_pos hsame).trans (if_pos hsame).symm
  · rw [if_neg hsame, if_neg hsame]
    simp only [decide_eq_true_eq]

theorem takeSource_within (new : Nat) (s : State) : Within (.mer :: eventPieces) s (takeSource new s) := by
  obtain ⟨off, hold, big, h⟩ := takeSource_eq new s
  rw [h]
  exact .ite (.refl _ s) ((sourceEvents_within _ _ _ _ _ _).fromPatch rfl rfl)

theorem takeSource_sourceOnly (new : Nat) (s : State) : SourceOnly s (takeSource new s) := by
  obtain ⟨off, hold, big, h⟩ := takeSource_eq new s
  have hevents := (sourceEvents_within s.mer.source new off hold big (withSource new off hold big s)).sourceOnly rfl
  rw [h]
  exact .ite rfl hevents

theorem takeSource_source (new : Nat) (s : State) : (takeSource new s).mer.source = new := by
  obtain ⟨off, hold, big, h⟩ := takeSource_eq new s
  have hevents := (sourceEvents_within s.mer.source new off hold big (withSource new off hold big s)).keeps .mer rfl
  rw [h]
  split
  · next hsame => exact hsame.symm
  · exact (congrArg Mer.source hevents :)

/-- The registers at a choice of the source: the ring time master, and what the policy says of rate and holdover. -/
def choosing (s : State) : State :=
  let s := { s with mer := { s.mer with master := if ringTimed s then chooseMaster s else 0 } }
  if policyFree s then { s with mer := { s.mer with rate := 0, holdover := false } }
  else { s with mer := { s.mer with holdover := decide (s.mer.source = 0) } }

theorem reselect_eq (s : State) : reselect s = takeSource (chooseSource (choosing s)) (choosing s) := rfl

theorem choosing_within (s : State) : Within [.mer] s (choosing s) := .ite (.of_patch rfl) (.of_patch rfl)

theorem choosing_sourceOnly (s : State) : SourceOnly s (choosing s) := .ite rfl rfl

theorem reselect_within (s : State) : Within (.mer :: eventPieces) s (reselect s) :=
  (choosing_within s).seq (takeSource_within _ _) rfl

theorem reselect_sourceOnly (s : State) : SourceOnly s (reselect s) :=
  (choosing_sourceOnly s).trans (takeSource_sourceOnly _ _)

/-- The preferred domain A gets the source back once its hold-off has run out (R93). -/
theorem chooseSource_of_reverted (hpolicy : policyFree s = false) (hring : ringTimed s = false)
    (hpreferred : preferred s = 0) (hslave : isSlave s 0 = true) (hrevert : revertSet s = true)
    (htime : (ptpOf s 0).slaveSince + holdoff s ≤ s.now) : chooseSource s = 1 := by
  simp [chooseSource, hpolicy, hring, hpreferred, hslave, hrevert, htime]

theorem reselect_of_reverted (hpolicy : policyFree s = false) (hring : ringTimed s = false)
    (hpreferred : preferred s = 0) (hslave : isSlave s 0 = true) (hrevert : revertSet s = true)
    (htime : s.mer.ptpA.slaveSince + holdoff s ≤ s.now) : (reselect s).mer.source = 1 := by
  have hwithin := choosing_within s
  have hconfig : timeCfg (choosing s) = timeCfg s := by rw [timeCfg, cfgGet, hwithin.keeps .settings rfl, timeCfg, cfgGet]
  have hdomain := (choosing_sourceOnly s).ptpOf 0
  rw [reselect_eq, takeSource_source]
  refine chooseSource_of_reverted ?_ ?_ ?_ ?_ ?_ ?_
  · rwa [policyFree, hconfig]
  · rwa [ringTimed, hwithin.rng_eq rfl rfl]
  · rwa [preferred, hconfig]
  · rwa [isSlave, hdomain]
  · rwa [revertSet, hconfig]
  · rwa [hdomain, holdoff, hconfig, hwithin.now]

/-! Domains -/

theorem setPtp_within (d : Nat) (v : PtpDomain) (s : State) : Within [.mer] s (setPtp d v s) :=
  .ite (.of_patch rfl) (.of_patch rfl)

theorem ptpOf_setPtp_same (d : Nat) (v : PtpDomain) (s : State) : ptpOf (setPtp d v s) d = v := by
  by_cases h : d = 0 <;> simp [ptpOf, setPtp, h]

theorem ptpOf_setPtp_of_ne {d e : Nat} (v : PtpDomain) (s : State) (h : ¬ (e = 0 ↔ d = 0)) :
    ptpOf (setPtp d v s) e = ptpOf s e := by
  by_cases hd : d = 0
  · simp [ptpOf, setPtp, hd, show e ≠ 0 from fun he => h (by simp [he, hd])]
  · simp [ptpOf, setPtp, hd, show e = 0 from Classical.not_not.1 fun he => h (by simp [he, hd])]

theorem portLink_setPtp (d : Nat) (v : PtpDomain) (s : State) (p : Nat) : portLink (setPtp d v s) p = portLink s p := by
  by_cases h : d = 0 <;> simp [portLink, setPtp, h]

/-- A domain that has entered another state at an instant (R97). -/
def enteredState (new : Nat) (now : Time) (p : PtpDomain) : PtpDomain :=
  { p with
    state := new, inLock := 0, outLock := 0, offset := if new = 8 ∨ new = 9 then p.offset else 0,
    slaveSince := if new = 9 then now else p.slaveSince,
    lastSync := if new = 8 then now else p.lastSync,
    lastAnnounce := if new = 8 then now else p.lastAnnounce }

/-- What follows the change of a domain's state: its event, and the choice of the source. -/
def afterPtpEnter (d new : Nat) (p : PtpDomain) (s : State) : State :=
  let s := if new = 9 then
      raise 0x1202 0x02 (leBytes 1 d ++ [p.clockClass] ++ leBytes 2 p.stepsRemoved.toNat ++ zeros 4
        ++ leBytes 8 p.grandmaster.toNat) s
    else if p.state = 9 then
      raise 0x2201 0x02 (leBytes 1 d ++ leBytes 1 new ++ zeros 6 ++ leBytes 8 p.grandmaster.toNat) s
    else s
  if new = 9 ∨ p.state = 9 then reselect s else s

theorem ptpEnter_eq (d new : Nat) (s : State) :
    ptpEnter d new s = if (ptpOf s d).state = new then s
      else afterPtpEnter d new (ptpOf s d) (setPtp d (enteredState new s.now (ptpOf s d)) s) := by
  rw [ptpEnter]
  rfl

theorem afterPtpEnter_within (d new : Nat) (p : PtpDomain) (s : State) :
    Within (.mer :: eventPieces) s (afterPtpEnter d new p s) := by
  have hevents := Within.ite (c := new = 9) ((raise_within 0x1202 0x02 (leBytes 1 d ++ [p.clockClass]
      ++ leBytes 2 p.stepsRemoved.toNat ++ zeros 4 ++ leBytes 8 p.grandmaster.toNat) s).mono (l' := .mer :: eventPieces) rfl)
    (.ite (c := p.state = 9) ((raise_within 0x2201 0x02 (leBytes 1 d ++ leBytes 1 new ++ zeros 6
      ++ leBytes 8 p.grandmaster.toNat) s).mono rfl) (.refl _ s))
  exact .ite (hevents.trans (reselect_within _)) hevents

theorem afterPtpEnter_sourceOnly (d new : Nat) (p : PtpDomain) (s : State) : SourceOnly s (afterPtpEnter d new p s) := by
  have hevents : SourceOnly s (if new = 9 then
      raise 0x1202 0x02 (leBytes 1 d ++ [p.clockClass] ++ leBytes 2 p.stepsRemoved.toNat ++ zeros 4
        ++ leBytes 8 p.grandmaster.toNat) s
    else if p.state = 9 then
      raise 0x2201 0x02 (leBytes 1 d ++ leBytes 1 new ++ zeros 6 ++ leBytes 8 p.grandmaster.toNat) s
    else s) := .ite (raise_sourceOnly _ _ _ _) (.ite (raise_sourceOnly _ _ _ _) rfl)
  exact .ite (hevents.trans (reselect_sourceOnly _)) hevents

theorem ptpEnter_within (d new : Nat) (s : State) : Within (.mer :: eventPieces) s (ptpEnter d new s) := by
  rw [ptpEnter_eq]
  exact .ite (.refl _ s) (((setPtp_within _ _ _).mono rfl).trans (afterPtpEnter_within _ _ _ _))

theorem ptpOf_ptpEnter_same (d new : Nat) (s : State) :
    ptpOf (ptpEnter d new s) d = if (ptpOf s d).state = new then ptpOf s d else enteredState new s.now (ptpOf s d) := by
  rw [ptpEnter_eq]
  split
  · rfl
  · rw [(afterPtpEnter_sourceOnly _ _ _ _).ptpOf, ptpOf_setPtp_same]

theorem state_ptpEnter_same (d new : Nat) (s : State) : (ptpOf (ptpEnter d new s) d).state = new := by
  rw [ptpOf_ptpEnter_same]
  split
  · next h => exact h
  · rfl

theorem ptpOf_ptpEnter_of_ne {d e : Nat} (new : Nat) (s : State) (h : ¬ (e = 0 ↔ d = 0)) :
    ptpOf (ptpEnter d new s) e = ptpOf s e := by
  rw [ptpEnter_eq]
  split
  · rfl
  · rw [(afterPtpEnter_sourceOnly _ _ _ _).ptpOf, ptpOf_setPtp_of_ne _ _ h]

theorem portLink_ptpEnter (d new : Nat) (s : State) (p : Nat) : portLink (ptpEnter d new s) p = portLink s p := by
  rw [ptpEnter_eq]
  split
  · rfl
  · rw [(afterPtpEnter_sourceOnly _ _ _ _).portLink, portLink_setPtp]

/-- No event and no choice of the source goes with a change between states that are not SLAVE. -/
theorem ptpEnter_of_quiet {d new : Nat} (hold : (ptpOf s d).state ≠ 9) (hnew : new ≠ 9) (hother : (ptpOf s d).state ≠ new) :
    ptpEnter d new s = setPtp d (enteredState new s.now (ptpOf s d)) s := by
  rw [ptpEnter_eq, if_neg hother, afterPtpEnter, if_neg hnew, if_neg hold, if_neg (by simp [hnew, hold])]

/-! Messages -/

/-- A domain after a Sync (R97, R98). -/
def syncedDomain (good : Bool) (offset : Int) (now : Time) (p : PtpDomain) : PtpDomain :=
  { p with syncs := p.syncs + 1, offset := offset, lastSync := now,
           inLock := if good then p.inLock + 1 else 0, outLock := if good then 0 else p.outLock + 1 }

/-- The registers after a Sync, before the domain's state follows it. -/
def synced (d : Nat) (offset : Int) (s : State) : State :=
  let good := decide (offset.natAbs < lockThreshold s d)
  let s := setPtp d (syncedDomain good offset s.now (ptpOf s d)) s
  if domainActive s d then adjustRate { s with mer := { s.mer with slewing := s.mer.slewing && !good } } else s

theorem synced_within (d : Nat) (offset : Int) (s : State) : Within [.mer, .free] s (synced d offset s) :=
  .trans ((setPtp_within _ _ _).mono rfl) (.ite ((adjustRate_within _).fromPatch rfl rfl) (.refl _ _))

theorem ptpOf_synced (d : Nat) (offset : Int) (s : State) :
    ptpOf (synced d offset s) d
      = syncedDomain (decide (offset.natAbs < lockThreshold s d)) offset s.now (ptpOf s d) := by
  have h : SourceOnly (setPtp d (syncedDomain (decide (offset.natAbs < lockThreshold s d)) offset s.now (ptpOf s d)) s)
      (synced d offset s) := .ite rfl rfl
  rw [h.ptpOf, ptpOf_setPtp_same]

/-- The state a domain goes to after a Sync (R97). -/
def stateAfterSync (p : PtpDomain) : Nat :=
  if p.state = 8 ∧ 16 ≤ p.inLock then 9 else if p.state = 9 ∧ 16 ≤ p.outLock then 8 else p.state

theorem ptpSync_eq {d : Nat} (offset : Int) (h : (ptpOf s d).state = 8 ∨ (ptpOf s d).state = 9) :
    ptpSync d offset s = ptpEnter d (stateAfterSync (syncedDomain (decide (offset.natAbs < lockThreshold s d)) offset
      s.now (ptpOf s d))) (synced d offset s) := by
  have hp := ptpOf_synced d offset s
  have hstep : ptpSync d offset s =
      let p := syncedDomain (decide (offset.natAbs < lockThreshold s d)) offset s.now (ptpOf s d)
      if p.state = 8 ∧ 16 ≤ p.inLock then ptpEnter d 9 (synced d offset s)
      else if p.state = 9 ∧ 16 ≤ p.outLock then ptpEnter d 8 (synced d offset s)
      else synced d offset s := if_neg (by omega)
  rw [hstep]
  generalize syncedDomain (decide (offset.natAbs < lockThreshold s d)) offset s.now (ptpOf s d) = p at hp ⊢
  dsimp only [stateAfterSync]
  split
  · rfl
  · split
    · rfl
    · rw [ptpEnter_eq, hp, if_pos rfl]

theorem ptpSync_within (d : Nat) (offset : Int) (h : (ptpOf s d).state = 8 ∨ (ptpOf s d).state = 9) :
    Within (.mer :: .free :: eventPieces) s (ptpSync d offset s) := by
  rw [ptpSync_eq offset h]
  exact (synced_within _ _ _).seq (ptpEnter_within _ _ _) rfl

/-- A Sync gives its domain the offset, and the sixteenth good one in a row the lock (R97, R98). -/
theorem ptpOf_ptpSync {d : Nat} (offset : Int) (h : (ptpOf s d).state = 8 ∨ (ptpOf s d).state = 9) :
    let p := ptpOf (ptpSync d offset s) d
    p.offset = offset ∧ p.syncs = (ptpOf s d).syncs + 1 ∧ p.lastSync = s.now
      ∧ (offset.natAbs < lockThreshold s d → (ptpOf s d).state = 8 → 15 ≤ (ptpOf s d).inLock → p.state = 9) := by
  dsimp only
  rw [ptpSync_eq offset h, ptpOf_ptpEnter_same, (synced_within d offset s).now, ptpOf_synced]
  generalize hgood : decide (offset.natAbs < lockThreshold s d) = good
  have hnew : stateAfterSync (syncedDomain good offset s.now (ptpOf s d)) = 8
      ∨ stateAfterSync (syncedDomain good offset s.now (ptpOf s d)) = 9 := by
    unfold stateAfterSync
    split
    · exact .inr rfl
    · split
      · exact .inl rfl
      · exact h
  have hlock : offset.natAbs < lockThreshold s d → (ptpOf s d).state = 8 → 15 ≤ (ptpOf s d).inLock →
      stateAfterSync (syncedDomain good offset s.now (ptpOf s d)) = 9 := fun hclose hstate hin => by
    have hgood : good = true := by rw [← hgood]; exact decide_eq_true hclose
    exact if_pos ⟨hstate, by rw [syncedDomain, hgood]; exact Nat.succ_le_succ hin⟩
  generalize stateAfterSync (syncedDomain good offset s.now (ptpOf s d)) = new at hnew hlock
  split
  · next hsame => exact ⟨rfl, rfl, rfl, fun hclose hstate hin => hsame.trans (hlock hclose hstate hin)⟩
  · refine ⟨if_pos hnew, rfl, ?_, hlock⟩
    rw [enteredState, syncedDomain, ite_self]

/-- The data set of the master that a domain has selected (R97). -/
def announced (a : Announce) (now : Time) (p : PtpDomain) : PtpDomain :=
  { p with grandmaster := a.grandmaster, clockClass := a.clockClass, accuracy := a.accuracy,
           stepsRemoved := a.stepsRemoved, utcOffset := a.utcOffset, lastAnnounce := now }

theorem ptpAnnounce_of_listening {d : Nat} {a : Announce} (hstate : (ptpOf s d).state = 4) (hselected : a.selected = true) :
    let fresh := announced a s.now (ptpOf s d)
    ptpAnnounce d a s = setPtp d (enteredState 8 s.now fresh) (setPtp d fresh s) := by
  have hstep : ptpAnnounce d a s = ptpEnter d 8 (setPtp d (announced a s.now (ptpOf s d)) s) := by
    unfold ptpAnnounce
    dsimp only
    rw [if_neg (by simp [hselected, hstate]), if_pos hstate]
    rfl
  have hfresh := ptpOf_setPtp_same d (announced a s.now (ptpOf s d)) s
  have hlisten : (ptpOf (setPtp d (announced a s.now (ptpOf s d)) s) d).state = 4 := by rw [hfresh]; exact hstate
  dsimp only
  rw [hstep, ptpEnter_of_quiet (by omega) (by omega) (by omega), hfresh, (setPtp_within _ _ _).now]

/-- The answer to a Pdelay_Req, with its follow-up in two-step (R95, R96). -/
def answerPdelay (d : Nat) (s : State) : State :=
  let p := ptpPort s d
  let s := send (.net p d .pdelayResp) s
  if ptpOneStep s d then s else send (.net p d .pdelayRespFollowUp) s

theorem answerPdelay_within (d : Nat) (s : State) : Within [.out] s (answerPdelay d s) :=
  .trans (send_within _ _) (.ite (.refl _ _) (send_within _ _))

theorem answerPdelay_sent_two {d : Nat} (h : ptpOneStep s d = false) :
    (answerPdelay d s).out = [.net (ptpPort s d) d .pdelayRespFollowUp, .net (ptpPort s d) d .pdelayResp] ++ s.out := by
  have hstep : answerPdelay d s = _ := if_neg (ne_true_of_eq_false h)
  rw [hstep]
  rfl

theorem answerPdelay_sent (d : Nat) (s : State) :
    (answerPdelay d s).out = [.net (ptpPort s d) d .pdelayResp] ++ s.out
      ∨ (answerPdelay d s).out = [.net (ptpPort s d) d .pdelayRespFollowUp, .net (ptpPort s d) d .pdelayResp] ++ s.out := by
  by_cases h : ptpOneStep s d = true
  · have hstep : answerPdelay d s = _ := if_pos h
    exact .inl (by rw [hstep]; rfl)
  · exact .inr (answerPdelay_sent_two (eq_false_of_ne_true h))

theorem ptpDelayReqSend_of_live {d : Nat} (h : (ptpOf s d).state = 8 ∨ (ptpOf s d).state = 9) :
    ptpDelayReqSend d s = send (.net (ptpPort s d) d (if ptpPeer s d then .pdelayReq else .delayReq)) s := by
  unfold ptpDelayReqSend
  dsimp only
  by_cases hpeer : ptpPeer s d = true
  · rw [if_pos hpeer, if_pos hpeer, if_neg (by omega)]
  · rw [if_neg hpeer, if_neg hpeer, if_pos h]

theorem ptpAnnounceTimeout_of_due {d : Nat} (hstate : (ptpOf s d).state = 8 ∨ (ptpOf s d).state = 9)
    (htime : (ptpOf s d).lastAnnounce + 3 * logPeriod (s8 (ptpCfg s d) 7) ≤ s.now) :
    ptpAnnounceTimeout d s = ptpEnter d 4
      (setPtp d { ptpOf s d with announceTimeouts := satInc 16 (ptpOf s d).announceTimeouts } s) := if_pos ⟨hstate, htime⟩

/-! Ports -/

/-- The registers with a network port's link as it is. -/
def setPortLink (p : Nat) (up : Bool) (s : State) : State :=
  if p = 0 then { s with mer := { s.mer with linkUp0 := up } } else { s with mer := { s.mer with linkUp1 := up } }

/-- A domain follows the link of its port (R97). -/
def followLink (p : Nat) (up : Bool) (d : Nat) (s : State) : State :=
  let st := (ptpOf s d).state
  if ptpPort s d ≠ p ∨ st = 3 then s
  else if !up then ptpEnter d 2 s
  else if st = 2 then ptpEnter d 4 s else s

theorem netLinkChange_eq (p : Nat) (up : Bool) (s : State) :
    netLinkChange p up s = followLink p (up && portEnabled s p) 1
      (followLink p (up && portEnabled s p) 0 (setPortLink p (up && portEnabled s p) s)) := rfl

theorem followLink_within (p : Nat) (up : Bool) (d : Nat) (s : State) :
    Within (.mer :: eventPieces) s (followLink p up d s) :=
  .ite (.refl _ s) (.ite (ptpEnter_within _ _ _) (.ite (ptpEnter_within _ _ _) (.refl _ s)))

theorem portLink_followLink (p : Nat) (up : Bool) (d : Nat) (s : State) (q : Nat) :
    portLink (followLink p up d s) q = portLink s q := by
  unfold followLink
  dsimp only
  split
  · rfl
  · split
    · exact portLink_ptpEnter _ _ _ _
    · split
      · exact portLink_ptpEnter _ _ _ _
      · rfl

theorem ptpOf_followLink_of_ne {d e : Nat} (p : Nat) (up : Bool) (s : State) (h : ¬ (e = 0 ↔ d = 0)) :
    ptpOf (followLink p up d s) e = ptpOf s e := by
  unfold followLink
  dsimp only
  split
  · rfl
  · split
    · exact ptpOf_ptpEnter_of_ne _ _ h
    · split
      · exact ptpOf_ptpEnter_of_ne _ _ h
      · rfl

theorem state_followLink_down {d p : Nat} (hport : ptpPort s d = p) (hstate : (ptpOf s d).state ≠ 3) :
    (ptpOf (followLink p false d s) d).state = 2 := by
  have hstep : followLink p false d s = ptpEnter d 2 s := (if_neg (by simp [hport, hstate])).trans (if_pos rfl)
  rw [hstep, state_ptpEnter_same]

theorem state_followLink_up {d p : Nat} (hport : ptpPort s d = p) (hstate : (ptpOf s d).state = 2) :
    (ptpOf (followLink p true d s) d).state = 4 := by
  have hstep : followLink p true d s = ptpEnter d 4 s :=
    (if_neg (by simp [hport, hstate])).trans ((if_neg (by simp)).trans (if_pos hstate))
  rw [hstep, state_ptpEnter_same]

theorem netLinkChange_within (p : Nat) (up : Bool) (s : State) :
    Within (.mer :: eventPieces) s (netLinkChange p up s) := by
  rw [netLinkChange_eq]
  refine .trans (.trans ?_ (followLink_within _ _ _ _)) (followLink_within _ _ _ _)
  exact .ite (.of_patch rfl) (.of_patch rfl)

theorem portLink_netLinkChange (p : Nat) (up : Bool) (s : State) :
    portLink (netLinkChange p up s) p = (up && portEnabled s p) := by
  rw [netLinkChange_eq, portLink_followLink, portLink_followLink]
  by_cases h : p = 0 <;> simp [setPortLink, portLink, h]

theorem ptpOf_setPortLink (p : Nat) (up : Bool) (s : State) (d : Nat) : ptpOf (setPortLink p up s) d = ptpOf s d := by
  by_cases h : p = 0 <;> simp [setPortLink, ptpOf, h]

/-- A domain once its port's link has changed is as it is after following it alone (R97). -/
theorem ptpOf_netLinkChange (p : Nat) (up : Bool) (s : State) {d : Nat} (hd : d < 2) :
    ∃ u, u.cfg = s.cfg ∧ ptpOf u d = ptpOf s d
      ∧ ptpOf (netLinkChange p up s) d = ptpOf (followLink p (up && portEnabled s p) d u) d := by
  have hset : Within [.mer] s (setPortLink p (up && portEnabled s p) s) := .ite (.of_patch rfl) (.of_patch rfl)
  rw [netLinkChange_eq]
  generalize (up && portEnabled s p) = up at hset ⊢
  have hfirst := followLink_within p up 0 (setPortLink p up s)
  obtain rfl | rfl : d = 0 ∨ d = 1 := by omega
  · exact ⟨_, hset.keeps .settings rfl, ptpOf_setPortLink _ _ _ _, ptpOf_followLink_of_ne _ _ _ (by simp)⟩
  · refine ⟨_, (hfirst.keeps .settings rfl).trans (hset.keeps .settings rfl), ?_, rfl⟩
    rw [ptpOf_followLink_of_ne _ _ _ (by simp), ptpOf_setPortLink]

end Sys2Proof.Machine.Laws

namespace Sys2Proof.Machine.Proofs
open Sys2Proof.Machine Sys2Proof.Machine.Laws

/-- Settles O14: each message, timeout and link change by the branch it takes. -/
theorem ptpRows : Obligations.PtpRows := by
  refine ⟨fun t0 d off s halive hstate => ?sync, fun t0 d a s halive hstate hselected => ?announce,
    fun t0 d delay s halive henabled hlink => ?delayResp, fun t0 d s halive henabled hlink hpeer => ?pdelayReq,
    fun t0 d s halive hstate => ?delayReq, fun t0 d s halive hstate htime => ?syncTimeout,
    fun t0 d s halive hstate htime => ?announceTimeout,
    fun t0 s halive hpolicy hring hpreferred hslave hrevert htime => ?holdoff, fun t0 p up s halive => ?link,
    fun t0 p s halive => ?dropped⟩
  case sync =>
    have hwithin := ptpSync_within (s := advance t0 s) d.val off hstate
    obtain ⟨hoffset, hsyncs, htime, hlock⟩ := ptpOf_ptpSync (s := advance t0 s) off hstate
    exact hwithin.runs halive ⟨hoffset, hsyncs, htime, hlock, hwithin.only rfl⟩
  case announce =>
    have hstep := ptpAnnounce_of_listening (s := advance t0 s) hstate hselected
    have hwithin : Within [.mer] (advance t0 s) (ptpAnnounce d.val a (advance t0 s)) :=
      hstep ▸ (setPtp_within _ _ _).trans (setPtp_within _ _ _)
    refine hwithin.runs halive ?_
    rw [hstep, ptpOf_setPtp_same, ← hstep]
    exact ⟨rfl, rfl, rfl, rfl, hwithin.only rfl⟩
  case delayResp =>
    have hstep : ptpDelayResp d.val delay (advance t0 s)
        = setPtp d.val { ptpOf s d.val with pathDelay := delay } (advance t0 s) := if_neg (not_or.2 ⟨henabled, hlink⟩)
    have hwithin : Within [.mer] (advance t0 s) (ptpDelayResp d.val delay (advance t0 s)) :=
      hstep ▸ setPtp_within _ _ _
    refine hwithin.runs halive ?_
    rw [hstep, ptpOf_setPtp_same, ← hstep]
    exact ⟨rfl, hwithin.only rfl⟩
  case pdelayReq =>
    have hstep : ptpPdelayReq d.val (advance t0 s) = answerPdelay d.val (advance t0 s) :=
      if_neg (by simp [show ptpPeer (advance t0 s) d.val = true from hpeer,
        show (ptpOf (advance t0 s) d.val).state ≠ 3 from henabled, show (ptpOf (advance t0 s) d.val).state ≠ 2 from hlink])
    have hwithin : Within [.out] (advance t0 s) (ptpPdelayReq d.val (advance t0 s)) := hstep ▸ answerPdelay_within _ _
    refine hwithin.runs halive ⟨?_, fun htwo => ?_, hwithin.only rfl⟩
    · rw [hstep]
      obtain hsent | hsent := answerPdelay_sent d.val (advance t0 s)
      · rw [show sent s _ = _ from sent_of_append hsent]
        exact List.mem_cons_self ..
      · rw [show sent s _ = _ from sent_of_append hsent]
        exact List.mem_cons_of_mem _ (List.mem_cons_self ..)
    · rw [hstep, show sent s _ = _ from sent_of_append (answerPdelay_sent_two (s := advance t0 s) htwo)]
      exact List.mem_cons_self ..
  case delayReq =>
    have hstep : ptpDelayReqSend d.val (advance t0 s)
        = send (.net (ptpPort s d) d (if ptpPeer s d then .pdelayReq else .delayReq)) (advance t0 s) :=
      ptpDelayReqSend_of_live (s := advance t0 s) hstate
    have hwithin : Within [.out] (advance t0 s) (ptpDelayReqSend d.val (advance t0 s)) := hstep ▸ send_within _ _
    exact hwithin.runs halive ⟨sent_of_append (by rw [hstep]; rfl), hwithin.only rfl⟩
  case syncTimeout =>
    have hstep : ptpSyncTimeout d.val (advance t0 s) = ptpEnter d.val 8 (advance t0 s) := if_pos ⟨hstate, htime⟩
    have hwithin : Within (.mer :: eventPieces) (advance t0 s) (ptpSyncTimeout d.val (advance t0 s)) :=
      hstep ▸ ptpEnter_within _ _ _
    exact hwithin.runs halive ⟨by rw [hstep, state_ptpEnter_same], hwithin.only rfl⟩
  case announceTimeout =>
    have hstep := ptpAnnounceTimeout_of_due (s := advance t0 s) hstate htime
    have hwithin : Within (.mer :: eventPieces) (advance t0 s) (ptpAnnounceTimeout d.val (advance t0 s)) :=
      hstep ▸ ((setPtp_within _ _ _).mono rfl).trans (ptpEnter_within _ _ _)
    refine hwithin.runs halive ⟨?_, ?_, hwithin.only rfl⟩
    · rw [hstep, state_ptpEnter_same]
    · rw [hstep, ptpOf_ptpEnter_same, ptpOf_setPtp_same]
      split <;> rfl
  case holdoff =>
    have hsource := reselect_of_reverted (s := advance t0 s) hpolicy hring hpreferred hslave hrevert htime
    have hwithin := reselect_within (advance t0 s)
    exact hwithin.runs halive ⟨hsource, hwithin.only rfl⟩
  case link =>
    have hwithin := netLinkChange_within p.val up (advance t0 s)
    refine hwithin.runs halive ⟨portLink_netLinkChange _ _ _, fun d hd hport hstate hdown => ?_,
      fun d hd hport hstate hup => ?_, hwithin.only rfl⟩
    · obtain ⟨u, hcfg, hdomain, hstep⟩ := ptpOf_netLinkChange p.val up (advance t0 s) hd
      have hlink : (up && portEnabled (advance t0 s) p.val) = false := hdown
      have hport' : ptpPort u d = p.val := by rw [ptpPort, ptpCfg, cfgGet, hcfg]; exact hport
      rw [hstep, hlink]
      exact state_followLink_down hport' (by rw [hdomain]; exact hstate)
    · obtain ⟨u, hcfg, hdomain, hstep⟩ := ptpOf_netLinkChange p.val up (advance t0 s) hd
      have hlink : (up && portEnabled (advance t0 s) p.val) = true := hup
      have hport' : ptpPort u d = p.val := by rw [ptpPort, ptpCfg, cfgGet, hcfg]; exact hport
      rw [hstep, hlink]
      exact state_followLink_up hport' (by rw [hdomain]; exact hstate)
  case dropped =>
    have hwithin : Within [.mer] (advance t0 s) (nonPtpFrame p.val (advance t0 s)) := .ite (.of_patch rfl) (.of_patch rfl)
    refine hwithin.runs halive ⟨?_, hwithin.only rfl⟩
    match p with
    | 0 => rfl
    | 1 => rfl

end Sys2Proof.Machine.Proofs
end

section
/-! SUPPORT. What has left the ports only grows, so what an operation sends in between has left between its ends. -/
namespace Sys2Proof.Machine.Laws
open Sys2Proof.Machine

variable {s t u : State}

/-- What had left the ports before is the older part of what has left them since. -/
def Grows (s t : State) : Prop := s.out <:+ t.out

theorem Grows.refl (s : State) : Grows s s := List.suffix_refl _

theorem Grows.trans (hst : Grows s t) (htu : Grows t u) : Grows s u := List.IsSuffix.trans hst htu

theorem Grows.of_eq (h : t.out = s.out) : Grows s t := ⟨[], h.symm⟩

/-- What leaves after a record update that sends nothing. -/
theorem Grows.after (htu : Grows t u) (h : t.out = s.out) : Grows s u := (Grows.of_eq h).trans htu

theorem Grows.ite {c : Prop} [Decidable c] (ht : Grows s t) (hu : Grows s u) : Grows s (if c then t else u) := by
  split
  · exact ht
  · exact hu

theorem Grows.each {α : Type} {f : α → State → State} (hf : ∀ a s, Grows s (f a s)) (xs : List α) (s : State) :
    Grows s (each xs f s) := by
  induction xs generalizing s with
  | nil => exact .refl s
  | cons a r ih => exact (hf a s).trans (ih (f a s))

theorem Within.grows {l : List Piece} (h : Within l s t) (hl : l.contains .out = false) : Grows s t :=
  .of_eq (h.keeps .out hl)

theorem Grows.sent (h : Grows s t) : t.out = sent s t ++ s.out := by
  obtain ⟨o, ho⟩ := h
  rw [sent_of_append ho.symm, ho]

/-- What is sent in between is among what has left. -/
theorem mem_sent {o : Output} (hsu : Grows s u) (hut : Grows (send o u) t) : o ∈ sent s t := by
  obtain ⟨a, ha⟩ := hsu
  obtain ⟨b, hb⟩ := hut
  have hout : t.out = (b ++ o :: a) ++ s.out := by
    rw [← hb, List.append_assoc, List.cons_append, ha]
    rfl
  rw [sent_of_append hout]
  exact List.mem_append_right _ (List.mem_cons_self ..)

theorem mem_sent_after {o : Output} (hst : Grows s t) (htu : Grows t u) (h : o ∈ sent t u) : o ∈ sent s u := by
  have hout : u.out = (Machine.sent t u ++ Machine.sent s t) ++ s.out := by
    rw [List.append_assoc, ← hst.sent, ← Grows.sent htu]
  rw [sent_of_append hout]
  exact List.mem_append_left _ h

theorem sent_grows {o : Output} (hst : Grows s t) (htu : Grows t u) (h : o ∈ sent s t) : o ∈ sent s u := by
  have hout : u.out = (Machine.sent t u ++ Machine.sent s t) ++ s.out := by
    rw [List.append_assoc, ← hst.sent, ← htu.sent]
  rw [sent_of_append hout]
  exact List.mem_append_right _ h

/-! The shared operations -/

theorem send_grows (o : Output) (s : State) : Grows s (send o s) := ⟨[o], rfl⟩

theorem setRingPort_grows (p : RingPort) (v : RingPortState) (s : State) : Grows s (setRingPort p v s) :=
  (setRingPort_within p v s).grows rfl

theorem sendOn_grows (p : RingPort) (k : RingPacket) (s : State) : Grows s (sendOn p k s) := by
  have hput : ∀ q k, Grows s (send (.ring q k) (if bodyKept k.body then
      setRingPort q { ringPort s q with copies := (ringPort s q).copies ++ [k] } s else s)) := fun q k =>
    (Grows.ite (setRingPort_grows _ _ _) (.refl s)).trans (send_grows _ _)
  exact .ite (hput _ _) (.ite (hput _ _) (.refl s))

theorem sendVia_grows (ports : List RingPort) (dst : BitVec 5) (body : RingBody) (s : State) :
    Grows s (sendVia ports dst body s) :=
  (Grows.each (fun _ _ => sendOn_grows _ _ _) _ _).after rfl

theorem sendRing_grows (dst : BitVec 5) (body : RingBody) (s : State) : Grows s (sendRing dst body s) :=
  sendVia_grows _ _ _ s

theorem sendMessage_grows (n : Nat) (s : State) : Grows s (sendMessage n s) :=
  .ite (.refl s) (.ite (.refl s) (send_grows _ s))

theorem countEntry_grows (n : Nat) (s : State) : Grows s (countEntry n s) :=
  .ite (sendMessage_grows n s) (.ite ((sendMessage_grows n _).after rfl) (.of_eq rfl))

theorem writeEvent_grows (e : Event) (s : State) : Grows s (writeEvent e s) :=
  (send_grows (.event s.bar0.evt.idx s.bar0.evt.phase e) s).trans ((countEntry_grows _ _).after rfl)

theorem deliverEvent_grows (e : Event) (s : State) : Grows s (deliverEvent e s) :=
  .ite (writeEvent_grows e s) (((insertLost_within s).grows rfl).trans ((bufferEvent_within e _).grows rfl))

theorem forwardEvent_grows (e : Event) (s : State) : Grows s (forwardEvent e s) :=
  .ite (.ite (.of_eq rfl) ((sendRing_grows _ _ _).after rfl)) ((Grows.each (fun _ _ => sendRing_grows _ _ _) _ _).after rfl)

theorem raise_grows (code block : Nat) (detail : Bytes) (s : State) : Grows s (raise code block detail s) :=
  ((deliverEvent_grows _ s).trans ((logEvent_within _ _).grows rfl)).trans (forwardEvent_grows _ _)

theorem writeReply_grows (r : Reply) (s : State) : Grows s (writeReply r s) :=
  (send_grows (.reply s.bar0.rpl.idx s.bar0.rpl.phase r) s).trans ((countEntry_grows _ _).after rfl)

theorem reply_grows (r : Reply) (s : State) : Grows s (reply r s) := .ite (writeReply_grows r s) (.refl s)

end Sys2Proof.Machine.Laws
end

section
/-! SUPPORT. Calibration runs as other blocks end them (R266): what they leave of the axes and the lanes. -/
namespace Sys2Proof.Machine.Laws
open Sys2Proof.Machine

variable {s t u : State}

/-- What a map of a table's entries keeps of each entry, it keeps of what is read. -/
theorem tget_map_congr {κ α β : Type} [DecidableEq κ] {d : α} {f : κ × α → κ × α} {g : α → β} {k : κ}
    (hkey : ∀ e, (f e).1 = e.1) (hg : ∀ e, e.1 = k → g (f e).2 = g e.2) (m : Tab κ α) :
    g (tget d (m.map f) k) = g (tget d m k) := by
  induction m with
  | nil => rfl
  | cons e r ih =>
    by_cases he : e.1 = k
    · simpa [tget, hkey, he] using hg e he
    · simpa [tget, hkey, he] using ih

/-- An axis without the run that owns it. -/
def unowned (k : Axis) : Axis := { k with owner := none }

/-- A lane without its scan. -/
def unscanned (l : Lane) : Lane := { l with scan := none }

/-- Every axis but one is as it was, and that one but for its owner; every lane is as it was but for its scan. -/
structure Freed (a : Nat) (s t : State) : Prop where
  others : ∀ k, k ≠ a → axisOf t k = axisOf s k
  axis : ∀ k, unowned (axisOf t k) = unowned (axisOf s k)
  lane : ∀ n, unscanned (laneOf t n) = unscanned (laneOf s n)

theorem Freed.refl (a : Nat) (s : State) : Freed a s s := ⟨fun _ _ => rfl, fun _ => rfl, fun _ => rfl⟩

theorem Freed.trans {a : Nat} (hst : Freed a s t) (htu : Freed a t u) : Freed a s u :=
  ⟨fun k hk => (htu.others k hk).trans (hst.others k hk), fun k => (htu.axis k).trans (hst.axis k),
    fun n => (htu.lane n).trans (hst.lane n)⟩

theorem Within.freed {l : List Piece} (h : Within l s t) (ha : l.contains .axs = false) (hl : l.contains .lanes = false)
    (a : Nat) : Freed a s t :=
  ⟨fun k _ => axisOf_congr (h.keeps .axs ha) k, fun k => congrArg unowned (axisOf_congr (h.keeps .axs ha) k),
    fun n => congrArg unscanned (laneOf_congr (h.keeps .lanes hl) n)⟩

/-- What the end of a run may change. -/
def runPieces : List Piece := .cal :: .axs :: .lanes :: eventPieces

theorem freeTarget_within (r : CalRun) (s : State) : Within [.axs, .lanes] s (freeTarget r s) :=
  .ite (.of_patch rfl) (.ite (.of_patch rfl) (.refl _ s))

theorem freeTarget_freed {r : CalRun} {a : Nat} (h : r.type = 4 → r.target = a) (s : State) : Freed a s (freeTarget r s) := by
  unfold freeTarget
  split
  · next htype =>
    refine ⟨fun k hk => ?_, fun k => ?_, fun n => rfl⟩
    · refine tget_map_congr (g := id) (fun e => ?_) (fun e he => ?_) s.axs.axes
      · split <;> rfl
      · exact congrArg (fun x : Nat × Axis => x.2) (if_neg fun hfree => hk (he ▸ hfree.1.trans (h htype)))
    · refine tget_map_congr (g := unowned) (fun e => ?_) (fun e he => ?_) s.axs.axes
      · split <;> rfl
      · split <;> rfl
  · split
    · refine ⟨fun k _ => rfl, fun k => rfl, fun n => ?_⟩
      refine tget_map_congr (g := unscanned) (fun e => ?_) (fun e he => ?_) s.hlk.lanes
      · split <;> rfl
      · split <;> rfl
    · exact .refl a s

/-- The table once a run is final, and an earlier one of its type and target has left it. -/
def enterFinal (r : CalRun) (s : State) : State :=
  let keep := s.cal.runs.filter fun x => !(decide (6 ≤ x.state) && x.type == r.type && x.target == r.target && x.id != r.id)
  { s with cal := { s.cal with
    runs := keep.map fun x => if x.id = r.id then { r with final := s.cal.finals + 1 } else x, finals := s.cal.finals + 1 } }

theorem finalRun_eq (r : CalRun) (s : State) : finalRun r s = freeTarget r (enterFinal r s) := rfl

theorem enterFinal_within (r : CalRun) (s : State) : Within [.cal] s (enterFinal r s) := by
  have h : Within [.cal, .idle] s (enterFinal r s) := .of_patch rfl
  exact h.ofIdle fun hruns hspare => ⟨by simp [enterFinal, hruns], hspare⟩

theorem finalRun_within (r : CalRun) (s : State) : Within [.cal, .axs, .lanes] s (finalRun r s) := by
  rw [finalRun_eq]
  exact (enterFinal_within r s).seq (freeTarget_within _ _) rfl

theorem finalRun_freed {r : CalRun} {a : Nat} (h : r.type = 4 → r.target = a) (s : State) : Freed a s (finalRun r s) := by
  have hfree := freeTarget_freed h { s with cal := { s.cal with
    runs := (s.cal.runs.filter fun x =>
      !(decide (6 ≤ x.state) && x.type == r.type && x.target == r.target && x.id != r.id)).map fun x =>
        if x.id = r.id then { r with final := s.cal.finals + 1 } else x
    finals := s.cal.finals + 1 } }
  exact ⟨hfree.others, hfree.axis, hfree.lane⟩

theorem failRun_within (state reason : Nat) (r : CalRun) (s : State) : Within runPieces s (failRun state reason r s) :=
  ((finalRun_within _ _).mono rfl).trans ((raise_within _ _ _ _).fromPatch rfl rfl)

theorem failRun_freed {r : CalRun} {a : Nat} (state reason : Nat) (h : r.type = 4 → r.target = a) (s : State) :
    Freed a s (failRun state reason r s) := by
  have hfinal := finalRun_freed (r := { r with state := state, reason := reason }) h s
  refine hfinal.trans (Within.freed (l := .cal :: eventPieces) ?_ rfl rfl a)
  exact (raise_within _ _ _ _).fromPatch rfl rfl

theorem abortRuns_within (reason : Nat) (sel : CalRun → Bool) (s : State) : Within runPieces s (abortRuns reason sel s) :=
  .each (fun _ _ => failRun_within _ _ _ _) _ s

/-- Runs that end leave every axis and lane as it was, but for the axis they own and their lane's scan. -/
theorem abortRuns_freed {reason : Nat} {sel : CalRun → Bool} {a : Nat} (h : ∀ r, sel r = true → r.type = 4 → r.target = a)
    (s : State) : Freed a s (abortRuns reason sel s) := by
  have hall : ∀ (l : List CalRun) (s : State), (∀ r ∈ l, r.type = 4 → r.target = a) → Freed a s (each l (failRun 8 reason) s) := by
    intro l
    induction l with
    | nil => exact fun s _ => .refl a s
    | cons r l ih => exact fun s hl =>
        (failRun_freed 8 reason (hl r (List.mem_cons_self ..)) s).trans (ih _ fun x hx => hl x (List.mem_cons_of_mem r hx))
  refine hall _ s fun r hr => h r ?_
  have hsel := (List.mem_filter.1 hr).2
  simp only [Bool.and_eq_true] at hsel
  exact hsel.2

theorem axisSource_within (a : Nat) (s : State) : Within runPieces s (axisSource a s) := abortRuns_within _ _ s

theorem axisSource_freed (a : Nat) (s : State) : Freed a s (axisSource a s) :=
  abortRuns_freed (fun r hr _ => by simp only [Bool.and_eq_true, beq_iff_eq] at hr; exact hr.2) s

end Sys2Proof.Machine.Laws
end

section
/-! SUPPORT. The bar axes (R294 to R307): what stopping, a fault, a limit or a frame leaves of an axis. -/
namespace Sys2Proof.Machine.Laws
open Sys2Proof.Machine

variable {l : List Piece} {s t u : State} {a : Nat}

/-- An axis without its state, what it is doing, its generator and the causes latched. -/
def besideMotion (k : Axis) : Axis :=
  { k with
    state := 0, homing := 0, homeFail := 0, owed := false, vel := 0, acc := 0, goal := 0, target := 0, vlim := 0, decel := 0,
    zeroSince := 0, holdNow := false, limitStop := none, endStatus := 0, toStopped := false, stallSince := none
    causes := [], owner := none }

/-- An operation on one axis that changes at most its motion, within a frame. -/
structure Moves (l : List Piece) (a : Nat) (s t : State) : Prop where
  within : Within l s t
  grows : Grows s t
  others : ∀ k, k ≠ a → axisOf t k = axisOf s k
  axis : besideMotion (axisOf t a) = besideMotion (axisOf s a)

theorem Moves.refl (l : List Piece) (a : Nat) (s : State) : Moves l a s s := ⟨.refl l s, .refl s, fun _ _ => rfl, rfl⟩

theorem Moves.trans (hst : Moves l a s t) (htu : Moves l a t u) : Moves l a s u :=
  ⟨hst.within.trans htu.within, hst.grows.trans htu.grows, fun k hk => (htu.others k hk).trans (hst.others k hk),
    htu.axis.trans hst.axis⟩

theorem Moves.mono {l' : List Piece} (h : Moves l a s t) (hl : incl l l' = true) : Moves l' a s t :=
  ⟨h.within.mono hl, h.grows, h.others, h.axis⟩

theorem Moves.ite {c : Prop} [Decidable c] (ht : Moves l a s t) (hu : Moves l a s u) :
    Moves l a s (if c then t else u) := by
  split
  · exact ht
  · exact hu

theorem setAxis_within (a : Nat) (v : Axis) (s : State) : Within [.axs] s (setAxis a v s) := .of_patch rfl

theorem Moves.set {v : Axis} (h : besideMotion v = besideMotion (axisOf s a)) : Moves [.axs] a s (setAxis a v s) :=
  ⟨setAxis_within a v s, .of_eq rfl, fun _ hk => axisOf_setAxis_of_ne _ _ hk, by rw [axisOf_setAxis_same, h]⟩

theorem Moves.fromSet {v : Axis} (h : Moves l a (setAxis a v s) u) (hv : besideMotion v = besideMotion (axisOf s a))
    (hl : incl [.axs] l = true) : Moves l a s u := ((Moves.set hv).mono hl).trans h

/-- An event is no motion. -/
theorem raise_moves (code block : Nat) (detail : Bytes) (s : State) (a : Nat) :
    Moves (.axs :: eventPieces) a s (raise code block detail s) :=
  ⟨(raise_within _ _ _ _).mono rfl, raise_grows _ _ _ _, fun k _ => axisOf_congr (raise_axs _ _ _ _) k,
    congrArg besideMotion (axisOf_congr (raise_axs _ _ _ _) a)⟩

theorem Moves.raised {v : Axis} {code block : Nat} {detail : Bytes} (h : besideMotion v = besideMotion (axisOf s a)) :
    Moves (.axs :: eventPieces) a s (raise code block detail (setAxis a v s)) :=
  ((Moves.set h).mono rfl).trans (raise_moves _ _ _ _ a)

theorem axisOf_raise (code block : Nat) (detail : Bytes) (s : State) (k : Nat) :
    axisOf (raise code block detail s) k = axisOf s k := axisOf_congr (raise_axs _ _ _ _) k

theorem axisCfg_congr (h : t.cfg = s.cfg) (a : Nat) : axisCfg t a = axisCfg s a := by rw [axisCfg, cfgGet, h, axisCfg, cfgGet]

/-! What is kept beside the motion -/

theorem switchOf_of_besideMotion {k k' : Axis} (h : besideMotion k' = besideMotion k) (w : Nat) :
    switchOf k' w = switchOf k w := by
  have hn : k'.limN = k.limN := (congrArg Axis.limN h :)
  have hp : k'.limP = k.limP := (congrArg Axis.limP h :)
  have hh : k'.home = k.home := (congrArg Axis.home h :)
  rw [switchOf, hn, hp, hh, switchOf]

/-! States and stops (R300) -/

theorem axisEnter_moves (a new : Nat) (s : State) : Moves (.axs :: eventPieces) a s (axisEnter a new s) :=
  .ite (.refl _ a s) (.raised rfl)

theorem axisOf_axisEnter (a new : Nat) (s : State) : axisOf (axisEnter a new s) a = { axisOf s a with state := new } := by
  unfold axisEnter
  dsimp only
  split
  · next h => rw [← h]
  · rw [axisOf_raise, axisOf_setAxis_same]

theorem moveDone_moves (a status : Nat) (s : State) : Moves (.axs :: eventPieces) a s (moveDone a status s) :=
  .ite (.refl _ a s) (.raised rfl)

theorem axisOf_moveDone (a status : Nat) (s : State) : axisOf (moveDone a status s) a = { axisOf s a with owed := false } := by
  unfold moveDone
  dsimp only
  split
  · next h => rw [show (axisOf s a) = { axisOf s a with owed := (axisOf s a).owed } from rfl]; simp_all
  · rw [axisOf_raise, axisOf_setAxis_same]

theorem homeDone_moves (a status : Nat) (s : State) : Moves (.axs :: eventPieces) a s (homeDone a status s) := .raised rfl

theorem axisOf_homeDone (a status : Nat) (s : State) : axisOf (homeDone a status s) a = { axisOf s a with homing := 0 } := by
  rw [homeDone, axisOf_raise, axisOf_setAxis_same]

theorem hardStop_moves (a : Nat) (s : State) : Moves [.axs] a s (hardStop a s) := .set rfl

theorem rampedStop_moves (a : Nat) (s : State) : Moves [.axs] a s (rampedStop a s) := .set rfl

theorem moveTo_moves (a : Nat) (target : Int) (vlim : Nat) (s : State) : Moves [.axs] a s (moveTo a target vlim s) := .set rfl

theorem noteFollow_moves (a : Nat) (s : State) : Moves [.axs] a s (noteFollow a s) := .set rfl

theorem settleHold_moves (a : Nat) (s : State) : Moves [.axs] a s (settleHold a s) := .ite (.set rfl) (.refl _ a s)

theorem limitEvent_moves (a : Nat) (s : State) : Moves (.axs :: eventPieces) a s (limitEvent a s) := by
  unfold limitEvent
  dsimp only
  split
  · exact .raised rfl
  · exact .refl _ a s

/-- What an axis that comes to rest in a move goes to (R300). -/
theorem axisArrived_of_moving (h : (axisOf s a).state = 2) :
    axisArrived a s = axisEnter a 1 (limitEvent a (moveDone a (axisOf s a).endStatus s)) := by
  simp only [axisArrived, h]

theorem axisArrived_moves (a : Nat) (s : State) : Moves (.axs :: eventPieces) a s (axisArrived a s) := by
  unfold axisArrived
  dsimp only
  split
  · exact ((moveDone_moves _ _ _).trans (limitEvent_moves _ _)).trans (axisEnter_moves _ _ _)
  · refine .ite ((limitEvent_moves _ _).trans ?_) (.ite ((homeDone_moves _ _ _).trans (axisEnter_moves _ _ _))
      (.ite ((homeDone_moves _ _ _).trans (axisEnter_moves _ _ _)) (.refl _ a s)))
    exact ((moveTo_moves _ _ _ _).mono rfl).fromSet rfl rfl
  · refine Moves.trans ?_ ((axisEnter_moves _ _ _).fromSet rfl rfl)
    exact (limitEvent_moves _ _).trans (.ite (moveDone_moves _ _ _) (homeDone_moves _ _ _))
  · exact .refl _ a s

/-! Faults (R299) -/

theorem endWithFault_moves (a : Nat) (s : State) : Moves (.axs :: eventPieces) a s (endWithFault a s) :=
  .ite (homeDone_moves _ _ _) (moveDone_moves _ _ _)

/-- An axis with a cause latched. -/
def latchCause (a cause : Nat) (s : State) : State :=
  let k := axisOf s a
  setAxis a { k with causes := if k.causes.contains cause then k.causes else k.causes ++ [cause] } s

theorem latchCause_moves (a cause : Nat) (s : State) : Moves [.axs] a s (latchCause a cause s) := .set rfl

theorem mem_causes_latchCause (a cause : Nat) (s : State) : cause ∈ (axisOf (latchCause a cause s) a).causes := by
  rw [latchCause, axisOf_setAxis_same]
  dsimp only
  split
  · next h => exact List.contains_iff_mem.1 h
  · exact List.mem_append_right _ (List.mem_singleton_self _)

theorem axisFault_eq (a cause : Nat) (s : State) :
    axisFault a cause s = if (axisOf s a).state = 5 then latchCause a cause s
      else axisEnter a 5 (endWithFault a (hardStop a (latchCause a cause s))) := rfl

theorem axisFault_moves (a cause : Nat) (s : State) : Moves (.axs :: eventPieces) a s (axisFault a cause s) := by
  have hlatch := (latchCause_moves a cause s).mono (l' := .axs :: eventPieces) rfl
  rw [axisFault_eq]
  refine .ite hlatch (hlatch.trans ?_)
  exact (((hardStop_moves _ _).mono rfl).trans (endWithFault_moves _ _)).trans (axisEnter_moves _ _ _)

theorem vel_endWithFault (a : Nat) (s : State) :
    (axisOf (endWithFault a s) a).vel = (axisOf s a).vel ∧ (axisOf (endWithFault a s) a).causes = (axisOf s a).causes := by
  unfold endWithFault
  dsimp only
  split
  · rw [axisOf_homeDone]
    exact ⟨rfl, rfl⟩
  · rw [axisOf_moveDone]
    exact ⟨rfl, rfl⟩

/-- A fault latches its cause and leaves the axis at a stand in FAULT. -/
theorem axisOf_axisFault (a cause : Nat) (s : State) :
    let k := axisOf (axisFault a cause s) a
    k.state = 5 ∧ cause ∈ k.causes ∧ ((axisOf s a).state ≠ 5 → k.vel = 0) := by
  have hmem := mem_causes_latchCause a cause s
  have hstate : (axisOf (latchCause a cause s) a).state = (axisOf s a).state := by rw [latchCause, axisOf_setAxis_same]
  dsimp only
  rw [axisFault_eq]
  split
  · next h => exact ⟨hstate.trans h, hmem, fun hne => absurd h hne⟩
  · rw [axisOf_axisEnter]
    obtain ⟨hvel, hcauses⟩ := vel_endWithFault a (hardStop a (latchCause a cause s))
    rw [hardStop, axisOf_setAxis_same] at hvel hcauses
    exact ⟨rfl, hcauses ▸ hmem, fun _ => hvel⟩

/-! Operations on one axis that are not only motion -/

/-- An operation on one axis within a frame. -/
structure OnAxis (l : List Piece) (a : Nat) (s t : State) : Prop where
  within : Within l s t
  grows : Grows s t
  others : ∀ k, k ≠ a → axisOf t k = axisOf s k

theorem Moves.onAxis (h : Moves l a s t) : OnAxis l a s t := ⟨h.within, h.grows, h.others⟩

theorem OnAxis.trans (hst : OnAxis l a s t) (htu : OnAxis l a t u) : OnAxis l a s u :=
  ⟨hst.within.trans htu.within, hst.grows.trans htu.grows, fun k hk => (htu.others k hk).trans (hst.others k hk)⟩

theorem OnAxis.mono {l' : List Piece} (h : OnAxis l a s t) (hl : incl l l' = true) : OnAxis l' a s t :=
  ⟨h.within.mono hl, h.grows, h.others⟩

theorem OnAxis.ite {c : Prop} [Decidable c] (ht : OnAxis l a s t) (hu : OnAxis l a s u) :
    OnAxis l a s (if c then t else u) := by
  split
  · exact ht
  · exact hu

theorem setAxis_onAxis (a : Nat) (v : Axis) (s : State) : OnAxis [.axs] a s (setAxis a v s) :=
  ⟨setAxis_within a v s, .of_eq rfl, fun _ hk => axisOf_setAxis_of_ne _ _ hk⟩

/-! Feedback faults (R299) -/

/-- An axis with a feedback cause present. -/
def withCause (cause : Nat) (now : Time) (ssi : Bool) (k : Axis) : Axis :=
  { k with
    present := (k.present.filter fun p => p.1 ≠ cause) ++ [(cause, now)]
    ssiGood := 0
    referenced := k.referenced && ssi && !k.absolute }

/-- The registers with a feedback cause present. -/
def noteCause (a cause : Nat) (s : State) : State :=
  setAxis a (withCause cause s.now (ssiFeedback (axisCfg s a)) (axisOf s a)) s

theorem feedbackFault_eq (a cause : Nat) (s : State) :
    feedbackFault a cause s = if (axisOf s a).state = 0 then s
      else if (axisOf s a).present.any (fun p => decide (p.1 = cause)) then noteCause a cause s
      else axisFault a cause (raise 0x3E02 0x0E (leBytes 1 a ++ leBytes 1 cause ++ zeros 2 ++ timeBytes s.now)
        (noteCause a cause s)) := rfl

theorem noteCause_onAxis (a cause : Nat) (s : State) : OnAxis [.axs] a s (noteCause a cause s) := setAxis_onAxis _ _ _

/-- The registers of an axis's inputs, without the causes of its feedback. -/
def inputs (k : Axis) : Axis := { besideMotion k with present := [], ssiGood := 0, referenced := false }

theorem Moves.inputs (h : Moves l a s t) : inputs (axisOf t a) = inputs (axisOf s a) :=
  congrArg (fun k : Axis => { k with present := [], ssiGood := 0, referenced := false }) h.axis

theorem feedbackFault_onAxis (a cause : Nat) (s : State) :
    OnAxis (.axs :: eventPieces) a s (feedbackFault a cause s)
      ∧ inputs (axisOf (feedbackFault a cause s) a) = inputs (axisOf s a)
      ∧ ((axisOf s a).ssiGood = 0 → (axisOf (feedbackFault a cause s) a).ssiGood = 0) := by
  have hnote := (noteCause_onAxis a cause s).mono (l' := .axs :: eventPieces) rfl
  have haxis : axisOf (noteCause a cause s) a = _ := axisOf_setAxis_same _ _ _
  have hfault := (raise_moves 0x3E02 0x0E (leBytes 1 a ++ leBytes 1 cause ++ zeros 2 ++ timeBytes s.now)
    (noteCause a cause s) a).trans (axisFault_moves a cause _)
  rw [feedbackFault_eq]
  split
  · exact ⟨(Moves.refl _ a s).onAxis, rfl, id⟩
  · split
    · exact ⟨hnote, by rw [haxis]; rfl, fun _ => by rw [haxis]; rfl⟩
    · exact ⟨hnote.trans hfault.onAxis, by rw [hfault.inputs, haxis]; rfl,
        fun _ => (congrArg Axis.ssiGood hfault.axis).trans (by rw [haxis]; rfl)⟩

/-- A feedback cause that is new to an axis in RUN. -/
theorem feedbackFault_of_new {cause : Nat} (hrun : (axisOf s a).state ≠ 0)
    (hnew : (axisOf s a).present.any (fun p => decide (p.1 = cause)) = false) :
    let t := feedbackFault a cause s
    (axisOf t a).state = 5 ∧ cause ∈ (axisOf t a).causes ∧ (cause, s.now) ∈ (axisOf t a).present := by
  have hfault := axisFault_moves a cause (raise 0x3E02 0x0E (leBytes 1 a ++ leBytes 1 cause ++ zeros 2 ++ timeBytes s.now)
    (noteCause a cause s))
  have hpresent := (congrArg Axis.present hfault.axis :)
  rw [axisOf_raise, noteCause, axisOf_setAxis_same] at hpresent
  dsimp only
  rw [feedbackFault_eq, if_neg hrun, if_neg (by simp [hnew])]
  obtain ⟨hstate, hcause, -⟩ := axisOf_axisFault a cause
    (raise 0x3E02 0x0E (leBytes 1 a ++ leBytes 1 cause ++ zeros 2 ++ timeBytes s.now) (noteCause a cause s))
  exact ⟨hstate, hcause, hpresent ▸ List.mem_append_right _ (List.mem_singleton_self _)⟩

/-- A cause of the receiver or of the transitions clears after 10 ms of valid input (R299). -/
theorem feedbackClear_of_valid {cause : Nat} {at_ : Time} (hkind : cause ≤ 1) (honly : (axisOf s a).present = [(8 + cause, at_)])
    (htime : at_ + 10 * tpMs ≤ s.now) :
    ∃ r, feedbackClear a cause s = setAxis a { axisOf s a with present := [], referenced := r } s := by
  refine ⟨(axisOf s a).referenced || (axisOf s a).absolute, ?_⟩
  simp [feedbackClear, honly, hkind, htime]

/-! Feedback input (R297, R298) -/

theorem axisOf_noteFollow (a : Nat) (s : State) :
    ∃ x, axisOf (noteFollow a s) a = { axisOf s a with stallSince := x } := ⟨_, axisOf_setAxis_same _ _ _⟩

/-- The axis after an invalid transition. -/
def invalidCounted (now : Time) (k : Axis) : Axis :=
  { k with quadErr := satInc 16 k.quadErr, quadTimes := (now :: k.quadTimes).filter fun u => decide (now < u + tpMs) }

theorem axisFeedback_of_invalid (h : ssiFeedback (axisCfg s a) = false) :
    let t := axisFeedback a .invalid s
    OnAxis (.axs :: eventPieces) a s t ∧ inputs (axisOf t a) = inputs (invalidCounted s.now (axisOf s a)) := by
  have hstep : axisFeedback a .invalid s
      = if 4 ≤ (invalidCounted s.now (axisOf s a)).quadTimes.length || ((axisOf s a).present.any fun p => p.1 = 9) then
          feedbackFault a 9 (setAxis a (invalidCounted s.now (axisOf s a)) s)
        else setAxis a (invalidCounted s.now (axisOf s a)) s := if_neg (by simp [h])
  have hset := (setAxis_onAxis a (invalidCounted s.now (axisOf s a)) s).mono (l' := .axs :: eventPieces) rfl
  dsimp only
  rw [hstep]
  split
  · obtain ⟨hon, hinputs, -⟩ := feedbackFault_onAxis a 9 (setAxis a (invalidCounted s.now (axisOf s a)) s)
    exact ⟨hset.trans hon, by rw [hinputs, axisOf_setAxis_same]⟩
  · exact ⟨hset, by rw [axisOf_setAxis_same]⟩

theorem axisFeedback_of_count {reverse : Bool} (h : ssiFeedback (axisCfg s a) = false) :
    axisFeedback a (.count reverse) s = noteFollow a (setAxis a { axisOf s a with
      fb := (axisOf s a).fb + (if reverse != bit (u8 (axisCfg s a) 1) 1 then -1 else 1) } s) := if_neg (by simp [h])

theorem axisFeedback_of_index (h : ssiFeedback (axisCfg s a) = false) (hstate : (axisOf s a).state = 3)
    (hhoming : (axisOf s a).homing = 2) :
    axisFeedback a .index s = rampedStop a (benchmarkFound a (axisOf s a).fb s) :=
  (if_neg (by simp [h])).trans (if_pos ⟨hstate, hhoming⟩)

theorem benchmarkFound_onAxis (a : Nat) (p : Int) (s : State) : OnAxis [.axs] a s (benchmarkFound a p s) :=
  (setAxis_onAxis _ _ _).trans (setAxis_onAxis _ _ _)

/-- Homing has its Benchmark and stops (R306). -/
theorem axisOf_benchmarkFound_rampedStop (a : Nat) (s : State) :
    let k := axisOf (rampedStop a (benchmarkFound a (axisOf s a).fb s)) a
    k.homing = 3 ∧ k.referenced = true ∧ k.bench = (axisOf s a).fb ∧ k.fb = s32 (axisCfg s a) 64 ∧ k.goal = 2 := by
  have hfb : (axisOf s a).fb + (s32 (axisCfg s a) 64 - (axisOf s a).fb) = s32 (axisCfg s a) 64 := by omega
  simp only [rampedStop, benchmarkFound, benchmark, axisOf_setAxis_same, hfb, and_self]

/-- The axis after a good read. -/
def readTaken (now : Time) (p : Int) (k : Axis) : Axis :=
  { k with fb := p, reads := ((now, p) :: k.reads).take 2, ssiFails := 0, ssiGood := k.ssiGood + 1 }

theorem ssiRead_of_ok {ok : Bool} {l : List Bool} {v : Int} (h : ssiFeedback (axisCfg s a) = true)
    (hread : ssiResult (axisCfg s a) ok l = .ok v) :
    ssiRead a ok l s
      = noteFollow a (setAxis a (readTaken s.now (v + (axisOf s a).offset) (axisOf s a)) s) := by
  unfold ssiRead
  dsimp only
  rw [if_neg (by simp [h]), hread]
  rfl

/-- The axis after a failed read. -/
def readFailed (now : Time) (cause : Nat) (k : Axis) : Axis :=
  { k with
    fb := extrapolate k now, ssiErr := satInc 16 k.ssiErr, ssiFails := if k.ssiCause = cause then k.ssiFails + 1 else 1
    ssiCause := cause, ssiGood := 0 }

theorem ssiRead_of_error {ok : Bool} {l : List Bool} {cause : Nat} (h : ssiFeedback (axisCfg s a) = true)
    (hread : ssiResult (axisCfg s a) ok l = .error cause) :
    let t := ssiRead a ok l s
    OnAxis (.axs :: eventPieces) a s t ∧ (axisOf t a).ssiErr = satInc 16 (axisOf s a).ssiErr ∧ (axisOf t a).ssiGood = 0
      ∧ (axisOf t a).ssiCause = cause := by
  have hstep : ssiRead a ok l s = if 3 ≤ (readFailed s.now cause (axisOf s a)).ssiFails then
      feedbackFault a cause (noteFollow a (setAxis a (readFailed s.now cause (axisOf s a)) s))
      else noteFollow a (setAxis a (readFailed s.now cause (axisOf s a)) s) := by
    unfold ssiRead
    dsimp only
    rw [if_neg (by simp [h]), hread]
    rfl
  have hset := (((setAxis_onAxis a (readFailed s.now cause (axisOf s a)) s).trans (noteFollow_moves _ _).onAxis).mono
    (l' := .axs :: eventPieces) rfl)
  obtain ⟨x, hx⟩ := axisOf_noteFollow a (setAxis a (readFailed s.now cause (axisOf s a)) s)
  rw [axisOf_setAxis_same] at hx
  dsimp only
  rw [hstep]
  generalize noteFollow a (setAxis a (readFailed s.now cause (axisOf s a)) s) = u at hset hx ⊢
  split
  · obtain ⟨hon, hinputs, hgood⟩ := feedbackFault_onAxis a cause u
    rw [hx] at hinputs hgood
    exact ⟨hset.trans hon, (congrArg Axis.ssiErr hinputs :), hgood rfl, (congrArg Axis.ssiCause hinputs :)⟩
  · rw [hx]
    exact ⟨hset, rfl, rfl, rfl⟩

/-! Switches and limits (R303, R304, R307) -/

theorem switchOf_setSwitch (w : Nat) (v : Switch) (k : Axis) : switchOf (setSwitch w v k) w = v := by
  unfold setSwitch switchOf
  split
  · rfl
  · split
    · rfl
    · rfl

theorem state_setSwitch (w : Nat) (v : Switch) (k : Axis) : (setSwitch w v k).state = k.state := by
  unfold setSwitch
  split
  · rfl
  · split <;> rfl

/-- The axis with a candidate of a switch confirmed. -/
def confirmSwitch (w : Nat) (k : Axis) : Axis :=
  setSwitch w { switchOf k w with candidate := none, confirmed := true } k

theorem switchConfirm_of_moving {w : Nat} {at_ : Time} {p : Int}
    (hcandidate : (switchOf (axisOf s a) w).candidate = some (at_, p))
    (htime : at_ + switchFilter (axisCfg s a) ≤ s.now) (hstate : (axisOf s a).state = 2) (hlimit : w ≠ 2) :
    switchConfirm a w s = limitStop a w p (setAxis a (confirmSwitch w (axisOf s a)) s) := by
  unfold switchConfirm
  dsimp only
  rw [hcandidate]
  dsimp only
  rw [if_neg (Nat.not_lt.2 htime), if_neg hlimit, if_neg (by omega), if_pos hstate]
  rfl

theorem switchConfirm_of_idle {w : Nat} {at_ : Time} {p : Int}
    (hcandidate : (switchOf (axisOf s a) w).candidate = some (at_, p))
    (htime : at_ + switchFilter (axisCfg s a) ≤ s.now) (hstate : (axisOf s a).state = 1) :
    switchConfirm a w s = setAxis a (confirmSwitch w (axisOf s a)) s := by
  unfold switchConfirm
  dsimp only
  rw [hcandidate]
  dsimp only
  rw [if_neg (Nat.not_lt.2 htime)]
  by_cases hlimit : w = 2
  · rw [if_pos hlimit, if_neg (by omega)]
    rfl
  · rw [if_neg hlimit, if_neg (by omega), if_neg (by omega), if_neg (by omega)]
    rfl

/-- The axis once a limit stops it, with the run that used it ended. -/
def limitNoted (a w : Nat) (p : Int) (s : State) : State :=
  axisSource a (setAxis a { axisOf s a with
    limitStop := some (w, b2n (limitRamped (axisCfg s a) w), p), endStatus := 2 } s)

theorem Freed.axisState (h : Freed a s t) (k : Nat) : (axisOf t k).state = (axisOf s k).state :=
  (congrArg Axis.state (h.axis k) :)

theorem abortRuns_grows (reason : Nat) (sel : CalRun → Bool) (s : State) : Grows s (abortRuns reason sel s) := by
  refine Grows.each (fun r s => ?_) _ _
  refine .trans ((finalRun_within { r with state := 8, reason := reason } s).grows rfl) ?_
  exact (raise_grows _ _ _ _).after rfl

theorem axisSource_moves (a : Nat) (s : State) : Moves runPieces a s (axisSource a s) :=
  ⟨axisSource_within _ _, abortRuns_grows _ _ _, (axisSource_freed a s).others,
    (congrArg besideMotion ((axisSource_freed a s).axis a) :)⟩

theorem limitNoted_moves (a w : Nat) (p : Int) (s : State) : Moves runPieces a s (limitNoted a w p s) :=
  (axisSource_moves _ _).fromSet rfl rfl

theorem limitStop_eq (a w : Nat) (p : Int) (s : State) :
    limitStop a w p s = if limitRamped (axisCfg s a) w then axisEnter a 4 (rampedStop a (limitNoted a w p s))
      else axisArrived a (hardStop a (limitNoted a w p s)) := rfl

/-- A limit stops a moving axis at its ramp, or at once (R304). -/
theorem limitStop_of_moving (w : Nat) (p : Int) (h : (axisOf s a).state = 2) :
    Moves runPieces a s (limitStop a w p s)
      ∧ (axisOf (limitStop a w p s) a).state = if limitRamped (axisCfg s a) w then 4 else 1 := by
  have hnoted := limitNoted_moves a w p s
  have hstate : (axisOf (limitNoted a w p s) a).state = 2 := by
    rw [limitNoted, (axisSource_freed a _).axisState, axisOf_setAxis_same]
    exact h
  rw [limitStop_eq]
  generalize limitNoted a w p s = u at hnoted hstate
  split
  · refine ⟨(hnoted.trans ((rampedStop_moves _ _).mono rfl)).trans ((axisEnter_moves _ _ _).mono rfl), ?_⟩
    rw [axisOf_axisEnter]
  · have hhard : (axisOf (hardStop a u) a).state = 2 := by
      rw [hardStop, axisOf_setAxis_same]
      exact hstate
    refine ⟨(hnoted.trans ((hardStop_moves _ _).mono rfl)).trans ((axisArrived_moves _ _).mono rfl), ?_⟩
    rw [axisArrived_of_moving hhard, axisOf_axisEnter]

/-- A limit confirmed on a moving axis (R304). -/
theorem switchConfirm_stops {w : Nat} {at_ : Time} {p : Int}
    (hcandidate : (switchOf (axisOf s a) w).candidate = some (at_, p))
    (htime : at_ + switchFilter (axisCfg s a) ≤ s.now) (hstate : (axisOf s a).state = 2) (hlimit : w ≠ 2) :
    let t := switchConfirm a w s
    OnAxis runPieces a s t ∧ (switchOf (axisOf t a) w).confirmed = true
      ∧ (axisOf t a).state = if limitRamped (axisCfg s a) w then 4 else 1 := by
  have hset := setAxis_onAxis a (confirmSwitch w (axisOf s a)) s
  have haxis : axisOf (setAxis a (confirmSwitch w (axisOf s a)) s) a = confirmSwitch w (axisOf s a) := axisOf_setAxis_same _ _ _
  have hcfg : axisCfg (setAxis a (confirmSwitch w (axisOf s a)) s) a = axisCfg s a := axisCfg_congr rfl a
  dsimp only
  rw [switchConfirm_of_moving hcandidate htime hstate hlimit]
  generalize setAxis a (confirmSwitch w (axisOf s a)) s = u at hset haxis hcfg
  obtain ⟨hmoves, hstop⟩ := limitStop_of_moving (s := u) w p (by rw [haxis, confirmSwitch, state_setSwitch]; exact hstate)
  refine ⟨(hset.mono rfl).trans hmoves.onAxis, ?_, hcfg ▸ hstop⟩
  rw [switchOf_of_besideMotion hmoves.axis, haxis, confirmSwitch, switchOf_setSwitch]

/-- A level that a switch takes, with its candidate or without (R303). -/
theorem switchEdge_of_active {w : Nat} {high : Bool} (hlevel : (switchOf (axisOf s a) w).level = false)
    (hconfirmed : (switchOf (axisOf s a) w).confirmed = false)
    (hactive : (high != bit (u8 (axisCfg s a) 14) (if w = 2 then 3 else 4)) = true) :
    switchEdge a w high s = setAxis a (setSwitch w { switchOf (axisOf s a) w with
      level := true, candidate := some (s.now, feedbackAt s a s.now) } (axisOf s a)) s := by
  unfold switchEdge
  dsimp only
  rw [hactive, hlevel, hconfirmed]
  rfl

theorem switchEdge_of_inactive {w : Nat} {high : Bool} (hlevel : (switchOf (axisOf s a) w).level = true)
    (hactive : (high != bit (u8 (axisCfg s a) 14) (if w = 2 then 3 else 4)) = false) :
    ∃ k, switchEdge a w high s = setAxis a (setSwitch w { switchOf (axisOf s a) w with
      level := false, candidate := none, inactive := s.now } k) s := by
  unfold switchEdge
  dsimp only
  rw [hactive, hlevel]
  exact ⟨_, rfl⟩

theorem switchRelease_of_due {w : Nat} (hconfirmed : (switchOf (axisOf s a) w).confirmed = true)
    (hlevel : (switchOf (axisOf s a) w).level = false)
    (htime : (switchOf (axisOf s a) w).inactive + switchFilter (axisCfg s a) ≤ s.now) :
    switchRelease a w s
      = setAxis a (setSwitch w { switchOf (axisOf s a) w with confirmed := false } (axisOf s a)) s :=
  if_pos (by simp [hconfirmed, hlevel, htime])

/-- Homing that has travelled its search limit fails and stops (R307). -/
theorem homingSearchLimit_of_far (hstate : (axisOf s a).state = 3)
    (hhoming : (axisOf s a).homing = 1 ∨ (axisOf s a).homing = 2)
    (hfar : (u32 (axisCfg s a) 60 : Int) * unit32 ≤ (((axisOf s a).pos - (axisOf s a).searchFrom).natAbs : Int)) :
    let t := homingSearchLimit a s
    Within [.axs] s t ∧ (axisOf t a).homing = 5 ∧ (axisOf t a).homeFail = 1 ∧ (axisOf t a).referenced = false
      ∧ (axisOf t a).goal = 2 := by
  have hstep : homingSearchLimit a s
      = rampedStop a (setAxis a { axisOf s a with homing := 5, homeFail := 1, referenced := false } s) :=
    if_pos ⟨hstate, hhoming, hfar⟩
  dsimp only
  rw [hstep]
  refine ⟨(setAxis_within _ _ _).trans (rampedStop_moves _ _).within, ?_⟩
  rw [rampedStop, axisOf_setAxis_same, axisOf_setAxis_same]
  exact ⟨rfl, rfl, rfl, rfl⟩

/-- A stalled axis is at a stand in FAULT, and the run that used it ends (R305). -/
theorem axisStall_of_due {at_ : Time} (hsince : (axisOf s a).stallSince = some at_) (hrun : (axisOf s a).state ≠ 0)
    (hfault : (axisOf s a).state ≠ 5) (htime : at_ + u8 (axisCfg s a) 70 * tpMs ≤ s.now) :
    let t := axisStall a s
    Moves runPieces a s t ∧ (axisOf t a).state = 5 ∧ 13 ∈ (axisOf t a).causes ∧ (axisOf t a).vel = 0 := by
  obtain ⟨d, hstep⟩ : ∃ d, axisStall a s = axisSource a (axisFault a 13 (raise 0x3E01 0x0E d s)) := by
    unfold axisStall
    dsimp only
    rw [hsince]
    exact ⟨_, if_neg (not_or.2 ⟨hrun, not_or.2 ⟨hfault, Nat.not_lt.2 htime⟩⟩)⟩
  have hraise := raise_moves 0x3E01 0x0E d s a
  have haxis := axisOf_raise 0x3E01 0x0E d s a
  dsimp only
  rw [hstep]
  generalize raise 0x3E01 0x0E d s = u at hraise haxis
  obtain ⟨hstate, hcause, hvel⟩ := axisOf_axisFault a 13 u
  have hfree := (axisSource_freed a (axisFault a 13 u)).axis a
  refine ⟨((hraise.trans (axisFault_moves _ _ _)).mono rfl).trans (axisSource_moves _ _), (congrArg Axis.state hfree).trans hstate,
    (congrArg Axis.causes hfree : _) ▸ hcause, (congrArg Axis.vel hfree).trans (hvel ?_)⟩
  rw [haxis]
  exact hfault

/-! Set-point frames (R294 to R296) -/

/-- The axis moves in the states in which its generator runs. -/
def moving (k : Axis) : Bool := decide (k.state = 2) || decide (k.state = 3) || decide (k.state = 4)

theorem moving_of_motion {k : Axis} (h : k.state = 2 ∨ k.state = 3 ∨ k.state = 4) : moving k = true := by
  simpa [moving, or_assoc] using h

theorem not_moving_of_rest {k : Axis} (h : k.state = 0 ∨ k.state = 1 ∨ k.state = 5) : moving k = false := by
  simp only [moving, Bool.or_eq_false_iff, decide_eq_false_iff_not]
  omega

/-- What a frame does to an axis before it leaves. -/
def frameMotion (a : Nat) (s : State) : State :=
  let u := if moving (axisOf s a) then advanceAxis a s else s
  settleHold a (if moving (axisOf s a) && atRest (axisOf u a) then axisArrived a u else u)

theorem axisFrame_eq (a : Nat) (s : State) :
    axisFrame a s = if !(axisOf s a).frames then s else noteFollow a (sendFrame a (frameMotion a s)) := rfl

theorem frameMotion_onAxis (a : Nat) (s : State) :
    OnAxis (.axs :: eventPieces) a s (frameMotion a s)
      ∧ (axisOf (frameMotion a s) a).frameCount = (axisOf s a).frameCount
      ∧ (axisOf (frameMotion a s) a).pos = if moving (axisOf s a) then
          (axisOf s a).pos + (generate (axisCfg s a) (axisOf s a)).x else (axisOf s a).pos := by
  unfold frameMotion
  by_cases h : moving (axisOf s a) = true
  · rw [if_pos h, if_pos h]
    have hmove : OnAxis (.axs :: eventPieces) a s (advanceAxis a s) := (setAxis_onAxis _ _ _).mono rfl
    have haxis : axisOf (advanceAxis a s) a = _ := axisOf_setAxis_same _ _ _
    have hrest : Moves (.axs :: eventPieces) a (advanceAxis a s)
        (settleHold a (if moving (axisOf s a) && atRest (axisOf (advanceAxis a s) a) then axisArrived a (advanceAxis a s)
          else advanceAxis a s)) :=
      .trans (.ite (axisArrived_moves _ _) (.refl _ _ _)) ((settleHold_moves _ _).mono rfl)
    refine ⟨hmove.trans hrest.onAxis, (congrArg Axis.frameCount hrest.axis).trans ?_, (congrArg Axis.pos hrest.axis).trans ?_⟩
    all_goals
      rw [haxis]
      rfl
  · have hhold := settleHold_moves a s
    simp only [h, if_false, Bool.false_and, Bool.false_eq_true]
    exact ⟨(hhold.mono rfl).onAxis, (congrArg Axis.frameCount hhold.axis :), (congrArg Axis.pos hhold.axis :)⟩

theorem sendFrame_eq (a : Nat) (s : State) : ∃ w v, sendFrame a s = send (.setpoint a w) (setAxis a v s)
    ∧ v.frameCount = (axisOf s a).frameCount + 1 ∧ v.frameTime = s.now ∧ v.pos = (axisOf s a).pos :=
  ⟨_, _, rfl, rfl, rfl, rfl⟩

/-- An axis whose frames are sent has had its part of a set-point frame. -/
def Framed (a : Nat) (s t : State) : Prop :=
  (axisOf t a).frameCount = (axisOf s a).frameCount + 1 ∧ (axisOf t a).frameTime = s.now
    ∧ (axisOf t a).pos = (if moving (axisOf s a) then (axisOf s a).pos + (generate (axisCfg s a) (axisOf s a)).x
        else (axisOf s a).pos)
    ∧ ∃ w, Output.setpoint a w ∈ sent s t

theorem axisFrame_of_frames (h : (axisOf s a).frames = true) :
    let t := axisFrame a s
    OnAxis (.axs :: eventPieces) a s t ∧ Framed a s t := by
  have hstep : axisFrame a s = noteFollow a (sendFrame a (frameMotion a s)) := by rw [axisFrame_eq, h]; rfl
  obtain ⟨hmotion, hcount, hpos⟩ := frameMotion_onAxis a s
  dsimp only
  rw [hstep, Framed, ← hpos, ← hcount, ← hmotion.within.now]
  generalize frameMotion a s = u at hmotion
  obtain ⟨w, v, hsend, hv, htime, hplace⟩ := sendFrame_eq a u
  rw [hsend]
  have hset := (setAxis_onAxis a v u).mono (l' := .axs :: eventPieces) rfl
  have hleave : OnAxis (.axs :: eventPieces) a (setAxis a v u) (send (.setpoint a w) (setAxis a v u)) :=
    ⟨(send_within _ _).mono rfl, send_grows _ _, fun _ _ => rfl⟩
  have hfollow := noteFollow_moves a (send (.setpoint a w) (setAxis a v u))
  obtain ⟨x, hx⟩ := axisOf_noteFollow a (send (.setpoint a w) (setAxis a v u))
  have haxis : axisOf (send (.setpoint a w) (setAxis a v u)) a = v := axisOf_setAxis_same _ _ _
  rw [haxis] at hx
  refine ⟨((hmotion.trans hset).trans hleave).trans (hfollow.mono rfl).onAxis, ?_, ?_, ?_, w,
    mem_sent (hmotion.trans hset).grows hfollow.grows⟩
  · rw [hx]
    exact hv
  · rw [hx]
    exact htime
  · rw [hx]
    exact hplace

theorem axisFrame_onAxis (a : Nat) (s : State) : OnAxis (.axs :: eventPieces) a s (axisFrame a s) := by
  by_cases h : (axisOf s a).frames = true
  · exact (axisFrame_of_frames h).1
  · rw [axisFrame_eq, if_pos (by simp [h])]
    exact (Moves.refl _ a s).onAxis

/-- A set-point frame has every axis's part, each of the registers it found (R294). -/
theorem setpointFrame_of_instant {a : Fin 2} (hinstant : s.now % (16 * tpUs) = 0)
    (h : (axisOf s a.val).frames = true) :
    Within (.axs :: eventPieces) s (setpointFrame s) ∧ Framed a.val s (setpointFrame s) := by
  have hstep : setpointFrame s = axisFrame 1 (axisFrame 0 s) := if_pos (decide_eq_true hinstant)
  have hfirst := axisFrame_onAxis 0 s
  have hsecond := axisFrame_onAxis 1 (axisFrame 0 s)
  rw [hstep]
  refine ⟨hfirst.within.trans hsecond.within, ?_⟩
  obtain ha | ha : a.val = 0 ∨ a.val = 1 := by omega
  all_goals rw [ha] at h ⊢
  · obtain ⟨-, hcount, htime, hpos, w, hw⟩ := axisFrame_of_frames h
    rw [Framed, hsecond.others 0 (by omega)]
    exact ⟨hcount, htime, hpos, w, sent_grows hfirst.grows hsecond.grows hw⟩
  · have haxis : axisOf (axisFrame 0 s) 1 = axisOf s 1 := hfirst.others 1 (by omega)
    obtain ⟨-, hcount, htime, hpos, w, hw⟩ := axisFrame_of_frames (s := axisFrame 0 s) (a := 1) (by rw [haxis]; exact h)
    rw [haxis, axisCfg_congr (hfirst.within.keeps .settings rfl)] at hpos
    exact ⟨haxis ▸ hcount, htime.trans hfirst.within.now, hpos, w, mem_sent_after hfirst.grows hsecond.grows hw⟩

theorem noteFeedback_of_noRuns (h : s.cal.runs = []) : noteFeedback s = s := by
  simp only [noteFeedback, h, List.find?_nil]

theorem setpointFrame_within (s : State) : Within (.axs :: eventPieces) s (setpointFrame s) :=
  .ite ((axisFrame_onAxis 0 s).within.trans (axisFrame_onAxis 1 _).within) (.refl _ s)

/-- With no calibration run in the table a set-point frame is all that its row does. -/
theorem setpointRow_of_noRuns (h : s.cal.runs = []) :
    (if frameInstant s.now then noteFeedback (setpointFrame s) else s) = setpointFrame s := by
  split
  · exact noteFeedback_of_noRuns ((congrArg Cal.runs ((setpointFrame_within s).keeps .cal rfl)).trans h)
  · next hinstant => exact (if_neg hinstant).symm

/-- A step of a calm block after which CAL goes on, where the frame of its operation is known. -/
theorem Within.runsCal {l : List Piece} {t0 : Time} {f : State → State} {P : State → Prop}
    (h : Within l (advance t0 s) (f (advance t0 s))) (hcalm : Calm s) (hidle : l.contains .idle = false)
    (hP : P (f (advance t0 s))) : Runs (atCal t0 f s) P := by
  obtain ⟨hruns, hspare⟩ := h.keeps .idle hidle hcalm.noRuns hcalm.steady.noSpare
  have hstill := calStep_of_noRuns hruns hspare
  exact runs_atPrint hcalm.steady (by rwa [hstill, h.keepQueue_eq])

/-- The step of a set-point frame in a calm block. -/
theorem runs_setpointFrame {t0 : Time} {P : State → Prop} (hcalm : Calm s) (hP : P (setpointFrame (advance t0 s))) :
    Runs (exec (.setpointFrame t0) s) P := by
  have hrow := setpointRow_of_noRuns (s := advance t0 s) hcalm.noRuns
  have hwithin := setpointFrame_within (advance t0 s)
  rw [← hrow] at hP hwithin
  exact Within.runsCal (f := fun s => if frameInstant s.now then noteFeedback (setpointFrame s) else s) hwithin hcalm rfl hP

end Sys2Proof.Machine.Laws

namespace Sys2Proof.Machine.Proofs
open Sys2Proof.Machine Sys2Proof.Machine.Laws

/-- Settles O45: each frame, input, cause and switch by the branch it takes. -/
theorem axisRows : Obligations.AxisRows := by
  refine ⟨fun t0 a s hcalm hinstant hframes => ?frame, fun t0 s hcalm hinstant => ?noFrame,
    fun t0 a rev s halive hinput => ?count, fun t0 a s halive hinput => ?invalid,
    fun t0 a s halive hinput hstate hhoming => ?index, fun t0 a ok l v s halive hinput hread => ?read,
    fun t0 a ok l k s halive hinput hread => ?readFails, fun t0 a s halive hrun hnew => ?fault,
    fun t0 a k u s halive hkind honly htime => ?clear, fun t0 a w high s halive hlevel hconfirmed hactive => ?edge,
    fun t0 a w high s halive hlevel hactive => ?edgeOut, fun t0 a w u p s halive hlimit hstate hcandidate htime => ?limit,
    fun t0 a w u p s halive hstate hcandidate htime => ?confirm, fun t0 a w s halive hconfirmed hlevel htime => ?release,
    fun t0 a u s halive hsince hrun hfault htime => ?stall, fun t0 a s halive hstate hhoming hfar => ?search,
    fun t0 a s halive hvel htime => ?hold⟩
  case frame =>
    obtain ⟨hwithin, hcount, htime, hpos, hsent⟩ := setpointFrame_of_instant (s := advance t0 s) hinstant hframes
    refine runs_setpointFrame hcalm ⟨hcount, htime, fun hstate => ?_, fun hstate => ?_, hsent, hwithin.only rfl⟩
    · exact hpos.trans (if_pos (moving_of_motion hstate))
    · exact hpos.trans (if_neg (ne_true_of_eq_false (not_moving_of_rest hstate)))
  case noFrame =>
    have hstep : setpointFrame (advance t0 s) = advance t0 s := if_neg (ne_true_of_eq_false (decide_eq_false hinstant))
    have hwithin : Within [] (advance t0 s) (setpointFrame (advance t0 s)) := hstep.symm ▸ .refl _ _
    exact runs_setpointFrame hcalm (hwithin.only rfl)
  case count =>
    have hstep := axisFeedback_of_count (s := advance t0 s) (a := a.val) (reverse := rev) hinput
    have hon : OnAxis [.axs] a.val (advance t0 s) (axisFeedback a.val (.count rev) (advance t0 s)) :=
      hstep ▸ (setAxis_onAxis _ _ _).trans (noteFollow_moves _ _).onAxis
    refine hon.within.runs halive ?_
    obtain ⟨x, hx⟩ := axisOf_noteFollow a.val (setAxis a.val { axisOf s a.val with
      fb := (axisOf s a.val).fb + (if rev != bit (u8 (axisCfg s a.val) 1) 1 then -1 else 1) } (advance t0 s))
    rw [axisOf_setAxis_same] at hx
    have haxis : axisOf (axisFeedback a.val (.count rev) (advance t0 s)) a.val = _ := hstep ▸ hx
    rw [haxis]
    exact ⟨rfl, rfl, hon.others, hon.within.only rfl⟩
  case invalid =>
    obtain ⟨hon, hinputs⟩ := axisFeedback_of_invalid (s := advance t0 s) (a := a.val) hinput
    exact hon.within.runs halive ⟨(congrArg Axis.quadErr hinputs :), (congrArg Axis.fb hinputs :), hon.others, hon.within.only rfl⟩
  case index =>
    have hstep := axisFeedback_of_index (s := advance t0 s) (a := a.val) hinput hstate hhoming
    have hon : OnAxis [.axs] a.val (advance t0 s) (axisFeedback a.val .index (advance t0 s)) :=
      hstep ▸ (benchmarkFound_onAxis _ _ _).trans (rampedStop_moves _ _).onAxis
    obtain ⟨hhoming, hreferenced, hbench, hfb, hgoal⟩ := axisOf_benchmarkFound_rampedStop a.val (advance t0 s)
    rw [← hstep] at hhoming hreferenced hbench hfb hgoal
    exact hon.within.runs halive ⟨hhoming, hreferenced, hbench, hfb, hgoal, hon.within.only rfl⟩
  case read =>
    have hstep := ssiRead_of_ok (s := advance t0 s) (a := a.val) hinput hread
    have hon : OnAxis [.axs] a.val (advance t0 s) (ssiRead a.val ok l (advance t0 s)) :=
      hstep ▸ (setAxis_onAxis _ _ _).trans (noteFollow_moves _ _).onAxis
    refine hon.within.runs halive ?_
    obtain ⟨x, hx⟩ := axisOf_noteFollow a.val (setAxis a.val (readTaken (advance t0 s).now (v + (axisOf s a.val).offset)
      (axisOf s a.val)) (advance t0 s))
    rw [axisOf_setAxis_same] at hx
    have haxis : axisOf (ssiRead a.val ok l (advance t0 s)) a.val = _ := hstep ▸ hx
    rw [haxis]
    exact ⟨rfl, rfl, rfl, hon.others, hon.within.only rfl⟩
  case readFails =>
    obtain ⟨hon, herr, hgood, hcause⟩ := ssiRead_of_error (s := advance t0 s) (a := a.val) hinput hread
    exact hon.within.runs halive ⟨herr, hgood, hcause, hon.others, hon.within.only rfl⟩
  case fault =>
    obtain ⟨hon, -, -⟩ := feedbackFault_onAxis a.val 8 (advance t0 s)
    obtain ⟨hstate, hcause, hpresent⟩ := feedbackFault_of_new (s := advance t0 s) (a := a.val) (cause := 8) hrun hnew
    exact Within.runs (f := feedbackFaultRow a.val 0) hon.within halive
      ⟨hstate, hcause, hpresent, hon.others, hon.within.only rfl⟩
  case clear =>
    obtain ⟨r, hstep⟩ := feedbackClear_of_valid (s := advance t0 s) (a := a.val) hkind honly htime
    have hon : OnAxis [.axs] a.val (advance t0 s) (feedbackClear a.val k.val (advance t0 s)) :=
      hstep ▸ setAxis_onAxis _ _ _
    refine hon.within.runs halive ?_
    have haxis : axisOf (feedbackClear a.val k.val (advance t0 s)) a.val = _ := hstep ▸ axisOf_setAxis_same _ _ _
    rw [haxis]
    exact ⟨rfl, rfl, rfl, hon.within.only rfl⟩
  case edge =>
    have hstep := switchEdge_of_active (s := advance t0 s) (a := a.val) hlevel hconfirmed hactive
    have hwithin : Within [.axs] (advance t0 s) (switchEdge a.val w.val high (advance t0 s)) := hstep ▸ setAxis_within _ _ _
    have haxis : axisOf (switchEdge a.val w.val high (advance t0 s)) a.val = _ := hstep ▸ axisOf_setAxis_same _ _ _
    refine hwithin.runs halive ?_
    rw [haxis, switchOf_setSwitch]
    exact ⟨rfl, rfl, hwithin.only rfl⟩
  case edgeOut =>
    obtain ⟨k, hstep⟩ := switchEdge_of_inactive (s := advance t0 s) (a := a.val) hlevel hactive
    have hwithin : Within [.axs] (advance t0 s) (switchEdge a.val w.val high (advance t0 s)) := hstep ▸ setAxis_within _ _ _
    have haxis : axisOf (switchEdge a.val w.val high (advance t0 s)) a.val = _ := hstep ▸ axisOf_setAxis_same _ _ _
    refine hwithin.runs halive ?_
    rw [haxis, switchOf_setSwitch]
    exact ⟨rfl, rfl, rfl, hwithin.only rfl⟩
  case limit =>
    obtain ⟨hon, hconfirmed, hstate⟩ := switchConfirm_stops (s := advance t0 s) (a := a.val) hcandidate htime hstate hlimit
    exact hon.within.runs halive ⟨hconfirmed, hstate, hon.others⟩
  case confirm =>
    have hstep := switchConfirm_of_idle (s := advance t0 s) (a := a.val) hcandidate htime hstate
    have hon : OnAxis [.axs] a.val (advance t0 s) (switchConfirm a.val w.val (advance t0 s)) :=
      hstep ▸ setAxis_onAxis _ _ _
    refine hon.within.runs halive ?_
    have haxis : axisOf (switchConfirm a.val w.val (advance t0 s)) a.val = _ := hstep ▸ axisOf_setAxis_same _ _ _
    rw [haxis, confirmSwitch, switchOf_setSwitch, state_setSwitch]
    exact ⟨rfl, rfl, hstate, hon.within.only rfl⟩
  case release =>
    have hstep := switchRelease_of_due (s := advance t0 s) (a := a.val) hconfirmed hlevel htime
    have hwithin : Within [.axs] (advance t0 s) (switchRelease a.val w.val (advance t0 s)) := hstep ▸ setAxis_within _ _ _
    have haxis : axisOf (switchRelease a.val w.val (advance t0 s)) a.val = _ := hstep ▸ axisOf_setAxis_same _ _ _
    refine hwithin.runs halive ?_
    rw [haxis, switchOf_setSwitch]
    exact ⟨rfl, hwithin.only rfl⟩
  case stall =>
    obtain ⟨hmoves, hstate, hcause, hvel⟩ := axisStall_of_due (s := advance t0 s) (a := a.val) hsince hrun hfault htime
    exact hmoves.within.runs halive ⟨hstate, hcause, hvel, hmoves.others⟩
  case search =>
    obtain ⟨hwithin, hhoming, hfail, hreferenced, hgoal⟩ :=
      homingSearchLimit_of_far (s := advance t0 s) (a := a.val) hstate hhoming hfar
    exact hwithin.runs halive ⟨hhoming, hfail, hreferenced, hgoal, hwithin.only rfl⟩
  case hold =>
    have hstep : settleHold a.val (advance t0 s) = setAxis a.val { axisOf s a.val with holdNow := true } (advance t0 s) :=
      if_pos ⟨hvel, htime⟩
    have hwithin : Within [.axs] (advance t0 s) (settleHold a.val (advance t0 s)) := (settleHold_moves _ _).within
    exact hwithin.runs halive ⟨by rw [hstep, axisOf_setAxis_same], hwithin.only rfl⟩

end Sys2Proof.Machine.Proofs
end

section
/-! SUPPORT. The table of calibration runs: triggers, the timeout, and runs with which CAL has nothing to do (R266, R268,
R308). -/
namespace Sys2Proof.Machine.Laws
open Sys2Proof.Machine

variable {s t u : State}

/-! What CAL does after a step -/

/-- CAL has nothing to do where the run in a pass makes no progress, none is ACCEPTED, and none starts. -/
theorem calStep_of_still (hprogress : progressOnce s = s) (haccepted : ∀ r ∈ s.cal.runs, r.state ≠ 5)
    (hspare : s.cal.spareHome = none) (hstart : startNext s = s) : calStep s = s := by
  have hnone : acceptedRuns s (fun r => (r.type == 1 || r.type == 10) && r.boundary.isNone) = [] :=
    List.filter_eq_nil_iff.2 fun r hr => by simp [haccepted r hr]
  have hfix : fixBoundaries s = s := by
    rw [fixBoundaries, hnone]
    rfl
  have hsettle : spareSettle s = s := by simp only [spareSettle, hspare]
  rw [calStep, hprogress, hfix, hsettle, hstart, hprogress]

/-- No run in the table is to be followed any more. -/
theorem calStep_of_final (hfinal : ∀ r ∈ s.cal.runs, 6 ≤ r.state) (hspare : s.cal.spareHome = none) : calStep s = s := by
  refine calStep_of_still ?_ (fun r hr => by have := hfinal r hr; omega) hspare ?_
  · have hpass : s.cal.runs.find? inPass = none := List.find?_eq_none.2 fun r hr => by
      have := hfinal r hr
      simp only [inPass, Bool.or_eq_true, beq_iff_eq]
      omega
    rw [progressOnce, hpass]
  · have hnext : s.cal.runs.find? (fun r => decide (r.state ≤ 1) && modeAdmits s r.type) = none :=
      List.find?_eq_none.2 fun r hr => by
        have := hfinal r hr
        simp only [Bool.and_eq_true, decide_eq_true_eq]
        omega
    rw [startNext, hnext, ite_self]

/-! The timeout (R266) -/

theorem freeTarget_cal (r : CalRun) (s : State) : (freeTarget r s).cal = s.cal := (freeTarget_within r s).keeps .cal rfl

theorem failRun_cal (state reason : Nat) (r : CalRun) (s : State) :
    (failRun state reason r s).cal
      = { (finalRun { r with state := state, reason := reason } s).cal with failed := satInc 16 s.cal.failed } := by
  rw [failRun, raise_cal, finalRun, freeTarget_cal]

/-- The only run of the table, ended. -/
theorem failRun_cal_of_only {state reason : Nat} {r : CalRun} (h : s.cal.runs = [r]) :
    (failRun state reason r s).cal = { s.cal with
      runs := [{ r with state := state, reason := reason, final := s.cal.finals + 1 }], finals := s.cal.finals + 1,
      failed := satInc 16 s.cal.failed } := by
  rw [failRun_cal, finalRun, freeTarget_cal, h]
  simp

theorem runTimeout_of_due {r : CalRun} (h : s.cal.runs = [r]) (hfrom : 2 ≤ r.state) (hto : r.state ≤ 4)
    (htime : r.started + u16 r.policy 2 * tpS ≤ s.now) : runTimeout s = failRun 8 4 r s := by
  simp [runTimeout, h, hfrom, hto, htime, each]

/-! AXIS_SCALE (R308) -/

theorem setRun_of_only {r r' : CalRun} (h : s.cal.runs = [r]) (hid : r'.id = r.id) :
    setRun r' s = { s with cal := { s.cal with runs := [r'] } } := by
  simp [setRun, h, hid]

/-- The run once the position it read stands for the average. -/
def scaleRead (p : Int) (r : CalRun) : CalRun := { r with sumB := p, numB := 1, step := 6, seen := true }

theorem scaleSettle_of_second {a : Nat} {r : CalRun} (h : s.cal.runs = [r]) (hpass : inPass r = true) (htype : r.type = 4)
    (htarget : r.target = a) (hstep : r.step = 5) (hnone : r.numB = 0) (htime : r.stepAt + 110 * tpMs ≤ s.now) :
    scaleSettle a s = wantReference (scaleRead (feedbackAt s a s.now) r)
      { s with cal := { s.cal with runs := [scaleRead (feedbackAt s a s.now) r] } } := by
  have hfind : s.cal.runs.find? (fun r => inPass r && r.type == 4 && r.target == a) = some r := by
    simp [h, hpass, htype, htarget]
  have hset := setRun_of_only (r' := scaleRead (feedbackAt s a s.now) r) h rfl
  rw [← hset]
  unfold scaleSettle
  rw [hfind]
  simp [hstep, hnone, htime, scaleRead]

/-- An AXIS_SCALE pass whose positions are read waits for its reference. -/
theorem calStep_of_waiting {r : CalRun} (h : s.cal.runs = [r]) (hpass : inPass r = true) (htype : r.type = 4)
    (hstep : r.step = 6) (href : r.ref = none) (hspare : s.cal.spareHome = none) : calStep s = s := by
  have hstate : r.state = 2 ∨ r.state = 3 := by simpa [inPass] using hpass
  refine calStep_of_still ?_ (fun x hx => ?_) hspare ?_
  · simp [progressOnce, h, hpass, runProgress, htype, href, scaleProgress, hstep]
  · rw [h, List.mem_singleton] at hx
    rw [hx]
    omega
  · have hactive : calActive s = true := by
      simp only [calActive, h, List.any_cons, List.any_nil, Bool.or_false, decide_eq_true_eq]
      omega
    rw [startNext, if_pos hactive]

/-! Triggers (R268) -/

/-- What a trigger reads of the registers. -/
def triggerView (s : State) : State := { cfg := s.cfg, thm := s.thm, hlk := s.hlk, cal := { temps := s.cal.temps } }

theorem dueMoved_eq (s : State) (e : Nat × Nat) : dueMoved s e.1 e.2 = dueMoved (triggerView s) e.1 e.2 := rfl

theorem dueMoved_congr (h : triggerView t = triggerView s) (e : Nat × Nat) : dueMoved t e.1 e.2 = dueMoved s e.1 e.2 := by
  rw [dueMoved_eq, h, ← dueMoved_eq]

/-- The runs of the table wait to start. -/
def AllWait (s : State) : Prop := ∀ r ∈ s.cal.runs, r.state ≤ 1

/-- What a trigger check leaves: the frame, the temperatures of the corrections, the spare encoder, and a table whose runs
wait. -/
structure Checked (s t : State) : Prop where
  within : Within (.cal :: .idle :: eventPieces) s t
  temps : t.cal.temps = s.cal.temps
  spare : t.cal.spareHome = s.cal.spareHome
  wait : AllWait s → AllWait t
  runs : s.cal.runs ≠ [] → t.cal.runs ≠ []

theorem Checked.refl (s : State) : Checked s s := ⟨.refl _ s, rfl, rfl, id, id⟩

theorem Checked.trans (hst : Checked s t) (htu : Checked t u) : Checked s u :=
  ⟨hst.within.trans htu.within, htu.temps.trans hst.temps, htu.spare.trans hst.spare, htu.wait ∘ hst.wait, htu.runs ∘ hst.runs⟩

theorem Checked.view (h : Checked s t) : triggerView t = triggerView s := by
  rw [triggerView, h.within.keeps .settings rfl, h.within.thm_eq rfl rfl, h.within.hlk_eq rfl rfl rfl, h.temps, triggerView]

/-- A change of what is due alone. -/
theorem checked_due (l : List (Nat × Nat)) (s : State) : Checked s { s with cal := { s.cal with due := l } } :=
  ⟨.of_patch rfl, rfl, rfl, id, id⟩

theorem raise_checked (code block : Nat) (detail : Bytes) (s : State) : Checked s (raise code block detail s) := by
  have hcal := raise_cal code block detail s
  exact ⟨(raise_within _ _ _ _).mono rfl, by rw [hcal], by rw [hcal], fun h => by rwa [AllWait, hcal], fun h => by rwa [hcal]⟩

theorem evictRun_eq (s : State) :
    ∃ l, (∀ r ∈ l, r ∈ s.cal.runs) ∧ evictRun s = { s with cal := { s.cal with runs := l } } := by
  unfold evictRun
  dsimp only
  split
  · exact ⟨_, fun r hr => (List.mem_filter.1 hr).1, rfl⟩
  · exact ⟨s.cal.runs, fun r hr => hr, rfl⟩

theorem queueRun_eq (r : CalRun) (s : State) :
    ∃ l n, (∀ x ∈ l, x ∈ s.cal.runs) ∧ queueRun r s = { s with cal := { s.cal with
      runs := l ++ [{ r with id := s.cal.nextId }], nextId := n } } := by
  obtain ⟨l, hl, hevict⟩ := evictRun_eq s
  by_cases h : s.cal.runs.length < 64
  · exact ⟨s.cal.runs, if s.cal.nextId = 65535 then 1 else s.cal.nextId + 1, fun x hx => hx, by rw [queueRun, if_pos h]⟩
  · exact ⟨l, if s.cal.nextId = 65535 then 1 else s.cal.nextId + 1, hl, by rw [queueRun, if_neg h, hevict]⟩

/-- A run enters the table of a type and target that is due (R268). -/
def queueDue (e : Nat × Nat) (s : State) : State :=
  if hasOpenRun s e.1 e.2 || decide (64 ≤ (openRuns s).length) then s
  else queueRun { id := 0, type := e.1, target := e.2 } s

theorem queueDue_checked (e : Nat × Nat) (s : State) : Checked s (queueDue e s) := by
  obtain ⟨l, n, hl, hqueue⟩ := queueRun_eq { id := 0, type := e.1, target := e.2 } s
  unfold queueDue
  split
  · exact .refl s
  · rw [hqueue]
    refine ⟨.of_patch rfl, rfl, rfl, fun h r hr => ?_, fun _ => List.append_ne_nil_of_right_ne_nil _ (List.cons_ne_nil _ _)⟩
    obtain hr | hr := List.mem_append.1 hr
    · exact h r (hl r hr)
    · rw [List.mem_singleton.1 hr]
      exact Nat.zero_le 1

theorem queueDue_due (e : Nat × Nat) (s : State) : (queueDue e s).cal.due = s.cal.due := by
  obtain ⟨l, n, -, hqueue⟩ := queueRun_eq { id := 0, type := e.1, target := e.2 } s
  unfold queueDue
  split
  · rfl
  · rw [hqueue]

/-- A type and target that is due has a run in the table, or the table is full of open runs. -/
theorem queueDue_runs (e : Nat × Nat) (s : State) : (queueDue e s).cal.runs ≠ [] := by
  obtain ⟨l, n, -, hqueue⟩ := queueRun_eq { id := 0, type := e.1, target := e.2 } s
  unfold queueDue
  split
  · next hopen =>
    intro hnone
    simp [hasOpenRun, openRuns, hnone] at hopen
  · rw [hqueue]
    exact List.append_ne_nil_of_right_ne_nil _ (List.cons_ne_nil _ _)

/-- What is due, with one type and target more if it is new. -/
def markDue (e : Nat × Nat) (l : List (Nat × Nat)) : List (Nat × Nat) := if !l.contains e then l ++ [e] else l

theorem mem_markDue (e : Nat × Nat) (l : List (Nat × Nat)) : e ∈ markDue e l := by
  unfold markDue
  split
  · exact List.mem_append_right _ (List.mem_singleton_self e)
  · next h => simpa using h

theorem mem_markDue_of_mem {e d : Nat × Nat} {l : List (Nat × Nat)} (h : d ∈ l) : d ∈ markDue e l := by
  unfold markDue
  split
  · exact List.mem_append_left _ h
  · exact h

theorem triggerOne_of_due {e : Nat × Nat} {m : Int} (h : dueMoved s e.1 e.2 = some m) :
    ∃ u, Checked s u ∧ u.cal.due = markDue e s.cal.due ∧ triggerOne s e = queueDue e u := by
  have hmark : (if !s.cal.due.contains e then { s with cal := { s.cal with due := s.cal.due ++ [e] } } else s)
      = { s with cal := { s.cal with due := markDue e s.cal.due } } := by
    unfold markDue
    split <;> rfl
  unfold triggerOne
  rw [h]
  dsimp only
  rw [hmark]
  generalize hfresh : (!s.cal.due.contains e) = fresh
  have hdue := checked_due (markDue e s.cal.due) s
  split
  · exact ⟨_, hdue.trans (raise_checked _ _ _ _), by rw [raise_cal], rfl⟩
  · exact ⟨_, hdue, rfl, rfl⟩

theorem triggerOne_of_notDue {e : Nat × Nat} (h : dueMoved s e.1 e.2 = none) :
    triggerOne s e = { s with cal := { s.cal with due := s.cal.due.filter fun d => d ≠ e } } := by
  unfold triggerOne
  rw [h]

theorem triggerOne_checked (s : State) (e : Nat × Nat) : Checked s (triggerOne s e) := by
  cases h : dueMoved s e.1 e.2 with
  | none =>
    rw [triggerOne_of_notDue h]
    exact checked_due _ s
  | some m =>
    obtain ⟨u, hu, -, hstep⟩ := triggerOne_of_due h
    rw [hstep]
    exact hu.trans (queueDue_checked _ _)

theorem triggerOne_keeps {d : Nat × Nat} (e : Nat × Nat) (hdue : dueMoved s d.1 d.2 ≠ none) (h : d ∈ s.cal.due) :
    d ∈ (triggerOne s e).cal.due := by
  cases hmoved : dueMoved s e.1 e.2 with
  | none =>
    rw [triggerOne_of_notDue hmoved]
    exact List.mem_filter.2 ⟨h, decide_eq_true fun he => hdue (he ▸ hmoved)⟩
  | some m =>
    obtain ⟨u, -, hu, hstep⟩ := triggerOne_of_due hmoved
    rw [hstep, queueDue_due, hu]
    exact mem_markDue_of_mem h

theorem triggerOne_takes {e : Nat × Nat} (hdue : dueMoved s e.1 e.2 ≠ none) :
    e ∈ (triggerOne s e).cal.due ∧ (triggerOne s e).cal.runs ≠ [] := by
  obtain ⟨m, hm⟩ := Option.ne_none_iff_exists'.1 hdue
  obtain ⟨u, -, hu, hstep⟩ := triggerOne_of_due hm
  rw [hstep, queueDue_due, hu]
  exact ⟨mem_markDue _ _, queueDue_runs _ _⟩

theorem triggers_checked (l : List (Nat × Nat)) (s : State) : Checked s (l.foldl triggerOne s) := by
  induction l generalizing s with
  | nil => exact .refl s
  | cons e r ih => exact (triggerOne_checked s e).trans (ih _)

theorem triggers_keep {d : Nat × Nat} (l : List (Nat × Nat)) (hdue : dueMoved s d.1 d.2 ≠ none) (h : d ∈ s.cal.due) :
    d ∈ (l.foldl triggerOne s).cal.due := by
  induction l generalizing s with
  | nil => exact h
  | cons e r ih =>
    refine ih ?_ (triggerOne_keeps e hdue h)
    rwa [dueMoved_congr (triggerOne_checked s e).view]

/-- A type and target that is due stays due over a whole check, and a run is in the table (R268). -/
theorem triggers_take {e : Nat × Nat} {l : List (Nat × Nat)} (he : e ∈ l) (hdue : dueMoved s e.1 e.2 ≠ none) :
    e ∈ (l.foldl triggerOne s).cal.due ∧ (l.foldl triggerOne s).cal.runs ≠ [] := by
  induction l generalizing s with
  | nil => exact absurd he (List.not_mem_nil)
  | cons d r ih =>
    have hdue' : dueMoved (triggerOne s d) e.1 e.2 ≠ none := by rwa [dueMoved_congr (triggerOne_checked s d).view]
    obtain rfl | her := List.mem_cons.1 he
    · obtain ⟨htaken, hruns⟩ := triggerOne_takes hdue
      exact ⟨triggers_keep r hdue' htaken, (triggers_checked r _).runs hruns⟩
    · exact ih her hdue'

/-! Runs that start (R265, R266) -/

/-- What CAL does after a trigger check leaves what is due, the size of the table, NVM and the settings. -/
structure Tended (s t : State) : Prop where
  due : t.cal.due = s.cal.due
  size : t.cal.runs.length = s.cal.runs.length
  nvm : t.nvm = s.nvm
  cfg : t.cfg = s.cfg

theorem Tended.refl (s : State) : Tended s s := ⟨rfl, rfl, rfl, rfl⟩

theorem Tended.trans (hst : Tended s t) (htu : Tended t u) : Tended s u :=
  ⟨htu.due.trans hst.due, htu.size.trans hst.size, htu.nvm.trans hst.nvm, htu.cfg.trans hst.cfg⟩

/-- The same after a record update. -/
theorem Tended.after (htu : Tended t u) (hdue : t.cal.due = s.cal.due) (hruns : t.cal.runs = s.cal.runs)
    (hnvm : t.nvm = s.nvm) (hcfg : t.cfg = s.cfg) : Tended s u :=
  .trans ⟨hdue, congrArg List.length hruns, hnvm, hcfg⟩ htu

theorem Tended.ite {c : Prop} [Decidable c] (ht : Tended s t) (hu : Tended s u) : Tended s (if c then t else u) := by
  split
  · exact ht
  · exact hu

theorem Tended.runs (h : Tended s t) (hs : s.cal.runs ≠ []) : t.cal.runs ≠ [] :=
  List.ne_nil_of_length_pos (h.size ▸ List.length_pos_iff.2 hs)

theorem Within.tended {l : List Piece} (h : Within l s t) (hcal : l.contains .cal = false) (hnvm : l.contains .nvm = false)
    (hcfg : l.contains .settings = false) : Tended s t := by
  have hkept := h.keeps .cal hcal
  exact ⟨congrArg Cal.due hkept, congrArg (fun c : Cal => c.runs.length) hkept, h.keeps .nvm hnvm, h.keeps .settings hcfg⟩

theorem setRun_tended (r : CalRun) (s : State) : Tended s (setRun r s) := ⟨rfl, List.length_map .., rfl, rfl⟩

theorem raise_tended (code block : Nat) (detail : Bytes) (s : State) : Tended s (raise code block detail s) :=
  (raise_within _ _ _ _).tended rfl rfl rfl

theorem each_setRun_tended {g : CalRun → CalRun} (l : List CalRun) (s : State) :
    Tended s (each l (fun r => setRun (g r)) s) := by
  induction l generalizing s with
  | nil => exact .refl s
  | cons r l ih => exact (setRun_tended _ _).trans (ih _)

theorem passBegin_tended (pass : Nat) (r : CalRun) (s : State) : Tended s (passBegin pass r s) :=
  (setRun_tended _ s).trans (.ite (raise_tended _ _ _ _) (.refl _))

theorem passDone_tended {elements : List Int} {dens : Tab (Nat × Nat) (Nat × Nat)} {r : CalRun} (h : r.state = 2) (s : State) :
    Tended s (passDone elements dens r s) := by
  rw [passDone, if_pos h]
  exact passBegin_tended _ _ _

theorem switchTo_within (x cause : Nat) (line : Int) (s : State) :
    Within (.enc :: eventPieces) s (switchTo x cause line s) := (raise_within _ _ _ _).fromPatch rfl rfl

theorem patchGone_tended (status : Nat) (r : CalRun) (page l0 : Nat) (s : State) :
    Tended s (patchGone status r page l0 s) :=
  (raise_tended _ _ _ _).after rfl rfl rfl rfl

theorem drawList_within (n : Nat) (s : State) : Within [.free] s (drawList n s).2 := by
  induction n generalizing s with
  | zero => exact .refl _ s
  | succ n ih => exact (ih (drawInt 21 s).2).fromPatch rfl rfl

theorem patchElements_within (r : CalRun) (s : State) : Within [.free] s (patchElements r s).2 := by
  unfold patchElements
  split
  · exact drawList_within _ _
  · exact drawList_within _ _
  · exact .refl _ s

/-- The run with the patch that it measures. -/
def withPatch (s : State) (r : CalRun) : CalRun :=
  if r.patch.isSome then r else { r with patch := (patchFor s r).map fun k => (k.page, k.l0) }

theorem state_withPatch (s : State) (r : CalRun) : (withPatch s r).state = r.state := by
  unfold withPatch
  split <;> rfl

/-- What a run does once its patch has been seen. -/
def patchRead (r : CalRun) (page l0 : Nat) (s : State) : State :=
  if r.type = 3 then
    if r.seen then s
    else wantReference { r with seen := true } (patchGone 0 { r with seen := true } page l0 (setRun { r with seen := true } s))
  else
    let dens := if r.type = 8 then densities s r else []
    let e := patchElements r (patchGone 0 r page l0 s)
    passDone e.1 dens r e.2

theorem patchRead_tended {r : CalRun} (page l0 : Nat) (h : r.state = 2) (s : State) : Tended s (patchRead r page l0 s) := by
  refine .ite (.ite (.refl s) (((setRun_tended _ _).trans (patchGone_tended _ _ _ _ _)).trans (raise_tended _ _ _ _))) ?_
  exact ((patchGone_tended _ _ _ _ _).trans ((patchElements_within _ _).tended rfl rfl rfl)).trans (passDone_tended h _)

theorem patchProgress_eq (r : CalRun) (s : State) :
    patchProgress r s = match (withPatch s r).patch with
      | none => setRun (withPatch s r) s
      | some (page, l0) =>
        if (patchParts (setRun (withPatch s r) s) (withPatch s r)).any (·.bad) then
          patchGone 1 (withPatch s r) page l0 (setRun { withPatch s r with patch := none } (setRun (withPatch s r) s))
        else if !patchSeen (setRun (withPatch s r) s) (withPatch s r) then setRun (withPatch s r) s
        else patchRead (withPatch s r) page l0 (setRun (withPatch s r) s) := by
  unfold patchProgress withPatch patchRead
  rfl

theorem patchProgress_tended {r : CalRun} (h : r.state = 2) (s : State) : Tended s (patchProgress r s) := by
  have hset := setRun_tended (withPatch s r) s
  rw [patchProgress_eq]
  split
  · exact hset
  · refine .ite ((hset.trans (setRun_tended _ _)).trans (patchGone_tended _ _ _ _ _)) (.ite hset (hset.trans ?_))
    exact patchRead_tended _ _ ((state_withPatch s r).trans h) _

theorem scaleMove_tended (r : CalRun) (target : Int) (s : State) : Tended s (scaleMove r target s) := by
  have hmove : Tended (setRun { r with step := r.step + 1 } s) (scaleMove r target s) :=
    Within.tended (l := .axs :: eventPieces) ((axisEnter_moves _ _ _).within.fromPatch rfl rfl) rfl rfl rfl
  exact (setRun_tended _ _).trans hmove

theorem scaleProgress_tended (r : CalRun) (s : State) : Tended s (scaleProgress r s) :=
  .ite (.refl s) (.ite (scaleMove_tended _ _ _) (.ite (scaleMove_tended _ _ _) (.ite (setRun_tended _ _) (.refl s))))

/-- A run in its first pass makes progress within the table. -/
theorem runProgress_tended {r : CalRun} (h : r.state = 2) (s : State) : Tended s (runProgress r s) := by
  unfold runProgress
  split
  · exact passDone_tended h s
  · exact passDone_tended h s
  · exact passDone_tended h s
  · exact passDone_tended h s
  · exact scaleProgress_tended r s
  · exact .ite (passDone_tended h s) (.refl s)
  · exact .ite (Within.tended (l := [.lanes]) (.of_patch rfl) rfl rfl rfl) (.refl s)
  · exact .ite (patchProgress_tended h s) (.refl s)

theorem progressOnce_tended (h : ∀ r ∈ s.cal.runs, r.state ≤ 2) : Tended s (progressOnce s) := by
  unfold progressOnce
  split
  · next r hfind =>
    have hpass := List.find?_some hfind
    have hstate := h r (List.mem_of_find?_eq_some hfind)
    refine .ite (runProgress_tended ?_ s) (.refl s)
    simp only [inPass, Bool.or_eq_true, beq_iff_eq] at hpass
    omega
  · exact .refl s

theorem progressOnce_of_allWait (h : AllWait s) : progressOnce s = s := by
  have hpass : s.cal.runs.find? inPass = none := List.find?_eq_none.2 fun r hr => by
    have := h r hr
    simp only [inPass, Bool.or_eq_true, beq_iff_eq]
    omega
  rw [progressOnce, hpass]

theorem mem_setRun {r x : CalRun} (h : x ∈ (setRun r s).cal.runs) : x = r ∨ x ∈ s.cal.runs := by
  obtain ⟨y, hy, hx⟩ := List.mem_map.1 h
  split at hx
  · exact .inl hx.symm
  · exact .inr (hx ▸ hy)

theorem passBegin_runs (pass : Nat) (r : CalRun) (s : State) {x : CalRun} (h : x ∈ (passBegin pass r s).cal.runs) :
    x.state = 1 + pass ∨ x ∈ s.cal.runs := by
  unfold passBegin at h
  dsimp only at h
  rw [apply_ite State.cal, wantReference, raise_cal, ite_self] at h
  obtain hx | hx := mem_setRun h
  · exact .inl (congrArg CalRun.state hx)
  · exact .inr hx

/-- A run with the policy that it starts under (R271). -/
def startedRun (s : State) (r : CalRun) : CalRun :=
  let spare := bit (u8 (cfgGet s .calPolicy) 0) (if classX r.type then 0 else 1) && spareAvailable s r
  { r with started := s.now, policy := cfgGet s .calPolicy, spare := spare, hold := r.type != 9 && !spare }

theorem runStart_eq (r : CalRun) (s : State) :
    runStart r s = if (startedRun s r).spare ∧ (r.type = 1 ∨ r.type = 10) then
        switchTo (1 - r.target) 0xFE (nextLine (passBegin 1 (startedRun s r) s))
          { passBegin 1 (startedRun s r) s with
            cal := { (passBegin 1 (startedRun s r) s).cal with spareHome := some (r.id, r.target) } }
      else passBegin 1 (startedRun s r) s := rfl

/-- A run starts with its first pass. -/
theorem runStart_tended (r : CalRun) (s : State) :
    Tended s (runStart r s) ∧ (runStart r s).cal.runs = (passBegin 1 (startedRun s r) s).cal.runs := by
  have hpass := passBegin_tended 1 (startedRun s r) s
  rw [runStart_eq]
  generalize passBegin 1 (startedRun s r) s = u at hpass ⊢
  have hswitch := switchTo_within (1 - r.target) 0xFE (nextLine u)
    { u with cal := { u.cal with spareHome := some (r.id, r.target) } }
  split
  · exact ⟨hpass.trans ((hswitch.tended rfl rfl rfl).after rfl rfl rfl rfl), (congrArg Cal.runs (hswitch.keeps .cal rfl) :)⟩
  · exact ⟨hpass, rfl⟩

theorem startNext_tended (h : AllWait s) : Tended s (startNext s) ∧ ∀ r ∈ (startNext s).cal.runs, r.state ≤ 2 := by
  have hstay : ∀ r ∈ s.cal.runs, r.state ≤ 2 := fun r hr => Nat.le_succ_of_le (h r hr)
  unfold startNext
  split
  · exact ⟨.refl s, hstay⟩
  · split
    · next r _ =>
      obtain ⟨htended, hruns⟩ := runStart_tended r s
      refine ⟨htended, fun x hx => ?_⟩
      rw [hruns] at hx
      obtain hx | hx := passBegin_runs _ _ _ hx
      · exact Nat.le_of_eq hx
      · exact hstay x hx
    · exact ⟨.refl s, hstay⟩

/-- Where every run waits, CAL starts one at the most. -/
theorem calStep_tended (h : AllWait s) (hspare : s.cal.spareHome = none) : Tended s (calStep s) := by
  have hnone : acceptedRuns s (fun r => (r.type == 1 || r.type == 10) && r.boundary.isNone) = [] :=
    List.filter_eq_nil_iff.2 fun r hr => by
      have := h r hr
      simp only [Bool.and_eq_true, beq_iff_eq]
      omega
  have hfix : fixBoundaries s = s := by
    rw [fixBoundaries, hnone]
    rfl
  have hsettle : spareSettle s = s := by simp only [spareSettle, hspare]
  obtain ⟨hstart, hstates⟩ := startNext_tended h
  rw [calStep, progressOnce_of_allWait h, hfix, hsettle]
  exact hstart.trans (progressOnce_tended hstates)

/-! In ARMED runs are held (R266) -/

theorem holdQueued_tended (s : State) : Tended s (holdQueued s) :=
  .ite (each_setRun_tended _ _) (.refl s)

theorem holdQueued_cal (h : AllWait s) : AllWait (holdQueued s) ∧ (holdQueued s).cal.spareHome = s.cal.spareHome := by
  have hall : ∀ (l : List CalRun) (s : State), AllWait s →
      AllWait (each l (fun r => setRun { r with state := 1 }) s)
        ∧ (each l (fun r => setRun { r with state := 1 }) s).cal.spareHome = s.cal.spareHome := by
    intro l
    induction l with
    | nil => exact fun s h => ⟨h, rfl⟩
    | cons r l ih =>
      intro s h
      have hset : AllWait (setRun { r with state := 1 } s) := fun x hx => by
        obtain hx | hx := mem_setRun hx
        · subst hx
          exact Nat.le_refl 1
        · exact h x hx
      exact ih _ hset
  unfold holdQueued
  split
  · exact hall _ s h
  · exact ⟨h, rfl⟩

/-- A trigger check in CALIBRATE or ARMED, with what CAL does after it. -/
theorem triggerRow_of_due {e : Nat × Nat} (hruns : s.cal.runs = []) (hspare : s.cal.spareHome = none)
    (hauto : bit (u8 (cfgGet s .calPolicy) 0) 2 = true) (hmode : s.hub.mode = .calibrate ∨ s.hub.mode = .armed)
    (hmem : e ∈ ([6, 7, 8, 9].flatMap fun k => (calTargets s k).map fun x => (k, x)))
    (hdue : dueMoved s e.1 e.2 ≠ none) :
    let t := calStep (holdQueued (triggerCheck s))
    e ∈ t.cal.due ∧ t.cal.runs ≠ [] ∧ t.nvm = s.nvm ∧ t.cfg = s.cfg := by
  have hcheck : triggerCheck s
      = ([6, 7, 8, 9].flatMap fun k => (calTargets s k).map fun x => (k, x)).foldl triggerOne s :=
    if_pos ⟨hauto, hmode.imp_right .inl⟩
  have hchecked := triggers_checked ([6, 7, 8, 9].flatMap fun k => (calTargets s k).map fun x => (k, x)) s
  obtain ⟨htaken, hqueued⟩ := triggers_take hmem hdue
  dsimp only
  rw [hcheck]
  generalize ([6, 7, 8, 9].flatMap fun k => (calTargets s k).map fun x => (k, x)).foldl triggerOne s = u
    at hchecked htaken hqueued
  have hwait : AllWait u := hchecked.wait fun r hr => absurd (hruns ▸ hr) List.not_mem_nil
  obtain ⟨hheld, hhome⟩ := holdQueued_cal hwait
  have htended := (holdQueued_tended u).trans (calStep_tended hheld (hhome.trans (hchecked.spare.trans hspare)))
  exact ⟨htended.due ▸ htaken, htended.runs hqueued, htended.nvm.trans (hchecked.within.keeps .nvm rfl),
    htended.cfg.trans (hchecked.within.keeps .settings rfl)⟩

end Sys2Proof.Machine.Laws

namespace Sys2Proof.Machine.Proofs
open Sys2Proof.Machine Sys2Proof.Machine.Laws

/-- Settles O43: a trigger check in CALIBRATE or ARMED and one that is off, the timeout, and the second position. -/
theorem calibrationRows : Obligations.CalibrationRows := by
  refine ⟨fun t0 e m s hcalm hauto hmode hmem hdue => ?due, fun t0 s hcalm hauto hmode => ?off,
    fun t0 r s hsteady hrun hfrom hto _ htime => ?timeout,
    fun t0 a r s hsteady hrun hpass htype htarget hstep hnone href htime => ?scale⟩
  case due =>
    have hrow := triggerRow_of_due (s := advance t0 s) hcalm.noRuns hcalm.steady.noSpare hauto hmode hmem
      (Option.ne_none_iff_exists'.2 ⟨m, hdue⟩)
    refine runs_atPrint (f := fun s => calStep (holdQueued (triggerCheck s))) hcalm.steady ?_
    simpa only [keepQueue_cal, keepQueue_nvm, keepQueue_cfg, advance_nvm, advance_cfg] using hrow
  case off =>
    have hcheck : triggerCheck (advance t0 s) = advance t0 s := if_neg fun h => Bool.false_ne_true (hauto.symm.trans h.1)
    have hhold : holdQueued (triggerCheck (advance t0 s)) = advance t0 s := by
      rw [hcheck]
      exact if_neg hmode
    have hwithin : Within [] (advance t0 s) (holdQueued (triggerCheck (advance t0 s))) := hhold.symm ▸ .refl _ _
    exact Within.runsCal (f := fun s => holdQueued (triggerCheck s)) hwithin hcalm rfl (hwithin.only rfl)
  case timeout =>
    have hend := runTimeout_of_due (s := advance t0 s) hrun hfrom hto htime
    have hcal := failRun_cal_of_only (state := 8) (reason := 4) (s := advance t0 s) hrun
    have hstill : calStep (runTimeout (advance t0 s)) = runTimeout (advance t0 s) := by
      rw [hend]
      refine calStep_of_final (fun x hx => ?_) ?_
      · rw [hcal] at hx
        rw [List.mem_singleton.1 hx]
        exact Nat.le_add_left 6 2
      · rw [hcal]
        exact hsteady.noSpare
    have hwithin : Within runPieces (advance t0 s) (runTimeout (advance t0 s)) := hend ▸ failRun_within _ _ _ _
    refine Within.runsPrint (f := fun s => calStep (runTimeout s)) (hstill.symm ▸ hwithin) hsteady ?_
    rw [hstill]
    refine ⟨?_, ?_, hwithin.only rfl⟩
    · rw [hend, hcal]
      rfl
    · rw [hend, hcal]
      rfl
  case scale =>
    have hsettle := scaleSettle_of_second (s := advance t0 s) hrun hpass htype htarget hstep hnone htime
    have hcal : (scaleSettle a.val (advance t0 s)).cal
        = { s.cal with runs := [scaleRead (feedbackAt s a.val (max s.now t0)) r] } := by
      rw [hsettle, wantReference, raise_cal]
      rfl
    have hstill : calStep (scaleSettle a.val (advance t0 s)) = scaleSettle a.val (advance t0 s) :=
      calStep_of_waiting (congrArg Cal.runs hcal) hpass htype rfl href ((congrArg Cal.spareHome hcal).trans hsteady.noSpare)
    have hwithin : Within (.cal :: .idle :: eventPieces) (advance t0 s) (scaleSettle a.val (advance t0 s)) :=
      hsettle ▸ (raise_within _ _ _ _).fromPatch rfl rfl
    refine Within.runsPrint (f := fun s => calStep (scaleSettle a.val s)) (hstill.symm ▸ hwithin) hsteady ?_
    rw [hstill, hcal]
    exact ⟨rfl, hwithin.only rfl⟩

end Sys2Proof.Machine.Proofs
end

section
/-! SUPPORT. Corrections as they are put in force (R269, R270), and the boot states (R30, R31). -/
namespace Sys2Proof.Machine.Laws
open Sys2Proof.Machine

variable {s t u : State}

/-! Corrections -/

theorem setEnc_within (x : Nat) (v : Encoder) (s : State) : Within [.enc] s (setEnc x v s) :=
  .ite (.of_patch rfl) (.of_patch rfl)

theorem setCam_within (c : Nat) (v : Camera) (s : State) : Within [.cameras] s (setCam c v s) := .of_patch rfl

theorem setLane_within (n : Nat) (v : Lane) (s : State) : Within [.lanes] s (setLane n v s) := .of_patch rfl

theorem settleChange_within (c : LineChange) (s : State) : Within [.grt, .esc] s (settleChange c s) := .of_patch rfl

/-- What a correction may change. -/
def correctionPieces : List Piece := [.enc, .cameras, .axs, .thm, .lanes, .grt, .esc]

theorem putCorrection_within (type target : Nat) (v : List Int) (s : State) :
    Within correctionPieces s (putCorrection type target v s) := by
  unfold putCorrection
  split
  · exact (setEnc_within _ _ _).mono rfl
  · exact (setCam_within _ _ _).mono rfl
  · exact (setCam_within _ _ _).mono rfl
  · exact (setAxis_within _ _ _).mono rfl
  · exact .of_patch rfl
  · exact (setLane_within _ _ _).mono rfl
  · exact (setEnc_within _ _ _).mono rfl
  · exact (settleChange_within _ _).mono rfl

/-- One correction that NVM holds, put in force. -/
def restoreOne (e : (Nat × Nat) × List Int) (s : State) : State :=
  match e.2 with
  | temp :: a :: b :: v =>
    let s := putCorrection e.1.1 e.1.2 v s
    let sers := (serialModules e.1.1 e.1.2).zip [BitVec.ofInt 32 a, BitVec.ofInt 32 b]
    { s with cal := { s.cal with
      temps := tset s.cal.temps e.1 temp, serials := sers.foldl (fun t x => tset t x.1 x.2) s.cal.serials } }
  | _ => s

theorem restoreOne_within (e : (Nat × Nat) × List Int) (s : State) :
    Within (.cal :: correctionPieces) s (restoreOne e s) := by
  unfold restoreOne
  split
  · exact ((putCorrection_within _ _ _ s).mono rfl).trans (.of_patch rfl)
  · exact .refl _ s

theorem restoreCorrections_within (s : State) : Within (.cal :: correctionPieces) s (restoreCorrections s) :=
  .each restoreOne_within _ s

/-! Steps after which commands may begin -/

/-- The step of an operation that leaves the Command Ring, and CAL with nothing to follow. -/
theorem Within.runsServe {l : List Piece} {t0 : Time} {f : State → State} {P : State → Prop}
    (h : Within l (advance t0 s) (f (advance t0 s))) (hcalm : Calm s) (hidle : l.contains .idle = false)
    (hbar : l.contains .bar0 = false) (hP : P (f (advance t0 s))) : Runs (serviceStep t0 f s) P :=
  h.runsService hcalm hidle ((h.placed_eq hbar).trans hcalm.steady.nonePlaced) hP

/-! The boot states -/

theorem inBoot_of {b : BootState} {f : State → State} (hmode : s.hub.mode = .boot) (hboot : s.hub.bootState = b) :
    inBoot b f s = f s := if_pos ⟨hmode, hboot⟩

theorem trngBoot_within (ok : Bool) (s : State) : Within (.mss :: eventPieces) s (trngBoot ok s) :=
  .ite (.refl _ s) ((raise_within _ _ _ _).fromPatch rfl rfl)

theorem bootEnter_within (b : BootState) (s : State) : Within [.hub] s (bootEnter b s) := .of_patch rfl

theorem bootComplete_within (s : State) : Within eventPieces s (bootComplete s) := raise_within _ _ _ _

theorem bootFail_within (s : State) : Within (.hub :: eventPieces) s (bootFail s) :=
  (bootEnter_within _ _).seq (bootComplete_within _) rfl

theorem bootFail_hub (s : State) : (bootFail s).hub = { s.hub with bootState := .failed } := raise_hub _ _ _ _

theorem bootFault_within (n : Nat) (s : State) : Within [.hub] s (bootFault n s) := .of_patch rfl

theorem romDone_of_rom (ok : Bool) (hmode : s.hub.mode = .boot) (hboot : s.hub.bootState = .rom) :
    let t := romDone ok s
    Within (.hub :: .mss :: eventPieces) s t ∧ t.hub = { s.hub with bootState := .image }
      ∧ (ok = true → Within [.hub] s t) ∧ (ok = false → t.mss.trngFailed = true) := by
  have hstep : romDone ok s = bootEnter .image (trngBoot ok s) := inBoot_of hmode hboot
  have htrng := trngBoot_within ok s
  dsimp only
  rw [hstep]
  refine ⟨(htrng.mono rfl).andThen (bootEnter_within _ _) rfl, ?_, fun hok => ?_, fun hfail => ?_⟩
  · rw [bootEnter, htrng.hub_eq rfl rfl]
  · rw [hok]
    exact bootEnter_within _ _
  · obtain ⟨q, hq⟩ := raise_mss 0x3F02 0x0F (leBytes 1 1 ++ zeros 15) { s with mss := { s.mss with trngFailed := true } }
    rw [hfail]
    exact (congrArg Mss.trngFailed hq :)

theorem imageDone_of_preferredA (rB : Nat) (hmode : s.hub.mode = .boot) (hboot : s.hub.bootState = .image)
    (hpreferred : s.nvm.preferredB = false) (hsound : imageReason s false 0 = 0) :
    imageDone 0 rB none true s = bootEnter .selftest { s with mss := { s.mss with activeB := false } } := by
  rw [imageDone, inBoot_of hmode hboot]
  simp [hpreferred, hsound]

theorem imageReason_of_failed {b : Bool} {reason : Nat} (h : reason ≠ 0) : imageReason s b reason = reason := if_pos h

theorem imageDone_of_noImage {rA rB : Nat} {hubOk : Bool} (hmode : s.hub.mode = .boot) (hboot : s.hub.bootState = .image)
    (hA : rA ≠ 0) (hB : rB ≠ 0) : ∃ d, imageDone rA rB none hubOk s = bootFail (raise 0x2001 0x01 d s) := by
  have hA' : imageReason s false rA = rA := imageReason_of_failed hA
  have hB' : imageReason s true rB = rB := imageReason_of_failed hB
  rw [imageDone, inBoot_of hmode hboot]
  cases hpreferred : s.nvm.preferredB
  all_goals
    simp only [hpreferred, Bool.not_false, Bool.not_true, Bool.false_eq_true, if_false, if_true, hA', hB', hA, hB]
    exact ⟨_, rfl⟩

theorem selftestDone_of_passed (hmode : s.hub.mode = .boot) (hboot : s.hub.bootState = .selftest) :
    selftestDone 0 s
      = { s with hub := { s.hub with bootState := .nvm, bistFailed := 0, tested := true, dead := false } } := by
  rw [selftestDone, inBoot_of hmode hboot]
  rfl

/-- HUB's registers with the outcome of the self-test. -/
def selftested (failed : BitVec 16) (s : State) : State :=
  let s := { s with hub := { s.hub with bistFailed := failed &&& 0x7FFC, tested := true, dead := bit failed.toNat 1 } }
  if failed &&& 0x7FFC = 0 then s else bootFault 0 s

theorem selftested_hub (failed : BitVec 16) (s : State) :
    (selftested failed s).hub.dead = bit failed.toNat 1 ∧ (selftested failed s).hub.bistFailed = failed &&& 0x7FFC := by
  unfold selftested
  dsimp only
  split <;> exact ⟨rfl, rfl⟩

theorem selftested_within (failed : BitVec 16) (s : State) : Within [.hub] s (selftested failed s) :=
  .ite (.of_patch rfl) (.of_patch rfl)

theorem selftestDone_of_hubFailed {failed : BitVec 16} (hmode : s.hub.mode = .boot) (hboot : s.hub.bootState = .selftest)
    (hfailed : bit failed.toNat 1 = true) : selftestDone failed s = bootFail (selftested failed s) := by
  rw [selftestDone, inBoot_of hmode hboot]
  exact if_pos (by rw [hfailed, Bool.true_or])

theorem nvmDeviceFails_within (second : Bool) (cause : Nat) (s : State) :
    Within (.nvm :: eventPieces) s (nvmDeviceFails second cause s) := by
  cases second <;> exact .ite (.refl _ s) ((raise_within _ _ _ _).fromPatch rfl rfl)

theorem onBothDevices_within (ok0 ok1 : Bool) (cause : Nat) (s : State) :
    Within (.nvm :: eventPieces) s (onBothDevices ok0 ok1 cause s).2 :=
  .trans (.when (nvmDeviceFails_within _ _ _)) (.when (nvmDeviceFails_within _ _ _))

theorem onBothDevices_good (ok0 ok1 : Bool) (cause : Nat) (s : State) :
    (onBothDevices ok0 ok1 cause s).1 = ((ok0 && !s.nvm.failed0) || (ok1 && !s.nvm.failed1)) := rfl

/-- What the check of NVM leaves, before the next boot state. -/
def nvmChecked (ok0 ok1 : Bool) (s : State) : State :=
  let r := onBothDevices ok0 ok1 1 s
  if r.1 then restoreCorrections r.2 else bootFault 2 r.2

theorem nvmCheckDone_of_nvm (ok0 ok1 : Bool) (hmode : s.hub.mode = .boot) (hboot : s.hub.bootState = .nvm) :
    nvmCheckDone ok0 ok1 s = bootEnter .dram (nvmChecked ok0 ok1 s) := inBoot_of hmode hboot

theorem nvmChecked_within (ok0 ok1 : Bool) (s : State) :
    Within (.hub :: .cal :: .nvm :: correctionPieces ++ eventPieces) s (nvmChecked ok0 ok1 s) := by
  have hboth := (onBothDevices_within ok0 ok1 1 s).mono (l' := .hub :: .cal :: .nvm :: correctionPieces ++ eventPieces) rfl
  exact .ite (hboth.andThen (restoreCorrections_within _) rfl) (hboth.andThen (bootFault_within _ _) rfl)

theorem nvmChecked_of_bad {ok0 ok1 : Bool} (h : ((ok0 && !s.nvm.failed0) || (ok1 && !s.nvm.failed1)) = false) :
    (nvmChecked ok0 ok1 s).hub.bootFaults = s.hub.bootFaults ||| 4 := by
  have hstep : nvmChecked ok0 ok1 s = bootFault 2 (onBothDevices ok0 ok1 1 s).2 :=
    if_neg (ne_true_of_eq_false ((onBothDevices_good _ _ _ _).trans h))
  rw [hstep, bootFault, (onBothDevices_within ok0 ok1 1 s).hub_eq rfl rfl]
  rfl

/-- What the initialisation of the memory leaves, before the next boot state. -/
def dramTried (ok : Bool) (s : State) : State :=
  let d := cfgGet s .dram
  if ok && descOk d && capacityOk d then
    let b := s.thm.dieBand
    let s := { s with
      nvm := { s.nvm with delaySets := s.nvm.delaySets ||| BitVec.ofNat 6 (2 ^ b) }
      mem := { s.mem with bandUsed := [((0, 0), b), ((0, 1), b), ((1, 0), b), ((1, 1), b)] } }
    recordDelaySet b s
  else bootFault 1 { s with cfg := cfgPut s .dram (zeros 8) }

theorem dramInitDone_of_dram (ok : Bool) (hmode : s.hub.mode = .boot) (hboot : s.hub.bootState = .dram) :
    dramInitDone ok s = bootEnter .recovery (dramTried ok s) := inBoot_of hmode hboot

theorem dramTried_within (ok : Bool) (s : State) : Within [.hub, .nvm, .mem, .mss, .settings] s (dramTried ok s) :=
  .ite (.of_patch rfl) (.of_patch rfl)

theorem dramTried_of_failed (s : State) : (dramTried false s).hub.bootFaults = s.hub.bootFaults ||| 2 := rfl

theorem ledgerRecover_within (s : State) : Within [.ldg] s (ledgerRecover s) := by
  unfold ledgerRecover
  split
  · exact .refl _ s
  · exact .of_patch rfl

theorem recoveryDone_of_recovery (hmode : s.hub.mode = .boot) (hboot : s.hub.bootState = .recovery) :
    let t := recoveryDone s
    Within (.hub :: .ldg :: eventPieces) s t ∧ t.hub = { s.hub with bootState := .ready } := by
  have hstep : recoveryDone s = bootComplete (bootEnter .ready (ledgerRecover s)) := inBoot_of hmode hboot
  have hledger := ledgerRecover_within s
  dsimp only
  rw [hstep]
  refine ⟨((hledger.mono rfl).andThen (bootEnter_within _ _) rfl).andThen (bootComplete_within _) rfl, ?_⟩
  rw [(bootComplete_within _).hub_eq rfl rfl, bootEnter, hledger.hub_eq rfl rfl]

end Sys2Proof.Machine.Laws

namespace Sys2Proof.Machine.Proofs
open Sys2Proof.Machine Sys2Proof.Machine.Laws

/-- Settles O22: each step of boot by the branch it takes. -/
theorem bootRows : Obligations.BootRows := by
  refine ⟨fun t0 ok s hcalm hmode hboot => ?rom, fun t0 rB s hcalm hmode hboot hpreferred hsound => ?image,
    fun t0 rA rB hubOk s hcalm hmode hboot hA hB => ?noImage, fun t0 s hcalm hmode hboot => ?selftest,
    fun t0 failed s hcalm hmode hboot hfailed => ?hubFailed, fun t0 ok0 ok1 s hcalm hmode hboot => ?nvm,
    fun t0 ok s hcalm hmode hboot => ?dram, fun t0 s hcalm hmode hboot => ?recovery⟩
  case rom =>
    obtain ⟨hwithin, hhub, hok, hfail⟩ := romDone_of_rom (s := advance t0 s) ok hmode hboot
    exact hwithin.runsServe hcalm rfl rfl ⟨hhub, fun h => (hok h).only rfl, hfail⟩
  case image =>
    have hstep := imageDone_of_preferredA (s := advance t0 s) rB hmode hboot hpreferred hsound
    have hwithin : Within [.hub, .mss] (advance t0 s) (imageDone 0 rB none true (advance t0 s)) :=
      hstep ▸ (bootEnter_within _ _).fromPatch rfl rfl
    exact hwithin.runsServe hcalm rfl rfl ⟨by rw [hstep]; rfl, by rw [hstep]; rfl, hwithin.only rfl⟩
  case noImage =>
    obtain ⟨d, hstep⟩ := imageDone_of_noImage (s := advance t0 s) (hubOk := hubOk) hmode hboot hA hB
    have hwithin : Within (.hub :: eventPieces) (advance t0 s) (imageDone rA rB none hubOk (advance t0 s)) :=
      hstep ▸ ((raise_within _ _ _ _).mono rfl).trans (bootFail_within _)
    exact hwithin.runsServe hcalm rfl rfl ⟨by rw [hstep, bootFail_hub, raise_hub]; rfl, hwithin.only rfl⟩
  case selftest =>
    have hstep := selftestDone_of_passed (s := advance t0 s) hmode hboot
    have hwithin : Within [.hub] (advance t0 s) (selftestDone 0 (advance t0 s)) := hstep ▸ .of_patch rfl
    exact hwithin.runsServe hcalm rfl rfl ⟨by rw [hstep]; rfl, hwithin.only rfl⟩
  case hubFailed =>
    have hstep := selftestDone_of_hubFailed (s := advance t0 s) hmode hboot hfailed
    have hwithin : Within (.hub :: eventPieces) (advance t0 s) (selftestDone failed (advance t0 s)) :=
      hstep ▸ ((selftested_within _ _).mono rfl).trans (bootFail_within _)
    obtain ⟨hdead, hblocks⟩ := selftested_hub failed (advance t0 s)
    refine hwithin.runsServe hcalm rfl rfl ?_
    rw [hstep, bootFail_hub]
    exact ⟨rfl, hdead.trans hfailed, hblocks⟩
  case nvm =>
    have hstep := nvmCheckDone_of_nvm (s := advance t0 s) ok0 ok1 hmode hboot
    have hwithin : Within (.hub :: .cal :: .nvm :: correctionPieces ++ eventPieces) (advance t0 s)
        (nvmCheckDone ok0 ok1 (advance t0 s)) :=
      hstep ▸ (nvmChecked_within ok0 ok1 _).andThen (bootEnter_within _ _) rfl
    refine hwithin.runsServe hcalm rfl rfl ?_
    rw [hstep]
    exact ⟨rfl, fun hbad => nvmChecked_of_bad (s := advance t0 s) hbad⟩
  case dram =>
    have hstep := dramInitDone_of_dram (s := advance t0 s) ok hmode hboot
    have hwithin : Within [.hub, .nvm, .mem, .mss, .settings] (advance t0 s) (dramInitDone ok (advance t0 s)) :=
      hstep ▸ (dramTried_within _ _).andThen (bootEnter_within _ _) rfl
    refine hwithin.runsServe hcalm rfl rfl ⟨by rw [hstep]; rfl, fun hfail => ?_⟩
    rw [hstep, hfail]
    exact dramTried_of_failed _
  case recovery =>
    obtain ⟨hwithin, hhub⟩ := recoveryDone_of_recovery (s := advance t0 s) hmode hboot
    exact hwithin.runsServe hcalm rfl rfl hhub

end Sys2Proof.Machine.Proofs
end

section
/-! SUPPORT. The frames of line changes, of what pages and axes do at a change of mode, and of a module's states
(R153, R162, R178, R186, R202, R204, R269). -/
namespace Sys2Proof.Machine.Laws
open Sys2Proof.Machine

variable {s t u : State}

/-! Line changes -/

/-- What a correction that is applied may change beside its value. -/
def appliedPieces : List Piece := .mss :: runPieces

/-- What a line change may change as it takes effect. -/
def changePieces : List Piece := .grt :: .esc :: appliedPieces

theorem calApplied_within (run : Nat) (line shown : Int) (s : State) :
    Within appliedPieces s (calApplied run line shown s) := by
  unfold calApplied
  split
  · exact .refl _ s
  next r _ =>
    refine ((finalRun_within { r with state := 6 } s).mono rfl).trans ?_
    exact (raise_within _ _ _ _).fromPatch rfl rfl

theorem announceChange_within (c : PendingChange) (line : Int) (s : State) :
    Within appliedPieces s (announceChange c line s) := by
  have hband : Within appliedPieces s (match c.change with
      | .band m b => bandEvent m (tget 0 s.esc.band m) b line s
      | _ => s) := by
    split
    · exact (raise_within _ _ _ _).mono rfl
    · exact .refl _ s
  exact hband.trans (.ite (.refl _ _) (calApplied_within _ _ _ _))

theorem newGeneration_within (source : Nat) (line : Int) (s : State) :
    Within (.grt :: eventPieces) s (newGeneration source line s) := (raise_within _ _ _ _).fromPatch rfl rfl

theorem changeNow_within (c : PendingChange) (s : State) : Within changePieces s (changeNow c s) :=
  (((announceChange_within _ _ s).seq (settleChange_within _ _) rfl)).trans
    (.ite ((newGeneration_within _ _ _).mono rfl) (.refl _ _))

theorem fixChangeLines_within (s : State) : Within [.grt] s (fixChangeLines s) := .of_patch rfl

theorem makeChange_within (change : LineChange) (source run : Nat) (s : State) :
    Within changePieces s (makeChange change source run s) :=
  .ite (((fixChangeLines_within _).fromPatch rfl rfl).mono (l := [.grt]) rfl) (changeNow_within _ _)

theorem releaseChanges_within (s : State) : Within changePieces s (releaseChanges s) := by
  have hone (c : PendingChange) (u : State) : Within changePieces u (settleChange c.change
      (if c.inForce then u else announceChange { c with line := none } (presentSlot s) u)) :=
    .andThen (.ite (.refl _ u) ((announceChange_within _ _ _).mono rfl)) (settleChange_within _ _) rfl
  have hall := Within.each hone s.grt.changes s
  unfold releaseChanges
  dsimp only
  split
  · exact hall.trans (.of_patch rfl)
  · exact hall.trans ((newGeneration_within _ _ _).fromPatch rfl rfl)

/-! What is sent to modules, and the Escapement -/

theorem sendControl_within (n : Nat) (p : BitVec 128) (s : State) : Within [.out] s (sendControl n p s) := send_within _ _

theorem sendModule_within (m : Nat) (p : BitVec 128) (s : State) : Within [.out] s (sendModule m p s) :=
  .each (fun _ _ => sendControl_within _ _ _) _ s

theorem sendAll_within (p : BitVec 128) (s : State) : Within [.out] s (sendAll p s) :=
  .each (fun _ _ => sendModule_within _ _ _) _ s

theorem sendWave_within (m : Nat) (s : State) : Within [.out] s (sendWave m s) := sendModule_within _ _ s

theorem wavesFollow_within (was s : State) : Within [.out] s (wavesFollow was s) :=
  .each (fun _ _ => sendWave_within _ _) _ s

theorem releaseBands_within (s : State) : Within changePieces s (releaseBands s) :=
  (releaseChanges_within s).andThen (.each (fun _ _ => sendWave_within _ _) _ _) rfl

theorem raiseMark_within (s : State) : Within [.esc] s (raiseMark s) := .of_patch rfl

theorem dropSchedule_within (s : State) : Within [.esc] s (dropSchedule s) := .of_patch rfl

theorem escEnter_within (new : Nat) (s : State) : Within [.esc] s (escEnter new s) :=
  .ite (((raiseMark_within _).trans (dropSchedule_within _)).fromPatch rfl rfl) (.of_patch rfl)

theorem geometryStop_within (s : State) : Within (.grt :: eventPieces) s (geometryStop s) :=
  (raise_within _ _ _ _).fromPatch rfl rfl

theorem leavePrintPath_within (old : Mode) (s : State) : Within (.esc :: .grt :: eventPieces) s (leavePrintPath old s) :=
  .ite (((escEnter_within _ _).trans (dropSchedule_within _)).seq (geometryStop_within _) rfl) (.refl _ s)

/-! Pages that leave the print path -/

/-- What pages that leave the print path may change. -/
def pagePieces : List Piece := .mem :: recordPieces

theorem settlePitches_within (s : State) : Within pagePieces s (settlePitches s) := by
  unfold settlePitches
  refine .fromPatch (.each (l := recordPieces) (fun q u => ?_) _ _) rfl rfl
  split
  · exact appendRecord_within _ _ _
  · exact appendRecord_within _ _ _
  · exact .refl _ u

theorem leaveCurrent_within (p : Page) (s : State) : Within [.mem] s (leaveCurrent p s) := .ite (.of_patch rfl) (.refl _ s)

theorem pageRecord_within (p : Page) (returned : Bool) (s : State) : Within recordPieces s (pageRecord p returned s) :=
  appendRecord_within _ _ _

theorem erasePage_within (id : Nat) (s : State) : Within [.mem] s (erasePage id s) := .of_patch rfl

theorem consumePage_within (p : Page) (s : State) : Within pagePieces s (consumePage p s) :=
  (((pageRecord_within p false s).seq (leaveCurrent_within _ _) rfl).andThen (raise_within _ _ _ _) rfl).trans
    (.ite ((erasePage_within _ _).mono rfl) ((modPage_within _ _ _).mono rfl))

theorem returnPage_within (p : Page) (s : State) : Within pagePieces s (returnPage p s) :=
  ((pageRecord_within p true s).seq (leaveCurrent_within _ _) rfl).andThen (modPage_within _ _ _) rfl

theorem leavePages_within (s : State) : Within pagePieces s (leavePages s) := by
  refine .each (fun p u => ?_) _ s
  split
  · exact consumePage_within p u
  · exact returnPage_within p u

theorem queueAfterSafe_within (s : State) : Within pagePieces s (queueAfterSafe s) :=
  ((settlePitches_within s).trans (leavePages_within _)).trans (.of_patch rfl)

theorem queueAfterDrain_within (standby : Bool) (s : State) : Within pagePieces s (queueAfterDrain standby s) :=
  ((settlePitches_within s).trans (leavePages_within _)).trans (.of_patch rfl)

/-! Axes -/

theorem rampedStop_within (a : Nat) (s : State) : Within [.axs] s (rampedStop a s) := setAxis_within _ _ s

theorem axisEnter_within (a new : Nat) (s : State) : Within (.axs :: eventPieces) s (axisEnter a new s) :=
  .ite (.refl _ s) ((setAxis_within _ _ s).seq (raise_within _ _ _ _) rfl)

theorem beginStop_within (a : Nat) (toStopped : Bool) (s : State) : Within (.axs :: eventPieces) s (beginStop a toStopped s) :=
  .ite (((setAxis_within _ _ s).trans (rampedStop_within _ _)).seq (axisEnter_within _ _ _) rfl)
    (.ite ((setAxis_within _ _ s).mono rfl) (.refl _ s))

theorem axesSafe_within (s : State) : Within (.axs :: eventPieces) s (axesSafe s) :=
  .each (fun _ _ => .ite (beginStop_within _ _ _) (.refl _ _)) _ s

/-! Modules -/

/-- What a module's change of state may change. -/
def modulePieces : List Piece := .hlk :: .modules :: .thm :: .sensors :: runPieces

theorem setModule_within (m : Nat) (v : HeadModule) (s : State) : Within [.modules, .reports] s (setModule m v s) :=
  .of_patch rfl

theorem setModule_keeps {m : Nat} {v : HeadModule} {s : State} (h : told v = told (moduleOf s m)) :
    Within [.modules] s (setModule m v s) := by
  refine (setModule_within m v s).ofReports fun k => ?_
  by_cases hk : k = m
  · rw [hk, moduleOf_setModule_same, h]
  · rw [moduleOf_setModule_of_ne _ _ hk]

theorem purgeCut_within (status : Nat) (s : State) : Within [.hlk, .modules, .out] s (purgeCut status s) := by
  unfold purgeCut
  split
  · exact .refl _ s
  · refine .ite (.refl _ s) (Within.fromPatch (.each (l := [.modules, .out]) (fun m u => ?_) _ _) rfl rfl)
    exact (setModule_keeps (by rfl)).seq (sendModule_within _ _ _) rfl

theorem moduleSource_within (m : Nat) (s : State) : Within runPieces s (moduleSource m s) := abortRuns_within _ _ s

theorem laneSource_within (n : Nat) (s : State) : Within runPieces s (laneSource n s) := abortRuns_within _ _ s

/-- The sensors of a module that comes into use are read afresh, and the demand of one that leaves it falls. -/
def useChanged (m : Nat) (now was : Bool) (s : State) : State :=
  let fresh := fun (o : Sensor) => { o with time := s.now }
  let sensors := tmod {} (tmod {} s.thm.sensors (16 + 2 * m) fresh) (17 + 2 * m) fresh
  let s := if now && !was then { s with thm := { s.thm with sensors := sensors } } else s
  if !now && was then { s with thm := { s.thm with headDemand := tset s.thm.headDemand m 0 } } else s

theorem useChanged_within (m : Nat) (now was : Bool) (s : State) : Within [.thm, .sensors] s (useChanged m now was s) :=
  (Within.ite (.of_patch rfl) (.refl _ s)).trans (.ite (.of_patch rfl) (.refl _ _))

/-- What a module's new state ends: its calibration runs as it is lost, and a purge it takes part in. -/
def stateEnds (m new : Nat) (now : Bool) (s : State) : State :=
  let s := if new = 5 then moduleSource m s else s
  match s.hlk.purge with
  | some p => if !now && bit p.modules m then purgeCut 5 s else s
  | none => s

theorem stateEnds_within (m new : Nat) (now : Bool) (s : State) :
    Within (.hlk :: .modules :: runPieces) s (stateEnds m new now s) := by
  have hsource : Within (.hlk :: .modules :: runPieces) s (if new = 5 then moduleSource m s else s) :=
    .ite ((moduleSource_within _ _).mono rfl) (.refl _ s)
  unfold stateEnds
  dsimp only
  split
  · exact hsource.trans (.ite ((purgeCut_within _ _).mono rfl) (.refl _ _))
  · exact hsource

theorem enterModule_eq (m new : Nat) (s : State) :
    enterModule m new s =
      if (moduleOf s m).state = new then s
      else stateEnds m new (moduleUsable (setModule m { moduleOf s m with state := new } s) m)
        (useChanged m (moduleUsable (setModule m { moduleOf s m with state := new } s) m) (moduleUsable s m)
          (setModule m { moduleOf s m with state := new } s)) := rfl

theorem enterModule_within (m new : Nat) (s : State) : Within modulePieces s (enterModule m new s) := by
  rw [enterModule_eq]
  exact .ite (.refl _ s) (((setModule_keeps (s := s) (by rfl)).seq (useChanged_within _ _ _ _) rfl).andThen (stateEnds_within _ _ _ _) rfl)

theorem evalModule_within (m : Nat) (s : State) : Within modulePieces s (evalModule m s) :=
  .ite (.refl _ s) (((setModule_keeps (s := s) (by rfl)).mono rfl).trans (enterModule_within _ _ _))

/-! A module that is lost (R186, R202) -/

/-- What a late or lost slot may change. -/
def slotPieces : List Piece := .hlk :: .modules :: voidPieces

theorem skipSlot_within (m : Nat) (n : Int) (s : State) : Within [.modules, .out] s (skipSlot m n s) :=
  (setModule_keeps (s := s) (by rfl)).seq (sendModule_within _ _ _) rfl

theorem lateEvent_within (m : Nat) (n : Int) (k : Nat) (s : State) :
    Within (.modules :: eventPieces) s (lateEvent m n k s) := by
  unfold lateEvent
  dsimp only
  split
  · exact (setModule_keeps (by rfl)).seq (raise_within _ _ _ _) rfl
  · exact (setModule_keeps (by rfl)).mono rfl

theorem voidSlots_within (reason : Nat) (at_ : Time) (m : Nat) (rows : List Nat) (a b : Int) (s : State) :
    Within voidPieces s (voidSlots reason at_ m rows a b s) := voidHere_within _ _ _

theorem lateSlot_within (m : Nat) (n : Int) (s : State) : Within slotPieces s (lateSlot m n s) := by
  have hlate := ((skipSlot_within m n _).seq (lateEvent_within m n 1 _) rfl).fromPatch (s := s) (l := slotPieces)
    (t := { s with hlk := { s.hlk with late := satInc 32 s.hlk.late } }) (l' := .modules :: eventPieces) rfl rfl
  unfold lateSlot
  dsimp only
  split
  · exact hlate.trans (.ite (.of_patch rfl) (.refl _ _))
  · exact hlate.andThen (voidSlots_within _ _ _ _ _ _ _) rfl

theorem failover_within (m : Nat) (lostB : Bool) (cause : Nat) (tc : Time) (s : State) :
    Within slotPieces s (failover m lostB cause tc s) := by
  refine Within.trans ?_ (Within.foldl (fun a l => ?_) _ (_, _))
  · exact ((setModule_keeps (by rfl)).seq (sendControl_within _ _ _) (m := [.modules, .out]) rfl).fromPatch (l := slotPieces) rfl rfl
  · exact .ite ((sendPairs_within _ _ _ _ _ _ _).mono rfl) (lateSlot_within _ _ _)

theorem linkDrain_within (s : State) : Within [.hub] s (linkDrain s) := .ite (.of_patch rfl) (.refl _ s)

theorem lossEffects_within (m : Nat) (s : State) : Within (.hub :: voidPieces) s (lossEffects m s) :=
  (voidHere_within _ _ s).seq (linkDrain_within _) rfl

theorem lossPrinting_within (m : Nat) (slot : Int) (s : State) : Within (.hub :: voidPieces) s (lossPrinting m slot s) :=
  (lossEffects_within m s).andThen (sendModule_within _ _ _) rfl

theorem moduleLost_within (m cause : Nat) (slot : Int) (s : State) : Within eventPieces s (moduleLost m cause slot s) :=
  raise_within _ _ _ _

/-- What a module that is lost or refused may change. -/
def lossPieces : List Piece := .hub :: modulePieces ++ voidPieces

theorem loseModule_within (m cause : Nat) (s : State) : Within lossPieces s (loseModule m cause s) := by
  have henter : Within lossPieces s (if (moduleOf s m).state = 6 then s else enterModule m 5 s) :=
    .ite (.refl _ s) ((enterModule_within _ _ _).mono rfl)
  exact ((((henter.andThen (setModule_keeps (by rfl)) rfl).trans
    (.ite ((lossPrinting_within _ _ _).mono rfl) (.refl _ _))).andThen (moduleLost_within _ _ _ _) rfl).andThen
      (closeTickets_within _) rfl)

/-! The ledger and the ring as the mode changes -/

theorem openLedger_within (s : State) : Within recordPieces s (openLedger s) :=
  (Within.each (fun _ _ => appendRecord_within _ _ _) _ _).fromPatch rfl rfl

theorem closeLedger_within (cause : Nat) (s : State) : Within recordPieces s (closeLedger cause s) :=
  (Within.each (fun _ _ => closeTicket_within _ _) _ s).trans ((closeAt_within _ _ _ _).fromPatch rfl rfl)

theorem ledgerTransition_within (new : Mode) (s : State) : Within recordPieces s (ledgerTransition new s) :=
  .ite (.ite (.refl _ s) (openLedger_within s)) (.ite (closeLedger_within _ s) (.refl _ s))

theorem sendLinkState_within (announced : Bool) (lastValid : Time) (s : State) :
    Within [.sends, .out] s (sendLinkState announced lastValid s) := .ite (sendRing_within _ _ _) (.refl _ s)

theorem ringModeChanged_within (s : State) : Within [.sends, .out] s (ringModeChanged s) :=
  .ite (.refl _ s) (sendLinkState_within _ _ _)

end Sys2Proof.Machine.Laws
end

section
/-! SUPPORT. A mode transition (R27): what HUB takes over as the mode is entered, and what the other blocks' entries may
change beside it. -/
namespace Sys2Proof.Machine.Laws
open Sys2Proof.Machine

variable {s t u : State} {old new : Mode} {x : Transition} {n : Int} {line : Option Int}

/-! The parts of a transition -/

/-- What leaving the old mode does, before HUB enters the new one. -/
def beforeEntry (x : Transition) (s : State) : State :=
  let old := s.hub.mode
  let lost := s.hub.trans.filter fun y => y.since ≠ x.since ∨ y.target ≠ x.target ∨ y.cause ≠ x.cause
  let s := if old = .boot then leaveBoot s else s
  let s := if old = .armed ∧ lost.any (fun x => x.target = .print) = true then printOvertaken s else s
  let s := if x.target = .safe ∧ x.cause ≠ 9 ∧ old ≠ .boot then
      { s with hub := { s.hub with safe := s.hub.safe ++
        (if s.hub.safe.any (fun c => c.bit = 1) then [] else [{ bit := 1, block := 0x01, t := s.now }]) } }
    else s
  let s := if x.target = .safe ∧ old ≠ .boot then enterSafe old (if x.cause = 9 then x.since else s.now) s else s
  if old = .drain ∧ (x.target = .armed ∨ x.target = .standby) then endDrain (x.target = .standby) s else s

/-- Who asked for the transition that is reported (R27). -/
def reported (x : Transition) (s : State) : Nat × Nat :=
  match s.hub.trans.filter fun y => y.since ≠ x.since ∨ y.target ≠ x.target ∨ y.cause ≠ x.cause with
  | some y => (y.origin, y.seq)
  | none => (x.origin, x.seq)

/-- What follows once HUB has entered the mode. -/
def afterEntry (old : Mode) (x : Transition) (who : Nat × Nat) (n : Int) (s : State) : State :=
  let s := modeEvents old x who.1 who.2 (enterBlocks old x n s)
  if s.hub.mode ≠ .safe ∧ !s.hub.safe.isEmpty then scheduleSafe s else s

theorem takeTransition_eq (x : Transition) (n : Int) (s : State) :
    takeTransition x n s =
      afterEntry s.hub.mode x (reported x s) n (hubEnter s.hub.mode x (beforeEntry x s)) := rfl

/-- What the print path does at the entry to a mode (R27). -/
def pathEntered (old : Mode) (x : Transition) (n : Int) (s : State) : State :=
  match x.target with
  | .armed => if old = .drain then s else enterArmed s
  | .print => enterPrint n x.since s
  | .drain => enterDrain s
  | .standby =>
    if old = .drain then geometryStop s
    else if old = .armed then leavePrintPath old { s with mem := { s.mem with committed := false } }
    else s
  | .safe => leavePrintPath old s
  | _ => s

/-- The ledger's space kept for the entry to SAFE is free again. -/
def unreserved (s : State) : State := { s with ldg := { s.ldg with reserve := false } }

theorem unreserved_within (s : State) : Within [.ldg] s (unreserved s) := .of_patch rfl

theorem enterBlocks_eq (old : Mode) (x : Transition) (n : Int) (s : State) :
    enterBlocks old x n s = ringModeChanged (calEnter x.target
      (unreserved (ledgerTransition x.target (hlkTransition old x.target (pathEntered old x n s))))) := rfl

/-! Calibration with no runs -/

theorem abortRuns_of_noRuns (reason : Nat) (sel : CalRun → Bool) (hruns : s.cal.runs = []) : abortRuns reason sel s = s := by
  simp [abortRuns, hruns, each]

theorem spareSettle_of_noSpare (hspare : s.cal.spareHome = none) : spareSettle s = s := by
  simp [spareSettle, hspare]

theorem calRelease_of_noRuns (hruns : s.cal.runs = []) : calRelease s = s := by
  simp [calRelease, acceptedRuns, hruns, each]

theorem calEnter_of_noRuns (new : Mode) (hruns : s.cal.runs = []) (hspare : s.cal.spareHome = none) :
    calEnter new s = s := by
  unfold calEnter
  split
  · simp only [hruns, List.filter_nil, each]
    exact spareSettle_of_noSpare hspare
  · rw [abortRuns_of_noRuns _ _ hruns, spareSettle_of_noSpare hspare]
  · rw [abortRuns_of_noRuns _ _ hruns, calRelease_of_noRuns hruns, spareSettle_of_noSpare hspare]
  · exact calStep_of_noRuns hruns hspare

/-! The entry of each block -/

/-- What the blocks' entry to a mode outside the print path may change. -/
def entryPieces : List Piece := .grt :: .esc :: .sends :: modulePieces ++ recordPieces

/-- A transition that enters no part of the print path anew: a drain that ends, or one into a setup mode or SAFE. -/
def OffPath (old : Mode) (x : Transition) : Prop :=
  old ≠ .armed ∧ (setupModes x.target = true ∨ x.target = .safe ∨ (old = .drain ∧ x.target = .armed))

theorem pathEntered_within (h : OffPath old x) (n : Int) (s : State) :
    Within (.esc :: .grt :: eventPieces) s (pathEntered old x n s) := by
  obtain ⟨hold, htarget⟩ := h
  unfold pathEntered
  split
  next harmed =>
    rw [if_pos (by simpa [setupModes, harmed] using htarget)]
    exact .refl _ s
  next hprint => simp [setupModes, hprint] at htarget
  next hdrain => simp [setupModes, hdrain] at htarget
  · rw [if_neg hold]
    exact .ite ((geometryStop_within _).mono rfl) (.refl _ s)
  · exact leavePrintPath_within _ _
  · exact .refl _ s

theorem sameMode_eq (h : s.hub.mode = new) : { s with hub := { s.hub with mode := new } } = s := by subst h; rfl

theorem hlkTransition_within (h : OffPath old x) (hmode : s.hub.mode = x.target) :
    Within modulePieces s (hlkTransition old x.target s) := by
  have hcut : Within modulePieces s (if old = .service then purgeCut 3 s else s) :=
    .ite ((purgeCut_within _ _).mono rfl) (.refl _ s)
  have hnotArmed : (decide (x.target = .armed) && !printingMode old) = false := by
    obtain ⟨-, hsetup | hsafe | ⟨rfl, -⟩⟩ := h
    · cases htarget : x.target <;> simp_all [setupModes]
    · simp [hsafe]
    · simp [printingMode]
  unfold hlkTransition
  dsimp only
  rw [hnotArmed]
  simp only [Bool.false_eq_true, if_false]
  have hleft := hcut.trans (.ite (c := (printingMode old && !printingMode x.target) = true)
    (.each (l := modulePieces) (f := fun m s => if (moduleOf s m).state = 5 then evalModule m (enterModule m 1 s)
      else evalModule m s) (fun m u => .ite ((enterModule_within _ _ _).trans (evalModule_within _ _)) (evalModule_within _ _))
      (presentModules (if old = .service then purgeCut 3 s else s)) _) (.refl _ _))
  rw [sameMode_eq ((congrArg Hub.mode (hleft.keeps .hub rfl) :).trans hmode)]
  exact hleft.andThen (wavesFollow_within _ _) rfl

theorem enterBlocks_within (h : OffPath old x) (hmode : s.hub.mode = x.target) (hruns : s.cal.runs = [])
    (hspare : s.cal.spareHome = none) : Within entryPieces s (enterBlocks old x n s) := by
  have hpath := pathEntered_within h n s
  have hlanes := (hpath.mono (l' := entryPieces) rfl).andThen
    (hlkTransition_within h ((congrArg Hub.mode (hpath.keeps .hub rfl) :).trans hmode)) rfl
  have hledger := (hlanes.andThen (ledgerTransition_within x.target _) rfl).andThen (unreserved_within _) rfl
  obtain ⟨hruns', hspare'⟩ := hledger.keeps .idle rfl hruns hspare
  rw [enterBlocks_eq, calEnter_of_noRuns _ hruns' hspare']
  exact hledger.andThen (ringModeChanged_within _) rfl

theorem modeEvents_within (old : Mode) (x : Transition) (origin seq : Nat) (s : State) :
    Within eventPieces s (modeEvents old x origin seq s) :=
  .trans (.ite (raise_within _ _ _ _) (.refl _ s)) (raise_within _ _ _ _)

theorem afterEntry_within (h : OffPath old x) (who : Nat × Nat) (hmode : s.hub.mode = x.target) (hruns : s.cal.runs = [])
    (hspare : s.cal.spareHome = none) : Within entryPieces s (afterEntry old x who n s) :=
  ((enterBlocks_within h hmode hruns hspare).andThen (modeEvents_within _ _ _ _ _) rfl).trans
    (.ite ((scheduleSafe_within _).mono rfl) (.refl _ _))

/-- HUB's entry, and what follows it: of HUB's own state nothing more changes but its causes. -/
theorem takeTransition_within (h : OffPath s.hub.mode x) (n : Int) (hruns : (beforeEntry x s).cal.runs = [])
    (hspare : (beforeEntry x s).cal.spareHome = none) :
    Within entryPieces (hubEnter s.hub.mode x (beforeEntry x s)) (takeTransition x n s) := by
  rw [takeTransition_eq]
  exact afterEntry_within h _ rfl hruns hspare

/-! Which transition is taken -/

theorem modeTransition_of_host (hmode : s.hub.mode ≠ .armed) (hauto : s.hub.auto = none) (htrans : s.hub.trans = some x)
    (hdue : transitionDue s line x = true) :
    modeTransition line s = takeTransition x (line.getD (presentSlot s)) s := by
  simp [modeTransition, hmode, hauto, htrans, hdue, Option.filter_some]

theorem modeTransition_of_auto (hmode : s.hub.mode ≠ .armed) (hauto : s.hub.auto = some x)
    (hdue : transitionDue s line x = true) :
    modeTransition line s = takeTransition x (line.getD (presentSlot s)) s := by
  simp [modeTransition, hmode, hauto, hdue, Option.filter_some]

theorem modeTransition_of_none (hmode : s.hub.mode ≠ .armed) (hauto : s.hub.auto = none) (htrans : s.hub.trans = none) :
    modeTransition line s = s := by
  simp [modeTransition, hmode, hauto, htrans]

theorem transitionDue_of_instant {i : Time} (hdue : x.due = .instant i) (h : i ≤ s.now) : transitionDue s line x = true := by
  simp [transitionDue, hdue, h]

/-! Leaving the modes -/

theorem notArmed_of_setup (h : setupModes s.hub.mode = true) : s.hub.mode ≠ .armed := by
  intro hmode
  simp [setupModes, hmode] at h

theorem beforeEntry_of_setup (hold : setupModes s.hub.mode = true) (htarget : setupModes x.target = true) :
    beforeEntry x s = s := by
  cases hmode : s.hub.mode <;> cases hx : x.target <;> simp_all [setupModes, beforeEntry]

theorem beforeEntry_of_boot (hold : s.hub.mode = .boot) : beforeEntry x s = leaveBoot s := by
  simp [beforeEntry, hold]

theorem beforeEntry_of_drain (hold : s.hub.mode = .drain) (htarget : x.target = .armed ∨ x.target = .standby) :
    beforeEntry x s = endDrain (x.target = .standby) s := by
  obtain h | h := htarget <;> simp [beforeEntry, hold, h]

end Sys2Proof.Machine.Laws
end

section
/-! SUPPORT. What HUB keeps as it enters a mode from BOOT, from the setup modes, and at the end of a drain (R24, R25, R27). -/
namespace Sys2Proof.Machine.Laws
open Sys2Proof.Machine

variable {s t u : State} {x : Transition} {n : Int} {line : Option Int}

/-! In SAFE no transition is scheduled by the device -/

/-- In SAFE, what is scheduled stays as it was. -/
def KeepsSafe (s t : State) : Prop := s.hub.mode = .safe → t.hub.mode = .safe ∧ t.hub.auto = s.hub.auto

theorem KeepsSafe.refl (s : State) : KeepsSafe s s := fun h => ⟨h, rfl⟩

theorem KeepsSafe.trans (hst : KeepsSafe s t) (htu : KeepsSafe t u) : KeepsSafe s u := fun h =>
  have ⟨hmode, hauto⟩ := hst h
  have ⟨hmode', hauto'⟩ := htu hmode
  ⟨hmode', hauto'.trans hauto⟩

theorem KeepsSafe.ite {c : Prop} [Decidable c] {a b : State} (ha : KeepsSafe s a) (hb : KeepsSafe s b) :
    KeepsSafe s (if c then a else b) := by
  split
  · exact ha
  · exact hb

theorem KeepsSafe.each {α : Type} {f : α → State → State} (hf : ∀ a s, KeepsSafe s (f a s)) (xs : List α) (s : State) :
    KeepsSafe s (each xs f s) := by
  induction xs generalizing s with
  | nil => exact .refl s
  | cons a r ih => exact (hf a s).trans (ih (f a s))

theorem Within.keepsSafe {l : List Piece} (h : Within l s t) (hhub : l.contains .hub = false)
    (hcauses : l.contains .causes = false) : KeepsSafe s t := fun hmode => by
  rw [h.hub_eq hhub hcauses]
  exact ⟨hmode, rfl⟩

theorem KeepsSafe.fromPatch {l : List Piece} (htu : KeepsSafe t u) (hst : t = patch l s t) (hhub : l.contains .hub = false)
    (hcauses : l.contains .causes = false) : KeepsSafe s u :=
  ((Within.of_patch hst).keepsSafe hhub hcauses).trans htu

theorem scheduleSafe_of_safe (h : s.hub.mode = .safe) : scheduleSafe s = s := by simp [scheduleSafe, h]

theorem raiseSafe_keepsSafe (bit block : Nat) (s : State) : KeepsSafe s (raiseSafe bit block s) := fun hmode => by
  rw [raiseSafe, raiseSafeAt, scheduleSafe_of_safe (by split <;> exact hmode)]
  split <;> exact ⟨hmode, rfl⟩

theorem storageFull_keepsSafe (s : State) : KeepsSafe s (storageFull s) :=
  .ite (.refl s) (.fromPatch (((raise_within _ _ _ _).keepsSafe rfl rfl).trans (raiseSafe_keepsSafe _ _ _)) (l := [.ldg]) rfl rfl rfl)

theorem appendRecord_keepsSafe (r : Bytes) (id : BitVec 64) (s : State) : KeepsSafe s (appendRecord r id s) := by
  unfold appendRecord
  split
  · exact (deferRecord_within _ _ _).keepsSafe rfl rfl
  · refine .ite ((storageFull_keepsSafe s).trans ((deferRecord_within _ _ _).keepsSafe rfl rfl)) ?_
    dsimp only
    have hput := fun b => (putRecord_within b r id s).keepsSafe rfl rfl
    split
    · exact .ite ((hput _).trans ((closeAt_within _ _ _ _).keepsSafe rfl rfl)) (hput _)
    · exact hput _

theorem amend_keepsSafe (k : Ticket) (flags : Nat) (s : State) : KeepsSafe s (amend k flags s) :=
  (appendRecord_keepsSafe _ _ _).fromPatch (l := [.ldg]) rfl rfl rfl

theorem markRow_keepsSafe (page row : Nat) (cur : Option (BitVec 64)) (s : State) :
    KeepsSafe s (markRow page row cur s) := by
  unfold markRow
  split
  · exact .refl s
  · refine .ite (.refl s) (.fromPatch (.each (fun k u => ?_) _ _) (l := [.ldg]) rfl rfl rfl)
    have hset : ∀ c d x, KeepsSafe u (setTicket x (when_ c (raise 0x2902 0x09 d) u)) := fun c d x =>
      ((Within.when (l := .ldg :: eventPieces) ((raise_within _ _ _ _).mono rfl)).andThen (setTicket_within _ _) rfl).keepsSafe
        rfl rfl
    exact .ite ((hset _ _ _).trans (amend_keepsSafe _ _ _)) (hset _ _ _)

theorem closeTicket_keepsSafe (k : Ticket) (s : State) : KeepsSafe s (closeTicket k s) := by
  refine .trans ((setTicket_within k s).keepsSafe rfl rfl) (.trans (.ite ?_ ?_) (appendRecord_keepsSafe _ _ _))
  · exact (markRow_keepsSafe _ _ _ _).fromPatch (l := [.ldg]) rfl rfl rfl
  · exact (Within.of_patch (l := [.ldg]) rfl).keepsSafe rfl rfl

theorem ledgerTransition_keepsSafe (s : State) : KeepsSafe s (ledgerTransition .safe s) := by
  have hclose : ∀ cause, KeepsSafe s (closeLedger cause s) := fun cause =>
    (KeepsSafe.each (fun _ _ => closeTicket_keepsSafe _ _) _ s).trans
      (((closeAt_within _ _ _ _).keepsSafe rfl rfl).fromPatch (l := [.ldg]) rfl rfl rfl)
  rw [ledgerTransition, if_neg (by decide)]
  exact .ite (hclose _) (.refl s)

/-- Of the blocks' entry to SAFE from a setup mode only the ledger's may raise a cause. -/
theorem afterEntry_keepsSafe {old : Mode} (h : OffPath old x) (who : Nat × Nat) (n : Int) (htarget : x.target = .safe)
    (hmode : s.hub.mode = .safe) (hruns : s.cal.runs = []) (hspare : s.cal.spareHome = none) :
    KeepsSafe s (afterEntry old x who n s) := by
  have hpath := pathEntered_within h n s
  have hlanes := (hpath.mono (l' := .esc :: .grt :: modulePieces) rfl).trans ((hlkTransition_within h
    ((congrArg Hub.mode (hpath.keeps .hub rfl) :).trans (hmode.trans htarget.symm))).mono rfl)
  have hledger := (ledgerTransition_within x.target (hlkTransition old x.target (pathEntered old x n s))).andThen
    (unreserved_within _) rfl
  obtain ⟨hruns', hspare'⟩ := (hlanes.seq hledger (m := entryPieces) rfl).keeps .idle rfl hruns hspare
  have hentered : KeepsSafe s (enterBlocks old x n s) := by
    rw [enterBlocks_eq, calEnter_of_noRuns _ hruns' hspare']
    refine (hlanes.keepsSafe rfl rfl).trans (.trans (htarget ▸ ledgerTransition_keepsSafe _) ?_)
    exact ((unreserved_within _).keepsSafe rfl rfl).trans ((ringModeChanged_within _).keepsSafe rfl rfl)
  have hevents := hentered.trans ((modeEvents_within old x who.1 who.2 _).keepsSafe rfl rfl)
  refine hevents.trans (.ite (fun hsafe => ?_) (.refl _))
  rw [scheduleSafe_of_safe hsafe]
  exact ⟨hsafe, rfl⟩

/-! Leaving BOOT -/

theorem leaveBoot_within (s : State) : Within (.hub :: .causes :: .standing :: .rng :: .ports :: blockPieces) s (leaveBoot s) :=
  ((sealClosed_within _ _).trans (recoveredReport_within _)).fromPatch rfl rfl

theorem leaveBoot_hub (hfaults : s.hub.bootFaults = 0) :
    (leaveBoot s).hub = { s.hub with features := s.hub.accepted.getD 0, accepted := none, cfgCount := 1 } := by
  have h := ((sealClosed_within s.ldg.blocks.length
    { s with
      hub := { s.hub with features := s.hub.accepted.getD 0, accepted := none, cfgCount := 1, safe := s.hub.safe ++ [] }
      rng := { s.rng with east := { s.rng.east with state := .hunt }, west := { s.rng.west with state := .hunt } } }).trans
    (recoveredReport_within _)).hub_eq rfl rfl
  simp only [List.append_nil] at h
  rw [← h]
  simp [leaveBoot, recoverySeal, hfaults]

/-! Entering SAFE -/

theorem enterSafe_of_setup (since : Time) (hold : setupModes old = true) (s : State) :
    enterSafe old since s = axesSafe (releaseChanges (queueAfterSafe { s with ldg := { s.ldg with reserve := true } })) := by
  have h : ¬ (old = .print ∨ old = .drain) := by rintro (rfl | rfl) <;> simp [setupModes] at hold
  simp [enterSafe, h]

/-- What the entry to SAFE from a setup mode may change beside the print path. -/
def safePieces : List Piece := .causes :: .standing :: .axs :: pagePieces ++ changePieces

theorem enterSafe_within {old : Mode} (since : Time) (hold : setupModes old = true) (s : State) :
    Within safePieces s (enterSafe old since s) := by
  rw [enterSafe_of_setup since hold]
  exact (((queueAfterSafe_within _).seq (releaseChanges_within _) (m := safePieces) rfl).andThen (axesSafe_within _)
    rfl).fromPatch rfl rfl

theorem enterSafe_committed {old : Mode} (since : Time) (hold : setupModes old = true) (s : State) :
    (enterSafe old since s).mem.committed = false := by
  rw [enterSafe_of_setup since hold, (axesSafe_within _).keeps .mem rfl, (releaseChanges_within _).keeps .mem rfl]
  rfl

/-- SAFE's causes with the host's own, where the host asked for SAFE. -/
def hostCause (x : Transition) (s : State) : State :=
  if x.cause ≠ 9 then
    { s with hub := { s.hub with safe := s.hub.safe ++
      (if s.hub.safe.any (fun c => c.bit = 1) then [] else [{ bit := 1, block := 0x01, t := s.now }]) } }
  else s

theorem hostCause_within (x : Transition) (s : State) : Within [.causes, .standing] s (hostCause x s) :=
  .ite (.of_patch rfl) (.refl _ s)

theorem beforeEntry_toSafe (hold : setupModes s.hub.mode = true) (htarget : x.target = .safe) :
    ∃ since, beforeEntry x s = enterSafe s.hub.mode since (hostCause x s) := by
  have hnot : s.hub.mode ≠ .boot ∧ s.hub.mode ≠ .armed ∧ s.hub.mode ≠ .drain := by
    refine ⟨?_, ?_, ?_⟩ <;> (intro h; simp [setupModes, h] at hold)
  obtain ⟨hboot, harmed, hdrain⟩ := hnot
  refine ⟨if x.cause = 9 then x.since else (hostCause x s).now, ?_⟩
  simp [beforeEntry, hboot, harmed, hdrain, htarget, hostCause]

/-- The entry to SAFE from a setup mode. -/
theorem takeTransition_toSafe (hold : setupModes s.hub.mode = true) (htarget : x.target = .safe) (hruns : s.cal.runs = [])
    (hspare : s.cal.spareHome = none) (n : Int) :
    let t := takeTransition x n s
    Within (.hub :: entryPieces ++ safePieces) s t ∧ t.hub.mode = .safe ∧ t.hub.auto = none ∧ t.hub.trans = none
      ∧ t.hub.modeTime = s.now ∧ t.mem.committed = false := by
  obtain ⟨since, hbefore⟩ := beforeEntry_toSafe hold htarget
  have hleft : Within safePieces s (beforeEntry x s) := hbefore ▸
    ((hostCause_within x s).mono rfl).trans (enterSafe_within since hold _)
  have hoff : OffPath s.hub.mode x := ⟨notArmed_of_setup hold, .inr (.inl htarget)⟩
  obtain ⟨hruns', hspare'⟩ := hleft.keeps .idle rfl hruns hspare
  have hafter := takeTransition_within hoff n hruns' hspare'
  have hhub := hafter.keeps .hub rfl
  refine ⟨?_, ?_, ?_, ?_, ?_, ?_⟩
  · exact ((hleft.mono rfl).trans (.of_patch (l := .hub :: entryPieces ++ safePieces) rfl)).andThen hafter rfl
  · exact (congrArg Hub.mode hhub :).trans htarget
  · exact (afterEntry_keepsSafe hoff _ n htarget (s := hubEnter s.hub.mode x (beforeEntry x s)) htarget hruns' hspare' htarget).2
  · exact (congrArg Hub.trans hhub :)
  · exact (congrArg Hub.modeTime hhub :).trans hleft.now
  · rw [hafter.keeps .mem rfl]
    exact (congrArg (fun u => u.mem.committed) hbefore).trans (enterSafe_committed since hold _)

end Sys2Proof.Machine.Laws
end

section
/-! The statements on mode transitions, drains, the watchdog and the interlock (R23 to R27, R68, R365). -/
namespace Sys2Proof.Machine.Laws
open Sys2Proof.Machine

variable {s t u : State} {x : Transition} {n : Int} {line : Option Int} {t0 : Time}

/-! The end of a drain -/

theorem applyRun_within (line : Int) (r : CalRun) (s : State) :
    Within (correctionPieces ++ appliedPieces) s (applyRun line r s) :=
  (putCorrection_within _ _ _ s).seq (calApplied_within _ _ _ _) rfl

theorem calRelease_within (s : State) : Within (correctionPieces ++ appliedPieces) s (calRelease s) :=
  .each (fun _ _ => applyRun_within _ _ _) _ s

/-- What the end of a drain may change before the next mode is entered. -/
def drainedPieces : List Piece := pagePieces ++ changePieces ++ correctionPieces

theorem endDrain_within (standby : Bool) (s : State) : Within drainedPieces s (endDrain standby s) := by
  have hchanges : Within drainedPieces s
      (if standby then releaseChanges (calRelease s) else releaseBands (calRelease s)) :=
    .ite ((calRelease_within s).seq (releaseChanges_within _) rfl) ((calRelease_within s).seq (releaseBands_within _) rfl)
  exact hchanges.trans (((queueAfterDrain_within standby _).seq (escEnter_within _ _) (m := .esc :: pagePieces) rfl).fromPatch
    rfl rfl)

/-- A drain that ends enters ARMED, or STANDBY as MODE_SET asked (R24). -/
theorem takeTransition_ofDrain (hold : s.hub.mode = .drain) (htarget : x.target = .armed ∨ x.target = .standby)
    (hruns : s.cal.runs = []) (hspare : s.cal.spareHome = none) (n : Int) :
    let t := takeTransition x n s
    Within (.hub :: entryPieces ++ drainedPieces) s t ∧ t.hub.mode = x.target ∧ t.hub.modeTime = s.now
      ∧ t.hub.lastCause = BitVec.ofNat 8 x.cause := by
  have hleft : Within drainedPieces s (beforeEntry x s) :=
    beforeEntry_of_drain hold htarget ▸ endDrain_within _ s
  have hoff : OffPath s.hub.mode x := by
    refine ⟨by rw [hold]; decide, ?_⟩
    obtain h | h := htarget
    · exact .inr (.inr ⟨hold, h⟩)
    · exact .inl (by rw [h]; rfl)
  obtain ⟨hruns', hspare'⟩ := hleft.keeps .idle rfl hruns hspare
  have hafter := takeTransition_within hoff n hruns' hspare'
  have hhub := hafter.keeps .hub rfl
  refine ⟨((hleft.mono rfl).trans (.of_patch (l := .hub :: entryPieces ++ drainedPieces) rfl)).andThen hafter rfl, ?_, ?_, ?_⟩
  · exact (congrArg Hub.mode hhub :)
  · exact (congrArg Hub.modeTime hhub :).trans hleft.now
  · exact (congrArg Hub.lastCause hhub :)

/-! The host's transitions -/

/-- The first transition out of BOOT, with the features that were accepted (R33). -/
theorem takeTransition_ofBoot (hold : s.hub.mode = .boot) (htarget : x.target = .standby) (hfaults : s.hub.bootFaults = 0)
    (hruns : s.cal.runs = []) (hspare : s.cal.spareHome = none) (n : Int) :
    let t := takeTransition x n s
    Within (.hub :: .causes :: .standing :: .rng :: .ports :: entryPieces ++ blockPieces) s t ∧ t.hub.mode = .standby ∧ t.hub.trans = none
      ∧ t.hub.features = s.hub.accepted.getD 0 ∧ t.hub.cfgCount = 1 ∧ t.hub.modeTime = s.now := by
  have hbefore : beforeEntry x s = leaveBoot s := beforeEntry_of_boot hold
  have hleft := leaveBoot_within s
  have hoff : OffPath s.hub.mode x := ⟨by rw [hold]; decide, .inl (by rw [htarget]; rfl)⟩
  obtain ⟨hruns', hspare'⟩ := hleft.keeps .idle rfl hruns hspare
  have hafter := takeTransition_within hoff n (by rwa [hbefore]) (by rwa [hbefore])
  rw [hbefore] at hafter
  have hhub := hafter.keeps .hub rfl
  have hboot := leaveBoot_hub hfaults
  refine ⟨((hleft.mono rfl).trans (.of_patch (l := .hub :: .causes :: .standing :: .rng :: .ports :: entryPieces ++ blockPieces) rfl)).andThen
    hafter rfl, ?_, ?_, ?_, ?_, ?_⟩
  · exact (congrArg Hub.mode hhub :).trans htarget
  · exact (congrArg Hub.trans hhub :)
  · exact (congrArg Hub.features hhub :).trans (congrArg Hub.features hboot)
  · exact (congrArg Hub.cfgCount hhub :).trans (congrArg Hub.cfgCount hboot)
  · exact (congrArg Hub.modeTime hhub :).trans hleft.now

/-- A transition among the setup modes. -/
theorem takeTransition_amongSetup (hold : setupModes s.hub.mode = true) (htarget : setupModes x.target = true)
    (hruns : s.cal.runs = []) (hspare : s.cal.spareHome = none) (n : Int) :
    let t := takeTransition x n s
    Within (.hub :: entryPieces) s t ∧ t.hub.mode = x.target ∧ t.hub.trans = none ∧ t.hub.modeTime = s.now
      ∧ t.hub.lastCause = BitVec.ofNat 8 x.cause := by
  have hbefore : beforeEntry x s = s := beforeEntry_of_setup hold htarget
  have hafter := takeTransition_within (x := x) ⟨notArmed_of_setup hold, .inl htarget⟩ n (by rwa [hbefore]) (by rwa [hbefore])
  rw [hbefore] at hafter
  have hhub := hafter.keeps .hub rfl
  exact ⟨hafter.fromPatch rfl rfl, (congrArg Hub.mode hhub :), (congrArg Hub.trans hhub :), (congrArg Hub.modeTime hhub :),
    (congrArg Hub.lastCause hhub :)⟩

/-! Steps at which a transition is automatic -/

theorem settleStop_of_setup (h : setupModes s.hub.mode = true) : settleStop s = s := by
  unfold settleStop
  split
  · exact if_neg fun ⟨_, hmode, _⟩ => by rcases hmode with hm | hm <;> simp [setupModes, hm] at h
  · rfl

/-- The step of a block in a setup mode with a transition scheduled by the device. -/
theorem Within.runsSetup {l : List Piece} {f : State → State} {P : State → Prop}
    (h : Within l (advance t0 s) (f (advance t0 s))) (halive : alive s = true) (hruns : s.cal.runs = [])
    (hspare : s.cal.spareHome = none) (hplaced : s.bar0.placed = []) (hsetup : setupModes s.hub.mode = true)
    (hidle : l.contains .idle = false) (hbar : l.contains .bar0 = false) (hP : P (f (advance t0 s))) :
    Runs (serviceStep t0 f s) P := by
  obtain ⟨hruns', hspare'⟩ := h.keeps .idle hidle hruns hspare
  have hstill : calStep (service (f (settleStop (advance t0 s)))) = f (advance t0 s) := by
    rw [settleStop_of_setup (s := advance t0 s) hsetup, service_of_nonePlaced ((h.placed_eq hbar).trans hplaced),
      calStep_of_noRuns hruns' hspare']
  exact runs_atTime (f := fun s => calStep (service (f (settleStop s)))) halive (by rwa [hstill, h.keepQueue_eq])

/-! Drains, resume, watchdog and interlock -/

theorem drainComplete_of_done (h : drainDone s = true) :
    drainComplete s = takeTransition (autoTrans (if s.hub.drainStandby then .standby else .armed) (.instant s.now) 7 s.now)
      (presentSlot s) s := if_pos h

theorem drain_of_drainDone (h : drainDone s = true) : s.hub.mode = .drain := by
  simp only [drainDone, Bool.and_eq_true, decide_eq_true_eq] at h
  exact h.1.1

theorem drainComplete_drained (h : drainDone s = true) (hruns : s.cal.runs = []) (hspare : s.cal.spareHome = none) :
    let t := drainComplete s
    Within (.hub :: entryPieces ++ drainedPieces) s t ∧
      t.hub.mode = (if s.hub.drainStandby then .standby else .armed) ∧ t.hub.modeTime = s.now ∧ t.hub.lastCause = 7 := by
  rw [drainComplete_of_done h]
  exact takeTransition_ofDrain (drain_of_drainDone h)
    (by cases s.hub.drainStandby <;> simp [autoTrans]) hruns hspare _

theorem placePrint_within (s : State) : Within [.esc] s (placePrint s) := by
  unfold placePrint
  split
  · split
    · exact .ite (.refl _ s) (.of_patch rfl)
    · exact .refl _ s
  · exact .refl _ s

theorem takeUp_within (id : Nat) (s : State) : Within [.mem] s (takeUp id s) := by
  unfold takeUp
  split <;> exact .of_patch rfl

theorem setupPrint_within (p : Int) (s : State) : Within [.grt, .mem, .cal] s (setupPrint p s) := by
  unfold setupPrint
  dsimp only
  split
  · exact .ite ((takeUp_within _ _).fromPatch rfl rfl) (.of_patch rfl)
  · exact .of_patch rfl

theorem preparePrint_within (s : State) : Within [.esc, .grt, .mem, .cal] s (preparePrint s) := by
  have hplace : Within [.esc, .grt, .mem, .cal] s (placePrint s) := (placePrint_within s).mono rfl
  unfold preparePrint
  dsimp only
  split
  · exact hplace.trans (.ite (.refl _ _) ((setupPrint_within _ _).mono rfl))
  · exact hplace

/-- HUB with PRINT scheduled by the device itself (R26). -/
def resumed (s : State) : State :=
  { s with hub := { s.hub with
    resume := none
    trans := some { target := .print, due := .print s.now, cause := 8, origin := 0, seq := 0xFFFF,
                    autoResume := s.hub.autoResume, since := s.now } } }

theorem autoResume_of_holds {r : Resume} (hresume : s.hub.resume = some r) (hmode : s.hub.mode = .armed)
    (hpending : transPending s = false) (hholds : resumeHolds s r.cause = true) (hweb : webForward s = true)
    (hrate : rateOk s = true) (hlock : s.hub.interlockOpen = false) : autoResume s = preparePrint (resumed s) := by
  rw [autoResume, hresume]
  exact if_pos (by simp [hmode, hpending, hholds, hweb, hrate, hlock])

theorem transPending_of_none (htrans : s.hub.trans = none) (hauto : s.hub.auto = none) : transPending s = false := by
  simp [transPending, autoScheduled, htrans, hauto]

/-- The watchdog's deadline has passed and its action is none. -/
theorem watchdogExpiry_of_none {d : Time} (hwd : s.hub.wdDeadline = some d) (hd : d ≤ s.now)
    (haction : u8 (cfgGet s .hub) 2 = 0) :
    ∃ e, watchdogExpiry s = raise 0x2003 0x01 e { s with hub := { s.hub with wdDeadline := none } } := by
  refine ⟨leBytes 2 (u16 (cfgGet s .hub) 0) ++ leBytes 1 0 ++ leBytes 1 0 ++ timeBytes s.hub.wdLast, ?_⟩
  simp only [watchdogExpiry, hwd, if_neg (Nat.not_lt.2 hd), haction, true_or, if_true]
  rfl

theorem unmet_toSafe (hsetup : setupModes s.hub.mode = true) (hpending : transPending s = false) : unmet s .safe = 0 := by
  have hmode : ¬ (s.hub.mode = .boot ∨ s.hub.mode = .safe) := by rintro (h | h) <;> simp [setupModes, h] at hsetup
  simp [unmet, hpending, hmode]

theorem requestMode_toSafe (hsetup : setupModes s.hub.mode = true) (hpending : transPending s = false)
    (start : Time) (origin seq : Nat) : ∃ v, requestMode .safe false start origin seq s = (v, { s with hub := { s.hub with
      trans := some { target := .safe, due := .instant (hostInstant s.now), cause := 0, origin := origin, seq := seq,
                      autoResume := false, since := s.now } } }) := by
  refine ⟨(ePending, []), ?_⟩
  have hnot : ¬ (s.hub.mode = .drain ∧ Mode.safe = .standby) := fun h => by simp at h
  rw [requestMode, if_neg hnot]
  simp only [unmet_toSafe hsetup hpending]
  rfl

/-- The watchdog's deadline has passed and its action is SAFE. -/
theorem watchdogExpiry_toSafe {d : Time} (hwd : s.hub.wdDeadline = some d) (hd : d ≤ s.now)
    (haction : u8 (cfgGet s .hub) 2 = 2) (hsetup : setupModes s.hub.mode = true) (hpending : transPending s = false) :
    ∃ e, watchdogExpiry s = raise 0x2003 0x01 e { s with hub := { s.hub with
      wdDeadline := none
      trans := some { target := .safe, due := .instant (hostInstant s.now), cause := 0, origin := 3, seq := 0xFFFF,
                      autoResume := false, since := s.now } } } := by
  obtain ⟨v, hv⟩ := requestMode_toSafe (s := { s with hub := { s.hub with wdDeadline := none } }) hsetup hpending 0 3 0xFFFF
  simp only [watchdogExpiry, hwd, if_neg (Nat.not_lt.2 hd), haction, Nat.reduceEqDiff, false_and, or_self,
    if_false]
  rw [hv]
  exact ⟨_, rfl⟩

theorem autoIsSafe_scheduleSafe (hboot : s.hub.mode ≠ .boot) (hsafe : s.hub.mode ≠ .safe) :
    autoIsSafe (scheduleSafe s) = true := by
  unfold scheduleSafe
  split
  next h => exact (h.resolve_left hboot).resolve_left hsafe
  · rfl

theorem safe_raiseSafeAt (at_ : Time) (bit block : Nat) (s : State) :
    ∃ c ∈ (raiseSafeAt at_ bit block s).hub.safe, c.bit = bit := by
  rw [raiseSafeAt, scheduleSafe_safe]
  split
  next h =>
    obtain ⟨c, hc, hbit⟩ := List.any_eq_true.1 h
    exact ⟨c, hc, (of_decide_eq_true hbit).1⟩
  · exact ⟨_, List.mem_append_right _ (List.mem_singleton_self _), rfl⟩

/-- A cause whose records all come from one block stands no more once that block clears it. -/
theorem bit_safeWord_clearSafe {b block : Nat} (hb : b < 7) (h : ∀ c ∈ s.hub.safe, c.bit = b → c.block = block) :
    bit (safeWord (clearSafe b block s)) b = false := by
  rw [safeWord, bit_maskOf 7 _ hb, List.any_eq_false]
  intro c hc
  obtain ⟨hmem, hkept⟩ := List.mem_filter.1 hc
  intro hbit
  simp [of_decide_eq_true hbit, h c hmem (of_decide_eq_true hbit)] at hkept

end Sys2Proof.Machine.Laws

namespace Sys2Proof.Machine.Proofs
open Sys2Proof.Machine Sys2Proof.Machine.Laws

/-- Settles O20: HUB's own state is written at the entry, and no block's entry changes it again but for SAFE's causes. -/
theorem modeTransitionRows : Obligations.ModeTransitionRows := by
  refine ⟨?_, ?_, ?_, ?_⟩
  · intro t0 line x s hcalm hold htrans htarget ⟨i, hdue, hi⟩ hfaults _
    have hstep : modeTransition line (advance t0 s) = _ := modeTransition_of_host (s := advance t0 s) (by
      rw [show (advance t0 s).hub.mode = .boot from hold]; decide) hcalm.steady.noAuto htrans
      (transitionDue_of_instant (s := advance t0 s) hdue hi)
    have h := takeTransition_ofBoot (s := advance t0 s) hold htarget hfaults hcalm.noRuns hcalm.steady.noSpare
      (line.getD (presentSlot (advance t0 s)))
    rw [← hstep] at h
    exact h.1.runsServe hcalm rfl rfl h.2
  · intro t0 line x s hcalm hold htrans htarget ⟨i, hdue, hi⟩ _
    have hstep : modeTransition line (advance t0 s) = _ := modeTransition_of_host (s := advance t0 s)
      (notArmed_of_setup hold) hcalm.steady.noAuto htrans (transitionDue_of_instant (s := advance t0 s) hdue hi)
    have h := takeTransition_amongSetup (s := advance t0 s) hold htarget hcalm.noRuns hcalm.steady.noSpare
      (line.getD (presentSlot (advance t0 s)))
    rw [← hstep] at h
    obtain ⟨hwithin, hmode, hnone, htime, hcause⟩ := h
    exact hwithin.runsServe hcalm rfl rfl ⟨hmode, hnone, htime, hcause, hwithin.keeps .settings rfl, hwithin.keeps .enc rfl⟩
  · intro t0 line x s halive hruns hspare hplaced hold hauto htarget ⟨i, hdue, hi⟩
    have hstep : modeTransition line (advance t0 s) = _ := modeTransition_of_auto (s := advance t0 s)
      (notArmed_of_setup hold) hauto (transitionDue_of_instant (s := advance t0 s) hdue hi)
    have h := takeTransition_toSafe (s := advance t0 s) hold htarget hruns hspare
      (line.getD (presentSlot (advance t0 s)))
    rw [← hstep] at h
    exact h.1.runsSetup halive hruns hspare hplaced hold rfl rfl h.2
  · intro t0 line s hcalm htrans hmode
    have hstep : modeTransition line (advance t0 s) = advance t0 s :=
      modeTransition_of_none (s := advance t0 s) hmode hcalm.steady.noAuto htrans
    have hwithin : Within [] (advance t0 s) (modeTransition line (advance t0 s)) := hstep.symm ▸ .refl _ _
    exact hwithin.runsServe hcalm rfl rfl (hwithin.only rfl)

/-- Settles O21: each row changes HUB's own state and its causes, and an event changes neither. -/
theorem modeCauseRows : Obligations.ModeCauseRows := by
  refine ⟨?_, ?_, ?_, ?_, ?_, ?_⟩
  · intro t0 s hcalm hdone _
    have h := drainComplete_drained hdone hcalm.noRuns hcalm.steady.noSpare
    exact h.1.runsServe hcalm rfl rfl h.2
  · intro t0 r s hcalm hmode hresume htrans hholds hweb hrate hlock
    have hstep : autoResume (advance t0 s) = preparePrint (resumed (advance t0 s)) :=
      autoResume_of_holds (s := advance t0 s) hresume hmode
        (transPending_of_none (s := advance t0 s) htrans hcalm.steady.noAuto) hholds hweb hrate hlock
    have hprepare := preparePrint_within (resumed (advance t0 s))
    have hwithin : Within [.hub, .esc, .grt, .mem, .cal] (advance t0 s) (autoResume (advance t0 s)) :=
      hstep ▸ hprepare.fromPatch rfl rfl
    refine hwithin.runsServe hcalm rfl rfl ?_
    have hhub : (autoResume (advance t0 s)).hub = (resumed (advance t0 s)).hub := hstep ▸ hprepare.hub_eq rfl rfl
    rw [hhub]
    exact ⟨_, rfl, rfl, rfl, rfl, rfl⟩
  · intro t0 d s hcalm hwd hd haction
    obtain ⟨e, hstep⟩ := watchdogExpiry_of_none (s := advance t0 s) hwd hd haction
    have hwithin : Within (.hub :: eventPieces) (advance t0 s) (watchdogExpiry (advance t0 s)) :=
      hstep ▸ (raise_within _ _ _ _).fromPatch rfl rfl
    refine hwithin.runsServe hcalm rfl rfl ⟨?_, hwithin.only rfl⟩
    rw [hstep, raise_hub]
    rfl
  · intro t0 d s hcalm hwd hd haction hsetup htrans
    obtain ⟨e, hstep⟩ := watchdogExpiry_toSafe (s := advance t0 s) hwd hd haction hsetup
      (transPending_of_none (s := advance t0 s) htrans hcalm.steady.noAuto)
    have hwithin : Within (.hub :: eventPieces) (advance t0 s) (watchdogExpiry (advance t0 s)) :=
      hstep ▸ (raise_within _ _ _ _).fromPatch rfl rfl
    refine hwithin.runsServe hcalm rfl rfl ?_
    rw [hstep, raise_hub]
    exact ⟨_, rfl, rfl, rfl, rfl, rfl, hstep ▸ hwithin.only rfl⟩
  · intro t0 since s hcalm hlock htime hboot hsafe
    have hstep : interlockOpens since (advance t0 s) = raiseSafeAt since 0 0x01
        { advance t0 s with hub := { s.hub with interlockOpen := true } } :=
      if_neg (not_or.2 ⟨fun h => Bool.false_ne_true (hlock.symm.trans h), Nat.not_lt.2 htime⟩)
    have hraised := raiseSafeAt_within since 0 0x01 { advance t0 s with hub := { s.hub with interlockOpen := true } }
    have hwithin : Within [.hub, .causes] (advance t0 s) (interlockOpens since (advance t0 s)) :=
      hstep ▸ hraised.fromPatch rfl rfl
    refine hwithin.runsServe hcalm rfl rfl ⟨?_, ?_, ?_, hwithin.only rfl⟩
    · rw [hstep]
      exact (congrArg Hub.interlockOpen (hraised.keeps .hub rfl) :)
    · obtain ⟨c, hc, hbit⟩ := safe_raiseSafeAt since 0 0x01
        { advance t0 s with hub := { s.hub with interlockOpen := true } }
      rw [hstep]
      exact bit_safeWord_of_mem (by decide) hc hbit
    · rw [hstep, raiseSafeAt]
      exact autoIsSafe_scheduleSafe (by split <;> exact hboot) (by split <;> exact hsafe)
  · intro t0 since s hcalm htime hblock
    have hstep : interlockCloses since (advance t0 s) = clearSafe 0 0x01
        { advance t0 s with hub := { s.hub with interlockOpen := false } } := if_neg (Nat.not_lt.2 htime)
    have hwithin : Within [.hub, .causes, .standing] (advance t0 s) (interlockCloses since (advance t0 s)) :=
      hstep ▸ (clearSafe_within _ _ _).fromPatch rfl rfl
    refine hwithin.runsServe hcalm rfl rfl ⟨?_, ?_, hwithin.only rfl⟩
    · rw [hstep]
      rfl
    · rw [hstep]
      exact bit_safeWord_clearSafe (by decide) hblock

end Sys2Proof.Machine.Proofs
end

section
/-! SUPPORT. Stops of firing (R174, R286), and what the sensors of die and heads bring about (R277 to R288). -/
namespace Sys2Proof.Machine.Laws
open Sys2Proof.Machine

variable {s t u : State}

/-! Stops -/

/-- What a stop of firing may change. -/
def stopPieces : List Piece := .esc :: .revokes :: slotPieces

theorem sendRevoke_within (sr : Int) (detected : Time) (discard : Bool) (s : State) :
    Within stopPieces s (sendRevoke sr detected discard s) := (sendAll_within _ _).fromPatch rfl rfl

theorem discardFrom_within (from_ : Int) (detected : Time) (s : State) :
    Within stopPieces s (discardFrom from_ detected s) :=
  .ite (.refl _ s) ((sendRevoke_within _ _ _ s).andThen (.each (fun _ _ => setModule_keeps (by rfl)) _ _) rfl)

theorem flushAll_within (n : Int) (s : State) : Within [.hlk, .out] s (flushAll n s) := (sendAll_within _ _).fromPatch rfl rfl

theorem stopBy_within (c : VoidCause) (s : State) : Within stopPieces s (stopBy c s) := by
  refine .ite (.refl _ s) ?_
  have hdiscard := (discardFrom_within (firstSlotFrom s (c.t + 2 * tpUs)) c.t { s with esc := { s.esc with
    stopSlot := some (firstSlotFrom s (c.t + 2 * tpUs)), state := 4 } }).fromPatch (s := s) (l := stopPieces) rfl rfl
  exact hdiscard.trans (((flushAll_within _ _).seq (voidPrinting_within _ _) (m := slotPieces) rfl).fromPatch rfl rfl)

theorem stopFiring_within (at_ : Time) (reason : Nat) (s : State) : Within stopPieces s (stopFiring at_ reason s) :=
  stopBy_within _ s

/-! Demands, level and bands -/

/-- What the head demands and the device level may change. -/
def demandPieces : List Piece := .thm :: stopPieces

theorem purgeLimit_within (m : Nat) (s : State) : Within [.hlk, .modules, .out] s (purgeLimit m s) := by
  unfold purgeLimit
  split
  · exact .ite (purgeCut_within _ _) (.refl _ s)
  · exact .refl _ s

theorem reachHard_within (m : Nat) (s : State) : Within stopPieces s (reachHard m s) :=
  (Within.ite ((stopFiring_within _ _ s).andThen (scheduleDrain_within _ _ _) rfl) (.refl _ s)).andThen
    ((raise_within _ _ _ _).seq (purgeLimit_within m _) (m := stopPieces) rfl) rfl

theorem updateDemand_within (m : Nat) (s : State) : Within demandPieces s (updateDemand m s) := by
  have hset : Within demandPieces s (if headDemandNow s m = tget 0 s.thm.headDemand m then s
      else { s with thm := { s.thm with headDemand := tset s.thm.headDemand m (headDemandNow s m) } }) :=
    .ite (.refl _ s) (.of_patch rfl)
  exact hset.trans (.ite ((reachHard_within _ _).mono rfl) (.refl _ _))

theorem setLevel_within (new cause module_ : Nat) (temp : Int) (s : State) :
    Within (.thm :: eventPieces) s (setLevel new cause module_ temp s) :=
  .ite (.refl _ s) ((raise_within _ _ _ _).fromPatch rfl rfl)

theorem evaluateLevel_within (s : State) : Within (.thm :: eventPieces) s (evaluateLevel s) :=
  .ite ((setLevel_within _ _ _ _ _).fromPatch rfl rfl) ((setLevel_within _ _ _ _ _).fromPatch rfl rfl)

theorem evaluateThermal_within (s : State) : Within demandPieces s (evaluateThermal s) :=
  (Within.each updateDemand_within _ s).andThen (evaluateLevel_within _) rfl

theorem presetsChange_within (s : State) : Within [.lanes] s (presetsChange s) :=
  .each (fun _ u => .ite (.refl _ u) (setLane_within _ _ _)) _ s

theorem updateDieBand_within (s : State) : Within (.thm :: .lanes :: eventPieces) s (updateDieBand s) := by
  unfold updateDieBand
  split
  · exact .refl _ s
  · exact .ite (.refl _ s) (.fromPatch ((presetsChange_within _).seq (raise_within _ _ _ _) rfl) (l' := .lanes :: eventPieces)
      rfl rfl)

/-! Readings -/

theorem setSensor_within (i : Nat) (v : Sensor) (s : State) : Within [.sensors] s (setSensor i v s) := .of_patch rfl

/-- A sensor with a reading: the offset added, and healthy if it was to be cleared (R277). -/
def withReading (s : State) (i : Nat) (raw : Int) : Sensor :=
  { sensorOf s i with
    value := some (tenths (10 * raw + tget 0 s.thm.offsets i)), raw := some raw, time := s.now
    failed := (sensorOf s i).failed && !(sensorOf s i).clearing
    deviations := if (sensorOf s i).clearing then 0 else (sensorOf s i).deviations, clearing := false }

theorem takeReading_eq (i : Nat) (raw : Int) (s : State) : takeReading i raw s = setSensor i (withReading s i raw) s := rfl

theorem withReading_congr {i : Nat} (raw : Int) (hsensor : sensorOf t i = sensorOf s i)
    (hoffsets : t.thm.offsets = s.thm.offsets) (hnow : t.now = s.now) : withReading t i raw = withReading s i raw := by
  rw [withReading, hsensor, hoffsets, hnow, withReading]

/-- The first conversions of one instant, taken. -/
theorem readings_taken (r : Nat → Int) (n : Nat) (s : State) :
    let t := each (upTo n) (fun i => takeReading i (r i)) s
    Within [.sensors] s t ∧ (∀ i, i < n → sensorOf t i = withReading s i (r i)) ∧
      ∀ i, n ≤ i → sensorOf t i = sensorOf s i := by
  induction n with
  | zero => exact ⟨.refl _ s, fun i h => absurd h (Nat.not_lt_zero i), fun _ _ => rfl⟩
  | succ n ih =>
    obtain ⟨hwithin, hread, hrest⟩ := ih
    have hstep : each (upTo (n + 1)) (fun i => takeReading i (r i)) s
        = takeReading n (r n) (each (upTo n) (fun i => takeReading i (r i)) s) := by
      simp [each, upTo, List.range_succ]
    dsimp only
    rw [hstep, takeReading_eq, withReading_congr (r n) (hrest n (Nat.le_refl n))
      (congrArg Thm.offsets (hwithin.keeps .thm rfl) :) hwithin.now]
    refine ⟨hwithin.trans (setSensor_within _ _ _), fun i hi => ?_, fun i hi => ?_⟩
    · by_cases hin : i = n
      · rw [hin, sensorOf_setSensor_same]
      · rw [sensorOf_setSensor_of_ne _ _ hin, hread i (by omega)]
    · rw [sensorOf_setSensor_of_ne _ _ (by omega), hrest i (by omega)]

/-! The shutdown of the die (R288) -/

theorem dieOverLockstep_of_die {at_ : Time} (h : s.mss.shutdown = some (1, at_)) (t0 : Time) : dieOverLockstep t0 s = s := by
  simp [dieOverLockstep, h]

theorem dieOverLockstep_within (t0 : Time) (s : State) : Within [.mss, .nvm] s (dieOverLockstep t0 s) := by
  unfold dieOverLockstep
  split
  · exact .ite (.of_patch rfl) (.refl _ s)
  · exact .refl _ s

/-- What the shutdown of the die may change. -/
def shutdownPieces : List Piece := .causes :: .mss :: .nvm :: eventPieces

theorem dieShutdown_within (s : State) : Within shutdownPieces s (dieShutdown s) := by
  unfold dieShutdown
  split
  · exact .refl _ s
  · exact ((((raiseSafe_within _ _ s).seq (startShutdown_within _ _ _) (m := shutdownPieces) rfl).andThen
      (dieOverLockstep_within _ _) rfl).andThen (raise_within _ _ _ _) rfl)

/-- The reading that begins the shutdown of the die. -/
theorem dieShutdown_of_hot {i : Nat} {v : Int} (hi : i < 16) (hvalue : healthyValue s i = some v) (hhot : 1150 ≤ v)
    (hnone : s.mss.shutdown = none) :
    let t := dieShutdown s
    bit (safeWord t) 4 = true ∧ t.mss.shutdown = some (1, s.now) ∧ t.nvm.shutdownCause = 1 ∧ t.nvm.shutdownTime = s.now := by
  obtain ⟨-, hbit, hbegun, hcause, htime⟩ := startShutdown_raiseSafe 0x0D 1 (b := 4) (by decide) hnone
  obtain ⟨d, hd⟩ : ∃ d, dieShutdown s = raise 0x3D03 0x0D d (startShutdown 1 s.now (raiseSafe 4 0x0D s)) := by
    unfold dieShutdown
    split
    next hcool =>
      have hi' := List.find?_eq_none.1 hcool i (List.mem_range.2 hi)
      simp [hvalue, hhot] at hi'
    next =>
      dsimp only
      rw [dieOverLockstep_of_die hbegun]
      exact ⟨_, rfl⟩
  have hraised := raise_within 0x3D03 0x0D d (startShutdown 1 s.now (raiseSafe 4 0x0D s))
  dsimp only
  rw [hd]
  refine ⟨?_, (congrArg Mss.shutdown (hraised.keeps .mss rfl) :).trans hbegun,
    (congrArg Nvm.shutdownCause (hraised.keeps .nvm rfl) :).trans hcause,
    (congrArg Nvm.shutdownTime (hraised.keeps .nvm rfl) :).trans htime⟩
  rw [safeWord_congr (hraised.keeps .causes rfl).1]
  exact hbit

/-- What stands in HUB_SAFE_CAUSE goes on standing where nothing clears it. -/
theorem Within.bit_safeWord {l : List Piece} (h : Within l s t) (hstand : l.contains .standing = false) {b : Nat}
    (hb : b < 7) (hbit : bit (safeWord s) b = true) : bit (safeWord t) b = true := by
  rw [safeWord, bit_maskOf 7 _ hb] at hbit
  obtain ⟨c, hc, hcb⟩ := List.any_eq_true.1 hbit
  exact bit_safeWord_of_mem hb (h.keeps .standing hstand c hc) (of_decide_eq_true hcb)

/-- The die's readings as they are taken, before what follows from them. -/
def dieRead (r : List Int) (s : State) : State :=
  each (upTo (min 16 r.length)) (fun i => takeReading i (r.getD i 0)) s

/-- What the readings of the die bring about (R281 to R288). -/
def dieEvaluated (s : State) : State :=
  evaluateThermal (updateDieBand (if s.mss.shutdown.isSome then s else dieShutdown s))

theorem dieSensorReading_eq (r : List Int) (s : State) : dieSensorReading r s = dieEvaluated (dieRead r s) := rfl

theorem dieSensorReading_of_sixteen {r : List Int} (hlen : r.length = 16) (s : State) :
    dieSensorReading r s = dieEvaluated (each (upTo 16) (fun i => takeReading i (r.getD i 0)) s) := by
  rw [dieSensorReading_eq, dieRead, hlen, Nat.min_self]

/-- What follows from the readings of the die may change. -/
def evaluatedPieces : List Piece := .lanes :: demandPieces ++ shutdownPieces

/-- What follows a shutdown changes neither what it recorded nor the SAFE cause. -/
theorem banded_within (s : State) : Within (.lanes :: demandPieces) s (evaluateThermal (updateDieBand s)) :=
  ((updateDieBand_within s).mono rfl).andThen (evaluateThermal_within _) rfl

theorem dieEvaluated_within (s : State) : Within evaluatedPieces s (dieEvaluated s) :=
  .andThen (.ite (.refl _ s) ((dieShutdown_within s).mono rfl)) (banded_within _) rfl

theorem dieSensorReading_within (r : List Int) (s : State) :
    Within (.sensors :: evaluatedPieces) s (dieSensorReading r s) :=
  ((readings_taken _ _ s).1).seq (dieEvaluated_within _) rfl

/-! The cross-check (R278 to R280) -/

/-- What one step of a sequence brings about, and the others keep, holds after all of them. -/
theorem each_of_mem {α : Type} {f : α → State → State} {Q : State → Prop} {a : α} {l : List α} (ha : a ∈ l)
    (hset : ∀ u, Q (f a u)) (hkeep : ∀ b ∈ l, ∀ u, Q u → Q (f b u)) (s : State) : Q (each l f s) := by
  obtain ⟨l₁, l₂, rfl⟩ := List.append_of_mem ha
  have hrest : ∀ l' : List α, (∀ b ∈ l', b ∈ l₁ ++ a :: l₂) → ∀ u, Q u → Q (each l' f u) := by
    intro l'
    induction l' with
    | nil => exact fun _ u hu => hu
    | cons b r ih =>
      intro hmem u hu
      exact ih (fun c hc => hmem c (List.mem_cons_of_mem _ hc)) (f b u) (hkeep b (hmem b List.mem_cons_self) u hu)
  simp only [each, List.foldl_append, List.foldl_cons]
  exact hrest l₂ (fun b hb => List.mem_append_right _ (List.mem_cons_of_mem _ hb)) _ (hset _)

/-- What every step of a sequence keeps is as it was after all of them. -/
theorem each_keeps {α β : Type} {f : α → State → State} {g : State → β} {l : List α}
    (hkeep : ∀ a ∈ l, ∀ u, g (f a u) = g u) (s : State) : g (each l f s) = g s := by
  induction l generalizing s with
  | nil => rfl
  | cons a r ih =>
    exact (ih (fun b hb => hkeep b (List.mem_cons_of_mem _ hb)) (f a s)).trans (hkeep a List.mem_cons_self s)

/-- What a sensor that fails leaves: itself failed, and the floor at the present level at least (R279, R284). -/
def sensorFailed (i : Nat) (s : State) : State :=
  { setSensor i { sensorOf s i with failed := true, deviations := 0 } s with
    thm := { (setSensor i { sensorOf s i with failed := true, deviations := 0 } s).thm with
      floor := some (max (s.thm.floor.getD 0) s.thm.level), floorNew := true } }

theorem failSensor_after (i cause : Nat) (s : State) :
    Within (.causes :: eventPieces) (sensorFailed i s) (failSensor i cause s) :=
  ((raise_within _ _ _ _).mono rfl).trans
    (.each (fun _ _ => (raise_within _ _ _ _).seq (scheduleDrain_within _ _ _) rfl) _ _)

theorem failSensor_within (i cause : Nat) (s : State) :
    Within (.thm :: .sensors :: .causes :: eventPieces) s (failSensor i cause s) := (failSensor_after i cause s).fromPatch rfl rfl

theorem failSensor_thm (i cause : Nat) (s : State) : (failSensor i cause s).thm = (sensorFailed i s).thm :=
  (failSensor_after i cause s).thm_eq rfl rfl

theorem sensorOf_failSensor (i cause j : Nat) (s : State) :
    sensorOf (failSensor i cause s) j =
      sensorOf (setSensor i { sensorOf s i with failed := true, deviations := 0 } s) j :=
  sensorOf_congr (congrArg Thm.sensors (failSensor_thm i cause s)) j

/-- The sensors of the cross-check with their verdicts. -/
def crossVerdicts (s : State) : List (Nat × Option Nat × Nat) :=
  ((upTo 64).filter fun i => available s i && !(sensorOf s i).failed).map fun i => (i, checkSensor s i)

/-- A verdict takes effect. -/
def judge (v : Nat × Option Nat × Nat) (s : State) : State :=
  match v.2.1 with
  | some c => failSensor v.1 c s
  | none => s

/-- The runs of deviations of the sensors judged. -/
def countDeviations (s : State) : State :=
  each (crossVerdicts s) (fun v => setSensor v.1 { sensorOf s v.1 with deviations := v.2.2 }) s

theorem sensorCrossCheck_eq (s : State) :
    sensorCrossCheck s = evaluateThermal (each (crossVerdicts s) judge (countDeviations s)) := rfl

theorem judge_within (v : Nat × Option Nat × Nat) (s : State) :
    Within (.thm :: .sensors :: .causes :: eventPieces) s (judge v s) := by
  unfold judge
  split
  · exact failSensor_within _ _ _
  · exact .refl _ s

theorem sensorCrossCheck_within (s : State) : Within (.sensors :: demandPieces) s (sensorCrossCheck s) := by
  rw [sensorCrossCheck_eq]
  exact ((Within.each (fun _ _ => (setSensor_within _ _ _).mono rfl) _ s).andThen
    (.each judge_within _ _) rfl).andThen (evaluateThermal_within _) rfl

/-- A sensor is judged by its own verdict. -/
theorem mem_crossVerdicts {v : Nat × Option Nat × Nat} (h : v ∈ crossVerdicts s) : v = (v.1, checkSensor s v.1) := by
  obtain ⟨i, -, rfl⟩ := List.mem_map.1 h
  rfl

theorem crossVerdicts_of {i : Nat} (hi : i < 64) (havail : available s i = true) (hsound : (sensorOf s i).failed = false) :
    (i, checkSensor s i) ∈ crossVerdicts s :=
  List.mem_map.2 ⟨i, List.mem_filter.2 ⟨List.mem_range.2 hi, by simp [havail, hsound]⟩, rfl⟩

theorem sensorOf_countDeviations {i : Nat} (h : (i, checkSensor s i) ∈ crossVerdicts s) :
    sensorOf (countDeviations s) i = { sensorOf s i with deviations := (checkSensor s i).2 } := by
  refine each_of_mem (Q := fun u => sensorOf u i = { sensorOf s i with deviations := (checkSensor s i).2 }) h
    (fun u => sensorOf_setSensor_same _ _ u) (fun v hv u hu => ?_) s
  by_cases hiv : i = v.1
  · rw [mem_crossVerdicts hv, ← hiv]
    exact sensorOf_setSensor_same _ _ u
  · rw [sensorOf_setSensor_of_ne _ _ hiv, hu]

/-- The floor that a failed sensor sets stays through the evaluation that follows. -/
theorem evaluateThermal_floor (hfloor : s.thm.floor ≠ none) (hnew : s.thm.floorNew = true) :
    (evaluateThermal s).thm.floor ≠ none := by
  have hdemand : ∀ m u, (updateDemand m u).thm.floor = u.thm.floor ∧ (updateDemand m u).thm.floorNew = u.thm.floorNew := by
    intro m u
    have hset : ∀ c : Prop, [Decidable c] → ∀ v : State, (if c then reachHard m v else v).thm = v.thm := fun c _ v =>
      (Within.ite (c := c) ((reachHard_within m v)) (.refl stopPieces v)).thm_eq rfl rfl
    simp only [updateDemand, hset]
    split <;> exact ⟨rfl, rfl⟩
  have hall := each_keeps (l := upTo 24) (f := updateDemand) (g := fun u => (u.thm.floor, u.thm.floorNew))
    (fun m _ u => Prod.ext (hdemand m u).1 (hdemand m u).2) s
  simp only [Prod.mk.injEq] at hall
  rw [← hall.1] at hfloor
  rw [← hall.2] at hnew
  unfold evaluateThermal
  generalize each (upTo 24) updateDemand s = u at hfloor hnew ⊢
  have hlevel : ∀ new cause m temp (v : State), (setLevel new cause m temp v).thm.floor = v.thm.floor := by
    intro new cause m temp v
    unfold setLevel
    dsimp only
    split
    · rfl
    · exact (congrArg Thm.floor ((raise_within _ _ _ _).thm_eq rfl rfl) :)
  unfold evaluateLevel
  cases hf : u.thm.floor with
  | none => exact absurd hf hfloor
  | some f =>
    simp only [hnew, Bool.not_true, Bool.false_and, Bool.false_eq_true, if_false]
    split <;> rw [hlevel] <;> exact Option.some_ne_none f

end Sys2Proof.Machine.Laws

namespace Sys2Proof.Machine.Proofs
open Sys2Proof.Machine Sys2Proof.Machine.Laws

/-- Settles O37: what follows the readings leaves the sensors alone, and a verdict changes its own sensor only. -/
theorem thermalRows : Obligations.ThermalRows := by
  refine ⟨?_, ?_, ?_, ?_, ?_⟩
  · intro t0 r s hcalm hlen
    have hwithin := dieSensorReading_within r (advance t0 s)
    refine hwithin.runsCal hcalm rfl ?_
    obtain ⟨-, htaken, hrest⟩ := readings_taken (fun i => r.getD i 0) 16 (advance t0 s)
    have heq := dieSensorReading_of_sixteen hlen (advance t0 s)
    have hsensors : ∀ i, sensorOf (dieSensorReading r (advance t0 s)) i
        = sensorOf (each (upTo 16) (fun i => takeReading i (r.getD i 0)) (advance t0 s)) i := fun i =>
      sensorOf_congr (heq ▸ (dieEvaluated_within _).keeps .sensors rfl) i
    refine ⟨fun i hi => ?_, fun i hi => ?_, (congrArg Hub.mode (hwithin.keeps .hub rfl) :)⟩
    · rw [hsensors i, htaken i hi]
      exact ⟨rfl, rfl, rfl, rfl⟩
    · rw [hsensors i, hrest i hi]
      rfl
  · intro t0 r i s hcalm hlen hi hnone hsound hhot
    have hwithin := dieSensorReading_within r (advance t0 s)
    refine hwithin.runsCal hcalm rfl ?_
    obtain ⟨hfirst, htaken, -⟩ := readings_taken (fun i => r.getD i 0) 16 (advance t0 s)
    rw [dieSensorReading_of_sixteen hlen]
    generalize each (upTo 16) (fun i => takeReading i (r.getD i 0)) (advance t0 s) = u at hfirst htaken
    have hnone' : u.mss.shutdown = none := (congrArg Mss.shutdown (hfirst.keeps .mss rfl) :).trans hnone
    have hvalue : healthyValue u i = some (tenths (10 * r.getD i 0 + tget 0 s.thm.offsets i)) := by
      have hfailed : (sensorOf u i).failed = false := by
        rw [htaken i hi]
        exact (congrArg (· && !(sensorOf s i).clearing) hsound :)
      rw [healthyValue, hfailed, if_neg Bool.false_ne_true, valueOf, available, decide_eq_true hi, Bool.true_or, if_pos rfl,
        htaken i hi]
      rfl
    obtain ⟨hbit, hbegun, hcause, htime⟩ := dieShutdown_of_hot hi hvalue hhot hnone'
    have hbanded := banded_within (dieShutdown u)
    have hstep : dieEvaluated u = evaluateThermal (updateDieBand (dieShutdown u)) := by
      rw [dieEvaluated, hnone']
      rfl
    rw [hstep]
    refine ⟨?_, hbanded.bit_safeWord rfl (by decide) hbit, ?_, ?_⟩
    · exact (congrArg Mss.shutdown (hbanded.keeps .mss rfl) :).trans (hbegun.trans (congrArg (fun x => some (1, x)) hfirst.now))
    · exact (congrArg Nvm.shutdownCause (hbanded.keeps .nvm rfl) :).trans hcause
    · exact (congrArg Nvm.shutdownTime (hbanded.keeps .nvm rfl) :).trans (htime.trans hfirst.now)
  · intro t0 i c k s hcalm hi havail hsound hcheck
    refine (sensorCrossCheck_within _).runsPrint hcalm.steady ?_
    have hmem : (i, checkSensor (advance t0 s) i) ∈ crossVerdicts (advance t0 s) := crossVerdicts_of hi havail hsound
    obtain ⟨hfailed, hfloor, hnew⟩ := each_of_mem (f := judge) (l := crossVerdicts (advance t0 s))
      (Q := fun u => (sensorOf u i).failed = true ∧ u.thm.floor ≠ none ∧ u.thm.floorNew = true) hmem
      (fun u => by
        rw [hcheck]
        have hjudge : judge (i, some c, k) u = failSensor i c u := rfl
        rw [hjudge, sensorOf_failSensor, sensorOf_setSensor_same, failSensor_thm]
        exact ⟨rfl, Option.some_ne_none _, rfl⟩)
      (fun v _ u ⟨hfailed, hfloor, hnew⟩ => by
        unfold judge
        split
        next c' _ =>
          rw [sensorOf_failSensor, failSensor_thm]
          refine ⟨?_, Option.some_ne_none _, rfl⟩
          by_cases hiv : i = v.1
          · rw [hiv, sensorOf_setSensor_same]
          · rw [sensorOf_setSensor_of_ne _ _ hiv, hfailed]
        · exact ⟨hfailed, hfloor, hnew⟩) (countDeviations (advance t0 s))
    have hvalue := each_keeps (f := judge) (l := crossVerdicts (advance t0 s)) (g := fun u => (sensorOf u i).value)
      (fun v _ u => by
        unfold judge
        split
        · rw [sensorOf_failSensor]
          by_cases hiv : i = v.1
          · rw [hiv, sensorOf_setSensor_same]
          · rw [sensorOf_setSensor_of_ne _ _ hiv]
        · rfl) (countDeviations (advance t0 s))
    rw [sensorOf_countDeviations hmem] at hvalue
    have hsensor := sensorOf_congr ((evaluateThermal_within
      (each (crossVerdicts (advance t0 s)) judge (countDeviations (advance t0 s)))).keeps .sensors rfl) i
    rw [sensorCrossCheck_eq, hsensor]
    exact ⟨hfailed, evaluateThermal_floor hfloor hnew, hvalue⟩
  · intro t0 i k s hcalm hi havail hsound hcheck
    refine (sensorCrossCheck_within _).runsPrint hcalm.steady ?_
    have hmem : (i, checkSensor (advance t0 s) i) ∈ crossVerdicts (advance t0 s) := crossVerdicts_of hi havail hsound
    have hkept := each_keeps (f := judge) (l := crossVerdicts (advance t0 s)) (g := fun u => sensorOf u i)
      (fun v hv u => by
        unfold judge
        split
        next c hc =>
          rw [sensorOf_failSensor]
          refine sensorOf_setSensor_of_ne _ _ fun hiv => ?_
          rw [mem_crossVerdicts hv, ← hiv, hcheck] at hc
          exact absurd hc (Option.some_ne_none c).symm
        · rfl) (countDeviations (advance t0 s))
    have hsensor := sensorOf_congr ((evaluateThermal_within
      (each (crossVerdicts (advance t0 s)) judge (countDeviations (advance t0 s)))).keeps .sensors rfl) i
    rw [sensorCrossCheck_eq, hsensor, hkept, sensorOf_countDeviations hmem, hcheck]
    rfl
  · intro t0 k t1 s halive hshut hk htime
    have hstep : corePowerDown (advance t0 s) = { advance t0 s with mss := { s.mss with coreOff := true } } := by
      have hshut' : (advance t0 s).mss.shutdown = some (k, t1) := hshut
      rw [corePowerDown, hshut']
      exact if_pos ⟨hk, .inr htime⟩
    have hwithin : Within [.mss] (advance t0 s) (corePowerDown (advance t0 s)) := hstep ▸ .of_patch rfl
    exact hwithin.runs halive ⟨by rw [hstep], hwithin.only rfl⟩

end Sys2Proof.Machine.Proofs
end

section
/-! SUPPORT. Lanes of the head links (R186 to R212): which lane an operation writes, and what a lane that fails leaves of the
others while no calibration run is in the table. -/
namespace Sys2Proof.Machine.Laws
open Sys2Proof.Machine

variable {s t u : State} {l l' : List Piece} {n : Nat} {v w : Lane} {t0 : Time}

/-! CAL with nothing to follow -/

/-- CAL has no run in its table and no encoder to give back. -/
def Idle (s : State) : Prop := s.cal.runs = [] ∧ s.cal.spareHome = none

theorem Within.idle (h : Within l s t) (hl : l.contains .idle = false) (hs : Idle s) : Idle t :=
  h.keeps .idle hl hs.1 hs.2

theorem idle_of_calm (hcalm : Calm s) (t0 : Time) : Idle (advance t0 s) := ⟨hcalm.noRuns, hcalm.steady.noSpare⟩

/-! Modules while no run is in the table -/

/-- What a module's change of state may change while no calibration run is in the table. -/
def usePieces : List Piece := [.hlk, .modules, .thm, .sensors, .out]

theorem stateEnds_of_keptRuns (m : Nat) {new : Nat} (now : Bool) (h : new ≠ 5 ∨ Idle s) :
    Within [.hlk, .modules, .out] s (stateEnds m new now s) := by
  have hsource : (if new = 5 then moduleSource m s else s) = s := by
    obtain hnew | ⟨hruns, -⟩ := h
    · exact if_neg hnew
    · rw [moduleSource, abortRuns_of_noRuns _ _ hruns, ite_self]
  unfold stateEnds
  dsimp only
  rw [hsource]
  split
  · exact .ite (purgeCut_within _ _) (.refl _ _)
  · exact .refl _ s

theorem enterModule_quiet (m new : Nat) (hs : Idle s) : Within usePieces s (enterModule m new s) := by
  rw [enterModule_eq]
  have hset := (setModule_keeps (m := m) (v := { moduleOf s m with state := new }) (s := s) rfl).seq
    (useChanged_within m (moduleUsable (setModule m { moduleOf s m with state := new } s) m) (moduleUsable s m) _)
    (m := usePieces) rfl
  exact .ite (.refl _ s) (hset.andThen (stateEnds_of_keptRuns _ _ (.inr (hset.idle rfl hs))) rfl)

theorem evalModule_quiet (m : Nat) (hs : Idle s) : Within usePieces s (evalModule m s) := by
  have hset : ∀ b, Within usePieces s (setModule m { moduleOf s m with timeB := b } s) := fun b =>
    (setModule_keeps (by rfl)).mono rfl
  exact .ite (.refl _ s) ((hset _).trans (enterModule_quiet _ _ ((hset _).idle rfl hs)))

/-- What a module that is lost may change while no calibration run is in the table. -/
def quietPieces : List Piece := .hub :: usePieces ++ voidPieces

theorem loseModule_quiet (m cause : Nat) (hs : Idle s) : Within quietPieces s (loseModule m cause s) := by
  have henter : Within quietPieces s (if (moduleOf s m).state = 6 then s else enterModule m 5 s) :=
    .ite (.refl _ s) ((enterModule_quiet m 5 hs).mono rfl)
  exact ((((henter.andThen (setModule_keeps (by rfl)) rfl).trans
    (.ite ((lossPrinting_within _ _ _).mono rfl) (.refl _ _))).andThen (moduleLost_within _ _ _ _) rfl).andThen
      (closeTickets_within _) rfl)

theorem laneGone_quiet (n cause : Nat) (tc : Time) (hs : Idle s) : Within quietPieces s (laneGone n cause tc s) := by
  have hlose : ∀ m c, Within quietPieces s (loseModule m c s) := fun m c => loseModule_quiet m c hs
  have heval : ∀ m, Within quietPieces s (evalModule m s) := fun m => (evalModule_quiet m hs).mono rfl
  have hfail : ∀ m new b tc, Within quietPieces s
      (if hasFeature (setModule m { moduleOf (enterModule m new s) m with timeB := !b } (enterModule m new s)) 2 then
        failover m b cause tc (setModule m { moduleOf (enterModule m new s) m with timeB := !b } (enterModule m new s))
      else setModule m { moduleOf (enterModule m new s) m with timeB := !b } (enterModule m new s)) := fun m new b tc =>
    (((enterModule_quiet m new hs).andThen (setModule_keeps (v := { moduleOf (enterModule m new s) m with timeB := !b }) rfl)
      rfl).mono rfl).trans (.ite ((failover_within _ _ _ _ _).mono rfl) (.refl _ _))
  exact .ite (.ite (hlose _ _) (.ite (hfail _ _ _ _) (.ite (hlose _ _) (heval _))))
    (.ite (.ite (hlose _ _) (heval _)) (.refl _ s))

/-- A module's change of state that leaves it as usable as it was touches no sensor. -/
theorem enterModule_of_sameUse {m new : Nat} (hnew : new ≠ 5)
    (huse : moduleUsable (setModule m { moduleOf s m with state := new } s) m = moduleUsable s m) :
    Within [.hlk, .modules, .out] s (enterModule m new s) := by
  rw [enterModule_eq, huse]
  have hsame : ∀ b (x : State), useChanged m b b x = x := fun b x => by cases b <;> rfl
  rw [hsame]
  exact .ite (.refl _ s) (((setModule_keeps (by rfl)).mono rfl).trans (stateEnds_of_keptRuns _ _ (.inl hnew)))

/-! Operations that write one entry of a table -/

/-- An operation that leaves one entry of a table as given and the others as they were. -/
structure OneTo {β : Type} (get : State → Nat → β) (l : List Piece) (n : Nat) (v : β) (s t : State) : Prop where
  within : Within l s t
  value : get t n = v
  others : ∀ k, k ≠ n → get t k = get s k

section
variable {β : Type} {get : State → Nat → β} {x y : β}

theorem OneTo.stay (l : List Piece) (n : Nat) (s : State) : OneTo get l n (get s n) s s := ⟨.refl l s, rfl, fun _ _ => rfl⟩

theorem OneTo.mono (h : OneTo get l n x s t) (hl : incl l l' = true) : OneTo get l' n x s t :=
  ⟨h.within.mono hl, h.value, h.others⟩

theorem OneTo.trans (hst : OneTo get l n x s t) (htu : OneTo get l n y t u) : OneTo get l n y s u :=
  ⟨hst.within.trans htu.within, htu.value, fun k hk => (htu.others k hk).trans (hst.others k hk)⟩

/-- The next operation, where what it writes is a function of the entry it finds. -/
theorem OneTo.next (g : β → β) (hst : OneTo get l n x s t) (htu : OneTo get l n (g (get t n)) t u) :
    OneTo get l n (g x) s u := hst.trans (hst.value ▸ htu)

theorem OneTo.keep (hst : OneTo get l n x s t) (htu : Within l t u) (hkeep : ∀ k, get u k = get t k) : OneTo get l n x s u :=
  ⟨hst.within.trans htu, (hkeep n).trans hst.value, fun k hk => (hkeep k).trans (hst.others k hk)⟩

theorem OneTo.kept (htu : OneTo get l n x t u) (hst : Within l s t) (hkeep : ∀ k, get t k = get s k) : OneTo get l n x s u :=
  ⟨hst.trans htu.within, htu.value, fun k hk => (htu.others k hk).trans (hkeep k)⟩

end

/-- An operation that writes one lane. -/
abbrev LaneTo (l : List Piece) (n : Nat) (v : Lane) (s t : State) : Prop := OneTo laneOf l n v s t

theorem laneTo_set (n : Nat) (v : Lane) (s : State) : LaneTo [.lanes] n v s (setLane n v s) :=
  ⟨setLane_within n v s, laneOf_setLane_same n v s, fun _ hk => laneOf_setLane_of_ne v s hk⟩

theorem OneTo.thenLane (hst : LaneTo l n v s t) (htu : Within l' t u) (hlanes : l'.contains .lanes = false)
    (hl : incl l' l = true) : LaneTo l n v s u :=
  hst.keep (htu.mono hl) (laneOf_congr (htu.keeps .lanes hlanes))

theorem OneTo.afterLane (htu : LaneTo l n v t u) (hst : Within l' s t) (hlanes : l'.contains .lanes = false)
    (hl : incl l' l = true) : LaneTo l n v s u :=
  htu.kept (hst.mono hl) (laneOf_congr (hst.keeps .lanes hlanes))

/-! A lane that fails (R204) -/

/-- A lane as its failure leaves it, but for its scan. -/
def laneDown (v : Lane) (cause : Nat) (now : Time) : Lane :=
  { v with state := 4, cause := cause, failedAt := now, opSince := none, ident := false, rxLock := false,
           lockLoss := if cause = 1 then satInc 16 v.lockLoss else v.lockLoss }

theorem scanFails_to (n : Nat) (s : State) :
    LaneTo (.lanes :: eventPieces) n (unscanned (laneOf s n)) s (scanFails n s) := by
  unfold scanFails
  dsimp only
  split
  next hnone =>
    have hlane : unscanned (laneOf s n) = laneOf s n := by
      unfold unscanned
      rw [← hnone]
    rw [hlane]
    exact .stay _ n s
  next =>
    have hset := (laneTo_set n (unscanned (laneOf s n)) s).mono (l' := .lanes :: eventPieces) rfl
    split
    · exact hset
    · exact hset.thenLane (raise_within _ _ _ _) rfl rfl

/-- A lane that fails, its scan ended with it. -/
def laneFailed (n cause : Nat) (tc : Time) (s : State) : State :=
  scanFails n { setLane n (laneDown (laneOf s n) cause s.now) s with
    hlk := { (setLane n (laneDown (laneOf s n) cause s.now) s).hlk with lastFail := tc } }

theorem laneFailed_to (n cause : Nat) (tc : Time) (s : State) :
    LaneTo (.lanes :: .hlk :: eventPieces) n (unscanned (laneDown (laneOf s n) cause s.now)) s (laneFailed n cause tc s) := by
  have hdown := (laneTo_set n (laneDown (laneOf s n) cause s.now) s).mono (l' := .lanes :: .hlk :: eventPieces) rfl
  have hnoted : LaneTo (.lanes :: .hlk :: eventPieces) n (laneDown (laneOf s n) cause s.now) s
      { setLane n (laneDown (laneOf s n) cause s.now) s with
        hlk := { (setLane n (laneDown (laneOf s n) cause s.now) s).hlk with lastFail := tc } } :=
    hdown.thenLane (.of_patch (l := [.hlk]) rfl) rfl rfl
  exact hnoted.next unscanned ((scanFails_to n _).mono rfl)

theorem receiving_of_laneReceives (h : laneReceives s n = true) :
    ¬ ((laneOf s n).state ≠ 2 ∧ (laneOf s n).state ≠ 3) := by
  simp only [laneReceives, Bool.or_eq_true, beq_iff_eq] at h
  omega

theorem failLane_eq {cause : Nat} {tc : Time} (hrec : laneReceives s n = true) : ∃ d, failLane n cause tc s =
    raise 0x3701 0x07 d (if (laneOf s n).state = 3 then laneGone n cause tc (laneSource n (laneFailed n cause tc s))
      else laneSource n (laneFailed n cause tc s)) :=
  ⟨_, if_neg (receiving_of_laneReceives hrec)⟩

theorem failLane_of_receives {cause : Nat} {tc : Time} (hrec : laneReceives s n = true) (hs : Idle s) :
    LaneTo (.lanes :: quietPieces) n (unscanned (laneDown (laneOf s n) cause s.now)) s (failLane n cause tc s) := by
  have hfailed := (laneFailed_to n cause tc s).mono (l' := .lanes :: quietPieces) rfl
  have hidle := hfailed.within.idle rfl hs
  obtain ⟨d, hd⟩ := failLane_eq (cause := cause) (tc := tc) hrec
  rw [hd, laneSource, abortRuns_of_noRuns _ _ hidle.1]
  refine OneTo.thenLane ?_ (raise_within _ _ _ _) rfl rfl
  split
  · exact hfailed.thenLane (laneGone_quiet n cause tc hidle) rfl rfl
  · exact hfailed

theorem failLane_of_silent {cause : Nat} {tc : Time} (hrec : laneReceives s n = false) : failLane n cause tc s = s := by
  simp only [laneReceives, Bool.or_eq_false_iff, beq_eq_false_iff_ne] at hrec
  exact if_pos hrec

/-- A lane becomes OPERATIONAL, or stays as it is. -/
theorem tryOperational_to (n : Nat) (hs : Idle s) : ∃ v, LaneTo (.lanes :: quietPieces) n v s (tryOperational n s)
    ∧ (v = laneOf s n ∨ v = { laneOf s n with state := 3, opSince := some s.now }) := by
  unfold tryOperational
  dsimp only
  split
  · have hset := (laneTo_set n { laneOf s n with state := 3, opSince := some s.now } s).mono (l' := .lanes :: quietPieces) rfl
    refine ⟨_, ?_, .inr rfl⟩
    exact ((hset.thenLane (l' := quietPieces) (.ite ((evalModule_quiet _ (hset.within.idle rfl hs)).mono rfl) (.refl _ _)) rfl
      rfl).thenLane (sendControl_within _ _ _) rfl rfl).thenLane (raise_within _ _ _ _) rfl rfl
  · exact ⟨_, .stay _ n s, .inl rfl⟩

/-! Hunting, scans and tests -/

/-- A lane in HUNT. -/
def hunting (v : Lane) : Lane :=
  { v with state := 1, ident := false, rxLock := false, echoes := 0, good := 0, over100 := 0, over1000 := 0, delays := [],
           departures := [], opSince := none }

theorem huntNoted_within (n : Nat) (s : State) : Within [.hlk, .modules, .out] s (huntNoted n s) := by
  unfold huntNoted
  dsimp only
  split
  · exact .refl _ s
  next hstate =>
    have hstate : (moduleOf s (n / 2)).state = 6 := Classical.not_not.1 hstate
    generalize hh : (if n % 2 = 0 then { moduleOf s (n / 2) with huntA := true }
      else { moduleOf s (n / 2) with huntB := true }) = h
    have htold : told h = told (moduleOf s (n / 2)) := by rw [← hh]; split <;> rfl
    have hsix : h.state = 6 := by rw [← hh]; split <;> exact hstate
    have hset : Within [.hlk, .modules, .out] s (setModule (n / 2) h s) := (setModule_keeps htold).mono rfl
    refine hset.trans (.ite (enterModule_of_sameUse (by decide) ?_) (.refl _ _))
    simp [moduleUsable, hsix]

theorem laneHunt_to (n : Nat) (s : State) :
    LaneTo [.lanes, .hlk, .modules, .out] n (hunting (laneOf s n)) s (laneHunt n s) :=
  ((laneTo_set n (hunting (laneOf s n)) s).mono rfl).thenLane (huntNoted_within _ _) rfl rfl

theorem eyeScanDone_of_host {left right upper lower dwell : Nat} (hscan : (laneOf s n).scan = some (dwell, 0)) :
    LaneTo (.lanes :: eventPieces) n (unscanned (laneOf s n)) s (eyeScanDone n left right upper lower s) := by
  have hstep : ∃ d, eyeScanDone n left right upper lower s = raise 0x1703 0x07 d (setLane n (unscanned (laneOf s n)) s) := by
    simp only [eyeScanDone, hscan, eyeDone]
    exact ⟨_, rfl⟩
  obtain ⟨d, hd⟩ := hstep
  rw [hd]
  exact ((laneTo_set n _ s).mono rfl).thenLane (raise_within _ _ _ _) rfl rfl

theorem laneTestDone_of_ended {errors bits losses loop : Nat} {locked : Bool} {end_ : Time} {was : Nat}
    (hstate : (laneOf s n).state = 5) (htest : (laneOf s n).test = some (loop, end_, was)) (hend : end_ ≤ s.now) :
    LaneTo (.lanes :: .hlk :: .modules :: eventPieces) n
      (hunting { laneOf s n with test := none, lockLoss := min 0xFFFF ((laneOf s n).lockLoss + losses) }) s
      (laneTestDone n errors bits losses locked s) := by
  have hloop : Within [.out] s (if loop = 2 then sendControl n (loopBlock false) s else s) :=
    .ite (sendControl_within _ _ _) (.refl _ s)
  have hnot : ¬ ((laneOf s n).state ≠ 5 ∨ s.now < end_) := not_or.2 ⟨Classical.not_not.2 hstate, Nat.not_lt.2 hend⟩
  unfold laneTestDone
  dsimp only
  rw [htest]
  dsimp only
  rw [if_neg hnot]
  generalize (if loop = 2 then sendControl n (loopBlock false) s else s) = u at hloop ⊢
  have hset := ((laneTo_set n { laneOf s n with
    test := none, lockLoss := min 0xFFFF ((laneOf s n).lockLoss + losses) } u).mono
      (l' := .lanes :: .hlk :: .modules :: eventPieces) rfl).afterLane hloop rfl rfl
  exact (hset.next hunting ((laneHunt_to n _).mono rfl)).thenLane (raise_within _ _ _ _) rfl rfl

/-! Time transfer (R193) -/

/-- A lane whose TIME block departs. -/
def timed (v : Lane) (now : Time) : Lane := { v with tag := v.tag + 1, departures := tset v.departures (v.tag + 1) now }

/-- The TIME block of one lane. -/
def sendTime (n : Nat) (s : State) : State :=
  sendControl n (timeBlock ((laneOf s n).tag + 1) (headTime s.now) (headFraction s.now) s.mer.rate (laneDelay s n))
    (setLane n (timed (laneOf s n) s.now) s)

theorem timeBlockSend_eq (s : State) :
    timeBlockSend s = each ((upTo 48).filter fun n => 1 ≤ (laneOf s n).state && (laneOf s n).state ≤ 4) sendTime s := rfl

theorem sendTime_to (n : Nat) (s : State) : LaneTo [.lanes, .out] n (timed (laneOf s n) s.now) s (sendTime n s) :=
  ((laneTo_set n _ s).mono rfl).thenLane (sendControl_within _ _ _) rfl rfl

/-- Each lane of a list without repeats is timed once, and the others are as they were. -/
theorem sendTimes (ns : List Nat) (hnodup : ns.Nodup) (s : State) :
    let t := each ns sendTime s
    Within [.lanes, .out] s t ∧ (∀ k ∈ ns, laneOf t k = timed (laneOf s k) s.now) ∧
      ∀ k, k ∉ ns → laneOf t k = laneOf s k := by
  induction ns generalizing s with
  | nil => exact ⟨.refl _ s, fun k hk => absurd hk List.not_mem_nil, fun _ _ => rfl⟩
  | cons n r ih =>
    obtain ⟨hn, hr⟩ := List.nodup_cons.1 hnodup
    have hone := sendTime_to n s
    obtain ⟨hwithin, hin, hout⟩ := ih hr (sendTime n s)
    refine ⟨hone.within.trans hwithin, fun k hk => ?_, fun k hk => ?_⟩
    · obtain rfl | hk := List.mem_cons.1 hk
      · exact (hout k hn).trans hone.value
      · refine (hin k hk).trans ?_
        rw [hone.others k fun h => hn (h ▸ hk), hone.within.now]
    · exact (hout k fun h => hk (List.mem_cons_of_mem _ h)).trans (hone.others k fun h => hk (h ▸ List.mem_cons_self))

theorem timeBlockSend_sent (s : State) :
    let t := timeBlockSend s
    Within [.lanes, .out] s t
      ∧ (∀ k, k < 48 → 1 ≤ (laneOf s k).state → (laneOf s k).state ≤ 4 → laneOf t k = timed (laneOf s k) s.now)
      ∧ ∀ k, (laneOf s k).state = 0 ∨ (laneOf s k).state = 5 → laneOf t k = laneOf s k := by
  obtain ⟨hwithin, hin, hout⟩ := sendTimes ((upTo 48).filter fun n => 1 ≤ (laneOf s n).state && (laneOf s n).state ≤ 4)
    (List.nodup_range.filter _) s
  refine ⟨hwithin, fun k hk hlo hhi => hin k ?_, fun k hk => hout k fun hmem => ?_⟩
  · exact List.mem_filter.2 ⟨List.mem_range.2 hk, by simp [hlo, hhi]⟩
  · have hstate := (List.mem_filter.1 hmem).2
    simp only [Bool.and_eq_true, decide_eq_true_eq] at hstate
    omega

/-- What an echo writes into its lane's delays. -/
def echoed (v : Lane) (tag : BitVec 8) (round : Int) : Lane :=
  { v with delays := (round :: v.delays).take 16, echoes := v.echoes + 1, departures := terase v.departures tag }

/-- Two lanes agree in what an echo writes into the delays. -/
def SameEchoes (v w : Lane) : Prop := w.delays = v.delays ∧ w.echoes = v.echoes ∧ w.departures = v.departures

/-- A lane with its time error and the runs of errors beyond their limits (R194). -/
def judged (v : Lane) (err : Int) : Lane :=
  { v with
    timeErr := err
    good := if decide (err.natAbs ≤ 100) then v.good + 1 else 0
    over100 := if decide (err.natAbs ≤ 100) then 0 else v.over100 + 1
    over1000 := if 1000 < err.natAbs then v.over1000 + 1 else 0 }

/-- What follows once the time error of a lane is judged (R194, R204). -/
def echoEnds (n : Nat) (v : Lane) (err d : Int) (s : State) : State :=
  let s := if v.over100 = 16 then raise 0x2704 0x07 (leBytes 1 n ++ zeros 3 ++ seBytes 4 err) s else s
  if 4 ≤ v.over1000 then failLane n 4 s.now s
  else if v.state = 3 ∧ 900000 < d then failLane n 6 s.now s
  else tryOperational n s

theorem timeEcho_eq {tag : BitVec 8} {t2 fraction turnaround : Nat} {t1 : Time} (hrec : laneReceives s n = true)
    (hdeparted : (laneOf s n).departures.find? (fun x => decide (x.1 = tag)) = some (tag, t1)) :
    ∃ v err d, v = judged (echoed (laneOf s n) tag (((s.now : Int) - t1 - turnaround) * 1000 / (2 * 65536))) err ∧
      timeEcho n tag t2 fraction turnaround s = echoEnds n v err d (setLane n v
        (setLane n (echoed (laneOf s n) tag (((s.now : Int) - t1 - turnaround) * 1000 / (2 * 65536))) s)) := by
  simp only [timeEcho, if_neg (receiving_of_laneReceives hrec), hdeparted]
  exact ⟨_, headDiff ((t2 * headUnit + fraction : Nat) : Int) ((t1 : Int) + psTicks (laneDelay (setLane n
    (echoed (laneOf s n) tag (((s.now : Int) - t1 - turnaround) * 1000 / (2 * 65536))) s) n)) * 1000 / 65536, _, rfl, rfl⟩

theorem echoEnds_to {err d : Int} (hrec : v.state = 2 ∨ v.state = 3) (hlane : laneOf s n = v) (hs : Idle s) :
    ∃ w, LaneTo (.lanes :: quietPieces) n w s (echoEnds n v err d s) ∧ SameEchoes v w := by
  have hraised : Within eventPieces s
      (if v.over100 = 16 then raise 0x2704 0x07 (leBytes 1 n ++ zeros 3 ++ seBytes 4 err) s else s) :=
    .ite (raise_within _ _ _ _) (.refl _ s)
  unfold echoEnds
  dsimp only
  generalize (if v.over100 = 16 then raise 0x2704 0x07 (leBytes 1 n ++ zeros 3 ++ seBytes 4 err) s else s) = u at hraised ⊢
  have hlane' : laneOf u n = v := (laneOf_congr (hraised.keeps .lanes rfl) n).trans hlane
  have hrec' : laneReceives u n = true := by
    rw [laneReceives, hlane']
    obtain h | h := hrec <;> simp [h]
  have hidle := hraised.idle rfl hs
  have hfail : ∀ c, ∃ w, LaneTo (.lanes :: quietPieces) n w s (failLane n c u.now u) ∧ SameEchoes v w := fun c =>
    ⟨_, (failLane_of_receives hrec' hidle).afterLane hraised rfl rfl, by rw [hlane']; exact ⟨rfl, rfl, rfl⟩⟩
  split
  · exact hfail 4
  · split
    · exact hfail 6
    · obtain ⟨w, hto, hw⟩ := tryOperational_to n hidle
      refine ⟨w, hto.afterLane hraised rfl rfl, ?_⟩
      rw [hlane'] at hw
      obtain rfl | rfl := hw <;> exact ⟨rfl, rfl, rfl⟩

theorem timeEcho_of_departed {tag : BitVec 8} {t2 fraction turnaround : Nat} {t1 : Time} (hrec : laneReceives s n = true)
    (hdeparted : (laneOf s n).departures.find? (fun x => decide (x.1 = tag)) = some (tag, t1)) (hs : Idle s) :
    ∃ w, LaneTo (.lanes :: quietPieces) n w s (timeEcho n tag t2 fraction turnaround s) ∧
      SameEchoes (echoed (laneOf s n) tag (((s.now : Int) - t1 - turnaround) * 1000 / (2 * 65536))) w := by
  obtain ⟨v, err, d, hv, heq⟩ := timeEcho_eq (t2 := t2) (fraction := fraction) (turnaround := turnaround)
    hrec hdeparted
  have hset := ((laneTo_set n (echoed (laneOf s n) tag (((s.now : Int) - t1 - turnaround) * 1000 / (2 * 65536))) s).trans
    (laneTo_set n v _)).mono (l' := .lanes :: quietPieces) rfl
  have hrecv : v.state = 2 ∨ v.state = 3 := by
    have hstate : (laneOf s n).state = 2 ∨ (laneOf s n).state = 3 := by simpa [laneReceives] using hrec
    rw [hv]
    exact hstate
  obtain ⟨w, hto, hdelays, hcount, hleft⟩ := echoEnds_to (err := err) (d := d) hrecv hset.value (hset.within.idle rfl hs)
  rw [heq]
  rw [hv] at hdelays hcount hleft
  exact ⟨w, hset.trans hto, hdelays, hcount, hleft⟩

/-! The next IDLE block (R211, R281) -/

/-- A lane with the preset that waited for its next IDLE block. -/
def presetTaken (v : Lane) : Lane := { v with preset := v.nextPreset.getD v.preset, nextPreset := none }

theorem nextIdleBlock_of_preset (hsampler : (laneOf s n).nextSampler = none) :
    nextIdleBlock n s = setLane n (presetTaken (laneOf s n)) s := by
  unfold nextIdleBlock
  dsimp only
  split
  · rfl
  next hsome => exact absurd (hsampler.symm.trans hsome) (Option.some_ne_none _).symm

theorem nextIdleBlock_of_sampler {p q : Int} (hsampler : (laneOf s n).nextSampler = some (p, q)) (hruns : s.cal.runs = []) :
    nextIdleBlock n s = setLane n { presetTaken (laneOf s n) with phase := p, volt := q, nextSampler := none }
      (setLane n (presetTaken (laneOf s n)) s) := by
  have hcal : ∀ w w' u, (setLane n w (setLane n w' u)).cal.runs = u.cal.runs := fun _ _ _ => rfl
  unfold nextIdleBlock
  dsimp only
  split
  next hnone => exact absurd (hsampler.symm.trans hnone) (Option.some_ne_none _)
  next hsome =>
    obtain ⟨rfl, rfl⟩ := Prod.mk.inj (Option.some.inj (hsampler.symm.trans hsome))
    rw [hcal, hruns, laneOf_setLane_same]
    rfl

end Sys2Proof.Machine.Laws

namespace Sys2Proof.Machine.Proofs
open Sys2Proof.Machine Sys2Proof.Machine.Laws

/-- Settles O32: each row writes its own lane, and a lane's failure leaves the other lanes alone. -/
theorem laneRows : Obligations.LaneRows := by
  refine ⟨?lock, ?lost, ?deaf, ?silence, ?remote, ?ack, ?retry, ?eye, ?test, ?time, ?echo, ?preset, ?sampler⟩
  case lock =>
    intro t0 n s halive hstate
    have hstep : blockLock n.val (advance t0 s) = setLane n.val { laneOf s n.val with state := 2 } (advance t0 s) := if_pos hstate
    have h := laneTo_set n.val { laneOf s n.val with state := 2 } (advance t0 s)
    rw [← hstep] at h
    exact h.within.runs halive ⟨h.value, h.others, fun m => moduleOf_congr (h.within.keeps .modules rfl) m, h.within.only rfl⟩
  case lost =>
    intro t0 n tc s hcalm hrec
    have h := failLane_of_receives (s := advance t0 s) (cause := 1) (tc := tc) hrec (idle_of_calm hcalm t0)
    exact h.within.runs (f := failLane n.val 1 tc) hcalm.steady.running
      ⟨congrArg Lane.state h.value, congrArg Lane.cause h.value, congrArg Lane.failedAt h.value, congrArg Lane.lockLoss h.value,
        h.others⟩
  case deaf =>
    intro t0 n tc s halive hrec
    have hstep : failLane n.val 1 tc (advance t0 s) = advance t0 s := failLane_of_silent hrec
    have hwithin : Within [] (advance t0 s) (failLane n.val 1 tc (advance t0 s)) := hstep.symm ▸ .refl _ _
    exact hwithin.runs halive (hwithin.only rfl)
  case silence =>
    intro t0 n tc s hcalm hrec
    have h := failLane_of_receives (s := advance t0 s) (cause := 2) (tc := tc) hrec (idle_of_calm hcalm t0)
    exact h.within.runs (f := failLane n.val 2 tc) hcalm.steady.running
      ⟨congrArg Lane.state h.value, congrArg Lane.cause h.value, (congrArg Lane.lockLoss h.value).trans rfl, h.others⟩
  case remote =>
    intro t0 n lostB q hloss s hcalm hrec
    have h := failLane_of_receives (s := advance t0 s) (cause := 3) (tc := pastTime (advance t0 s) hloss.toNat) hrec
      (idle_of_calm hcalm t0)
    exact h.within.runs (f := fun s => failLane (2 * (n.val / 2) + b2n lostB) 3 (pastTime s hloss.toNat) s)
      hcalm.steady.running ⟨congrArg Lane.state h.value, congrArg Lane.cause h.value, h.others⟩
  case ack =>
    intro t0 n s r hcalm hrec hfind
    have hstep : revokeAckTimeout n.val (advance t0 s) = failLane n.val 5 r.detected { advance t0 s with esc := { s.esc with
        revokes := (s.esc.revokes.map fun x => { x with lanes := x.lanes.filter (· ≠ n.val) }).filter
          fun x => !x.lanes.isEmpty } } := by
      have hfind' : (advance t0 s).esc.revokes.find?
          (fun r => r.lanes.contains n.val && decide (r.detected + 20 * tpUs ≤ (advance t0 s).now)) = some r := hfind
      rw [revokeAckTimeout, hfind']
      rfl
    have h := failLane_of_receives (n := n.val) (cause := 5) (tc := r.detected) (s := { advance t0 s with esc := { s.esc with
      revokes := (s.esc.revokes.map fun x => { x with lanes := x.lanes.filter (· ≠ n.val) }).filter
        fun x => !x.lanes.isEmpty } }) hrec (idle_of_calm hcalm t0)
    rw [← hstep] at h
    have hwithin : Within (.revokes :: .lanes :: quietPieces) (advance t0 s) (revokeAckTimeout n.val (advance t0 s)) :=
      h.within.fromPatch rfl rfl
    refine hwithin.runsPrint hcalm.steady ⟨congrArg Lane.state h.value, congrArg Lane.cause h.value, fun x hx => ?_⟩
    rw [h.within.keeps .revokes rfl] at hx
    obtain ⟨y, -, rfl⟩ := List.mem_map.1 (List.mem_filter.1 hx).1
    simp
  case retry =>
    intro t0 n s halive hstate htime
    have hstep : laneRetry n.val (advance t0 s) = laneHunt n.val (advance t0 s) := if_pos ⟨hstate, htime⟩
    have h := laneHunt_to n.val (advance t0 s)
    rw [← hstep] at h
    exact h.within.runs halive ⟨congrArg Lane.state h.value, congrArg Lane.echoes h.value, congrArg Lane.delays h.value, h.others,
      h.within.only rfl⟩
  case eye =>
    intro t0 n l r u d dwell s hcalm hscan
    have h := eyeScanDone_of_host (s := advance t0 s) (left := l) (right := r) (upper := u) (lower := d) hscan
    exact h.within.runsCal hcalm rfl ⟨h.value, h.others, h.within.only rfl⟩
  case test =>
    intro t0 n e b l k loop end_ was s halive hstate htest hend
    have h := laneTestDone_of_ended (s := advance t0 s) (errors := e) (bits := b) (losses := l) (locked := k) hstate htest hend
    exact h.within.runs halive ⟨congrArg Lane.state h.value, congrArg Lane.test h.value, congrArg Lane.lockLoss h.value, h.others,
      h.within.only rfl⟩
  case time =>
    intro t0 s halive
    obtain ⟨hwithin, hin, hout⟩ := timeBlockSend_sent (advance t0 s)
    refine hwithin.runs halive ⟨fun n hn hlo hhi => ?_, hout, hwithin.only rfl⟩
    rw [hin n hn hlo hhi]
    exact ⟨rfl, rfl, tget_tset_same ..⟩
  case echo =>
    intro t0 n tag t2 fr ta t1 s hcalm hrec hdeparted
    obtain ⟨w, h, hdelays, hechoes, hleft⟩ := timeEcho_of_departed (s := advance t0 s) (t2 := t2.toNat) (fraction := fr.toNat)
      (turnaround := ta.toNat) hrec hdeparted (idle_of_calm hcalm t0)
    exact h.within.runs hcalm.steady.running ⟨(congrArg Lane.delays h.value).trans hdelays,
      (congrArg Lane.echoes h.value).trans hechoes, (congrArg Lane.departures h.value).trans hleft, h.others⟩
  case preset =>
    intro t0 n s hcalm hsampler
    have h := laneTo_set n.val (presetTaken (laneOf (advance t0 s) n.val)) (advance t0 s)
    rw [← nextIdleBlock_of_preset (s := advance t0 s) hsampler] at h
    exact h.within.runsCal hcalm rfl ⟨h.value, h.others, h.within.only rfl⟩
  case sampler =>
    intro t0 n p q s hcalm hsampler
    have h := (laneTo_set n.val (presetTaken (laneOf (advance t0 s) n.val)) (advance t0 s)).trans (laneTo_set n.val
      { presetTaken (laneOf (advance t0 s) n.val) with phase := p, volt := q, nextSampler := none } _)
    rw [← nextIdleBlock_of_sampler (s := advance t0 s) hsampler hcalm.noRuns] at h
    exact h.within.runsCal hcalm rfl ⟨congrArg Lane.phase h.value, congrArg Lane.volt h.value, congrArg Lane.nextSampler h.value,
      h.others, h.within.only rfl⟩

end Sys2Proof.Machine.Proofs
end

section
/-! SUPPORT. What heads report: receipts, blank pairs, acknowledgements, the end of a purge, IDENT and STATUS (R196 to R209). -/
namespace Sys2Proof.Machine.Laws
open Sys2Proof.Machine

variable {s t u : State} {l : List Piece} {m n : Nat} {g : Int} {t0 : Time}

/-! Pages whose lines are receipted -/

theorem consumePages_within (s : State) : Within pagePieces s (consumePages s) :=
  .each (fun _ _ => consumePage_within _ _) _ s

theorem settleFired_within (s : State) : Within pagePieces s (settleFired s) :=
  (((closeTickets_within s).mono rfl).trans (settlePitches_within _)).trans (consumePages_within _)

/-! Receipts (R202) -/

/-- A module whose group is receipted. -/
def groupTaken (g : Int) (h : HeadModule) : HeadModule :=
  { h with group := (g % 2 ^ 16).toNat, lines := h.lines.filter fun l => decide (l.slot / 64 ≠ g) }

theorem groupDone_within (m : Nat) (g : Int) (s : State) : Within (.modules :: recordPieces) s (groupDone m g s) :=
  (setModule_keeps (by rfl)).seq (closeTickets_within _) rfl

theorem moduleOf_groupDone (m : Nat) (g : Int) (s : State) :
    moduleOf (groupDone m g s) m = groupTaken g (moduleOf s m) := by
  rw [groupDone, moduleOf_congr ((closeTickets_within _).keeps .modules rfl)]
  exact moduleOf_setModule_same _ _ _

/-- A receipt that differs or is missing, counted. -/
def receiptCounted (m : Nat) (s : State) : State :=
  setModule m { moduleOf s m with mismatched := satInc 16 (moduleOf s m).mismatched }
    { s with hlk := { s.hlk with receiptErr := satInc 32 s.hlk.receiptErr } }

theorem receiptCounted_within (m : Nat) (s : State) : Within [.hlk, .modules] s (receiptCounted m s) :=
  (setModule_keeps (by rfl)).fromPatch rfl rfl

/-- The lines of a receipt that is bad are void, or in a purge marked. -/
def receiptVoids (m : Nat) (a b : Int) (s : State) : State :=
  match s.hlk.purge with
  | some p => { s with hlk := { s.hlk with purge := some { p with mismatch := true } } }
  | none => voidSlots 5 s.now m rowList a b s

theorem receiptVoids_within (m : Nat) (a b : Int) (s : State) : Within (.hlk :: voidPieces) s (receiptVoids m a b s) := by
  unfold receiptVoids
  split
  · exact .of_patch rfl
  · exact (voidSlots_within _ _ _ _ _ _ _).mono rfl

theorem receiptErr_receiptVoids (m : Nat) (a b : Int) (s : State) :
    (receiptVoids m a b s).hlk.receiptErr = s.hlk.receiptErr := by
  unfold receiptVoids
  split
  · rfl
  · exact (congrArg Hlk.receiptErr ((voidSlots_within _ _ _ _ _ _ _).keeps .hlk rfl) :)

theorem receiptBad_eq (m : Nat) (g : Int) (why received : Nat) (s : State) :
    ∃ a b d, receiptBad m g why received s = raise 0x2703 0x07 d (receiptVoids m a b (receiptCounted m s)) :=
  ⟨_, _, _, rfl⟩

theorem receiptBad_counted (m : Nat) (g : Int) (why received : Nat) (s : State) :
    let t := receiptBad m g why received s
    Within slotPieces s t
      ∧ moduleOf t m = { moduleOf s m with mismatched := satInc 16 (moduleOf s m).mismatched }
      ∧ t.hlk.receiptErr = satInc 32 s.hlk.receiptErr := by
  obtain ⟨a, b, d, h⟩ := receiptBad_eq m g why received s
  have hraised := raise_within 0x2703 0x07 d (receiptVoids m a b (receiptCounted m s))
  have hvoids := receiptVoids_within m a b (receiptCounted m s)
  dsimp only
  rw [h]
  refine ⟨((receiptCounted_within m s).mono rfl).trans (hvoids.seq hraised rfl), ?_, ?_⟩
  · rw [moduleOf_congr (hraised.keeps .modules rfl), moduleOf_congr (hvoids.keeps .modules rfl)]
    exact moduleOf_setModule_same _ _ _
  · rw [congrArg Hlk.receiptErr (hraised.keeps .hlk rfl)]
    exact receiptErr_receiptVoids m a b _

/-- What a receipt may change. -/
def receiptPieces : List Piece := .mem :: slotPieces

theorem receiptReceived_of_found {group : BitVec 16} {bitmap : BitVec 64} {crc : BitVec 32} {x : SentLine}
    (hfind : (moduleOf s (n / 2)).lines.find? (fun l => decide ((l.slot / 64) % 2 ^ 16 = (group.toNat : Int))) = some x) :
    let t := settleFired (receiptReceived n group bitmap crc s)
    Within receiptPieces s t ∧ moduleOf t (n / 2) = groupTaken (x.slot / 64)
      (if expectedReceipt (moduleOf s (n / 2)) (x.slot / 64) = (bitmap.toNat, crc.toNat) then moduleOf s (n / 2)
       else { moduleOf s (n / 2) with mismatched := satInc 16 (moduleOf s (n / 2)).mismatched }) := by
  have hstep : ∃ why, (why = 0 ↔ expectedReceipt (moduleOf s (n / 2)) (x.slot / 64) = (bitmap.toNat, crc.toNat)) ∧
      receiptReceived n group bitmap crc s = groupDone (n / 2) (x.slot / 64)
        (if why = 0 then s else receiptBad (n / 2) (x.slot / 64) why crc.toNat s) := by
    refine ⟨2 * b2n (decide ((expectedReceipt (moduleOf s (n / 2)) (x.slot / 64)).1 ≠ bitmap.toNat))
      + 4 * b2n (decide ((expectedReceipt (moduleOf s (n / 2)) (x.slot / 64)).2 ≠ crc.toNat)), ?_, ?_⟩
    · rw [Prod.ext_iff]
      by_cases h₁ : (expectedReceipt (moduleOf s (n / 2)) (x.slot / 64)).1 = bitmap.toNat <;>
        by_cases h₂ : (expectedReceipt (moduleOf s (n / 2)) (x.slot / 64)).2 = crc.toNat <;> simp [h₁, h₂, b2n]
    · unfold receiptReceived
      dsimp only
      rw [hfind]
  obtain ⟨why, hwhy, hstep⟩ := hstep
  dsimp only
  rw [hstep]
  have hbad := receiptBad_counted (n / 2) (x.slot / 64) why crc.toNat s
  have hjudged : Within slotPieces s (if why = 0 then s else receiptBad (n / 2) (x.slot / 64) why crc.toNat s) :=
    .ite (.refl _ s) hbad.1
  have hfired := settleFired_within (groupDone (n / 2) (x.slot / 64)
    (if why = 0 then s else receiptBad (n / 2) (x.slot / 64) why crc.toNat s))
  refine ⟨(((hjudged.mono rfl).andThen (groupDone_within _ _ _) rfl).andThen hfired rfl), ?_⟩
  rw [moduleOf_congr (hfired.keeps .modules rfl), moduleOf_groupDone]
  by_cases h : why = 0
  · rw [if_pos h, if_pos (hwhy.1 h)]
  · rw [if_neg h, if_neg fun h' => h (hwhy.2 h'), hbad.2.1]

theorem receiptTimeout_of_passed (hlines : groupLines (moduleOf s m) g ≠ [])
    (hcomplete : groupComplete s (moduleOf s m) g = true)
    (htime : maxTime ((groupLines (moduleOf s m) g).map fun x => maxTime x.instants) + 100 * tpUs ≤ s.now) :
    let t := settleFired (receiptTimeout m g s)
    Within receiptPieces s t ∧ moduleOf t m = groupTaken g
        { moduleOf s m with mismatched := satInc 16 (moduleOf s m).mismatched }
      ∧ t.hlk.receiptErr = satInc 32 s.hlk.receiptErr := by
  have hstep : receiptTimeout m g s = groupDone m g (receiptBad m g 1 0 s) := by
    unfold receiptTimeout
    dsimp only
    refine if_neg ?_
    simpa [hlines, hcomplete] using htime
  dsimp only
  rw [hstep]
  obtain ⟨hwithin, hmodule, hcount⟩ := receiptBad_counted m g 1 0 s
  have hdone := groupDone_within m g (receiptBad m g 1 0 s)
  have hfired := settleFired_within (groupDone m g (receiptBad m g 1 0 s))
  refine ⟨(((hwithin.mono rfl).andThen hdone rfl).andThen hfired rfl), ?_, ?_⟩
  · rw [moduleOf_congr (hfired.keeps .modules rfl), moduleOf_groupDone, hmodule]
  · rw [congrArg Hlk.receiptErr (hfired.keeps .hlk rfl)]
    exact (congrArg Hlk.receiptErr (hdone.keeps .hlk rfl) :).trans hcount

/-! Pairs fired blank (R199) -/

/-- A line with one of its pairs marked as fired blank. -/
def blanked (slot : Int) (cd : Bool) (x : SentLine) : SentLine :=
  if x.slot = slot then (if cd then { x with blankCD := true } else { x with blankAB := true }) else x

theorem blanked_slot (cd : Bool) (x : SentLine) :
    (blanked x.slot cd x).slot = x.slot
      ∧ (if cd then (blanked x.slot cd x).blankCD else (blanked x.slot cd x).blankAB) = true := by
  cases cd <;> simp [blanked]

/-- The event of a blank pair changes of its module only when it was last raised. -/
theorem lineErrEvents_kept (m : Nat) (slot : Int) (what k : Nat) (s : State) :
    Within (.modules :: eventPieces) s (lineErrEvents m slot what k s)
      ∧ (moduleOf (lineErrEvents m slot what k s) m).lines = (moduleOf s m).lines := by
  unfold lineErrEvents
  dsimp only
  split
  · refine ⟨(setModule_keeps (by rfl)).seq (raise_within _ _ _ _) rfl, ?_⟩
    rw [moduleOf_congr ((raise_within _ _ _ _).keeps .modules rfl), moduleOf_setModule_same]
  · refine ⟨(setModule_keeps (by rfl)).mono rfl, ?_⟩
    rw [moduleOf_setModule_same]

/-- The module with its pair marked, and the count of blank pairs. -/
def blankCounted (m : Nat) (slot : Int) (cd : Bool) (s : State) : State :=
  setModule m { moduleOf s m with lines := (moduleOf s m).lines.map (blanked slot cd) }
    { s with hlk := { s.hlk with lineErrs := satInc 32 s.hlk.lineErrs } }

theorem lineErr_of_fresh {q : BitVec 24} {cd : Bool} {cause : Nat} {x : SentLine}
    (hfind : (moduleOf s (n / 2)).lines.find? (fun l => decide (l.slot = expandSeq (moduleOf s (n / 2)).sentTop q)) = some x)
    (hfresh : (if cd then x.blankCD else x.blankAB) = false) :
    let t := lineErr n q cd cause s
    Within slotPieces s t ∧ t.hlk.lineErrs = satInc 32 s.hlk.lineErrs
      ∧ (moduleOf t (n / 2)).lines = (moduleOf s (n / 2)).lines.map (blanked x.slot cd) := by
  have hslot : x.slot = expandSeq (moduleOf s (n / 2)).sentTop q := of_decide_eq_true (List.find?_some hfind :)
  have hstep : ∃ what rows, lineErr n q cd cause s =
      if (lineErrEvents (n / 2) x.slot what 1 (blankCounted (n / 2) x.slot cd s)).hlk.purge.isSome
      then lineErrEvents (n / 2) x.slot what 1 (blankCounted (n / 2) x.slot cd s)
      else voidSlots 5 (lineErrEvents (n / 2) x.slot what 1 (blankCounted (n / 2) x.slot cd s)).now (n / 2) rows x.slot x.slot
        (lineErrEvents (n / 2) x.slot what 1 (blankCounted (n / 2) x.slot cd s)) := by
    refine ⟨256 * b2n cd + cause, if cd then [2, 3] else [0, 1], ?_⟩
    rw [hslot]
    unfold lineErr
    dsimp only
    rw [hfind]
    dsimp only
    rw [if_neg (by rw [hfresh]; exact Bool.false_ne_true)]
    rfl
  obtain ⟨what, rows, h⟩ := hstep
  have hset : Within [.hlk, .modules] s (blankCounted (n / 2) x.slot cd s) := (setModule_keeps (by rfl)).fromPatch rfl rfl
  obtain ⟨hevents, hlines⟩ := lineErrEvents_kept (n / 2) x.slot what 1 (blankCounted (n / 2) x.slot cd s)
  have hrest : ∀ v : State, Within voidPieces v (if v.hlk.purge.isSome then v
      else voidSlots 5 v.now (n / 2) rows x.slot x.slot v) := fun v => .ite (.refl _ v) (voidSlots_within _ _ _ _ _ _ _)
  dsimp only
  rw [h]
  have hvoids := hrest (lineErrEvents (n / 2) x.slot what 1 (blankCounted (n / 2) x.slot cd s))
  refine ⟨((hset.mono rfl).andThen hevents rfl).andThen hvoids rfl, ?_, ?_⟩
  · exact (congrArg Hlk.lineErrs (hvoids.keeps .hlk rfl) :).trans (congrArg Hlk.lineErrs (hevents.keeps .hlk rfl) :)
  · rw [moduleOf_congr (hvoids.keeps .modules rfl), hlines, blankCounted, moduleOf_setModule_same]

theorem lineErr_of_again {q : BitVec 24} {cd : Bool} {cause : Nat} {x : SentLine}
    (hfind : (moduleOf s (n / 2)).lines.find? (fun l => decide (l.slot = expandSeq (moduleOf s (n / 2)).sentTop q)) = some x)
    (hagain : (if cd then x.blankCD else x.blankAB) = true) : lineErr n q cd cause s = s := by
  unfold lineErr
  dsimp only
  rw [hfind]
  exact if_pos hagain

/-! Acknowledgements (R171, R200, R206) -/

theorem keepOld_within (m : Nat) (r : Revoke) (a : Int) (s : State) : Within [.esc, .modules] s (keepOld m r a s) :=
  (setModule_keeps (by rfl)).fromPatch rfl rfl

/-- The revocations with one lane's answer. -/
def answered (n : Nat) (r : Revoke) (l : List Revoke) : List Revoke :=
  (l.map fun x => if x.gen = r.gen then { x with lanes := x.lanes.filter (· ≠ n), noted := n / 2 :: x.noted } else x).filter
    fun x => !x.lanes.isEmpty

theorem notMem_of_answered {r x : Revoke} {l : List Revoke} (hx : x ∈ answered n r l) (hgen : x.gen = r.gen) : n ∉ x.lanes := by
  obtain ⟨y, -, rfl⟩ := List.mem_map.1 (List.mem_filter.1 hx).1
  by_cases hy : y.gen = r.gen
  · simp [hy]
  · rw [if_neg hy] at hgen
    exact absurd hgen hy

theorem revokeAck_of_found {gen : BitVec 8} {q : BitVec 24} {r : Revoke}
    (hfind : s.esc.revokes.find? (fun r => r.gen.toNat % 256 = gen.toNat ∧ r.lanes.contains n) = some r) :
    let t := revokeAck n gen q s
    Within (.esc :: .revokes :: .modules :: eventPieces) s t ∧ t.esc.revokes = answered n r s.esc.revokes := by
  have hstep : (∃ a d, revokeAck n gen q s = raise 0x2603 0x06 d
        (keepOld (n / 2) r a { s with esc := { s.esc with revokes := answered n r s.esc.revokes } }))
      ∨ revokeAck n gen q s = { s with esc := { s.esc with revokes := answered n r s.esc.revokes } } := by
    unfold revokeAck
    dsimp only
    rw [hfind]
    dsimp only
    split
    · exact .inl ⟨_, _, rfl⟩
    · exact .inr rfl
  dsimp only
  obtain ⟨a, d, h⟩ | h := hstep
  · have hkept := (keepOld_within (n / 2) r a { s with esc := { s.esc with revokes := answered n r s.esc.revokes } }).seq
      (raise_within 0x2603 0x06 d _) (m := .esc :: .modules :: eventPieces) rfl
    rw [h]
    exact ⟨hkept.fromPatch rfl rfl, hkept.keeps .revokes rfl⟩
  · rw [h]
    exact ⟨.of_patch rfl, rfl⟩

theorem failoverAck_of_pending {f : Bool × Nat × Time × Int} (hfail : (moduleOf s (n / 2)).failover = some f) :
    ∃ d, failoverAck n s = raise 0x2701 0x07 d (setModule (n / 2) { moduleOf s (n / 2) with failover := none } s) := by
  obtain ⟨lostB, cause, late, sf⟩ := f
  unfold failoverAck
  dsimp only
  rw [hfail]
  exact ⟨_, rfl⟩

/-! Restoration (R207) -/

theorem moduleUsable_of_state {new : Nat} (h : new = 2 ∨ new = 3 ∨ new = 4) (hstate : (moduleOf s m).state = new) :
    moduleUsable s m = true := by
  rw [moduleUsable, hstate]
  obtain rfl | rfl | rfl := h <;> rfl

theorem enterModule_of_usable {new : Nat} (hnew : new = 2 ∨ new = 3 ∨ new = 4) (hother : (moduleOf s m).state ≠ new)
    (hold : moduleUsable s m = true) :
    enterModule m new s = setModule m { moduleOf s m with state := new } s := by
  have huse : moduleUsable (setModule m { moduleOf s m with state := new } s) m = true :=
    moduleUsable_of_state hnew (by rw [moduleOf_setModule_same])
  have hfive : new ≠ 5 := by omega
  rw [enterModule_eq, if_neg hother, huse, hold]
  unfold stateEnds
  dsimp only
  rw [if_neg hfive]
  split <;> rfl

theorem restoreModule_restored (h : restorable s m = true) :
    let t := restoreModule m s
    Within (.modules :: eventPieces) s t ∧ moduleOf t m = { moduleOf s m with state := 2, timeB := false }
      ∧ ∀ k, k ≠ m → moduleOf t k = moduleOf s k := by
  have hstate : (moduleOf s m).state = 3 ∨ (moduleOf s m).state = 4 := by
    simp only [restorable, Bool.and_eq_true, Bool.or_eq_true, beq_iff_eq] at h
    exact h.1.1
  have henter : enterModule m 2 s = setModule m { moduleOf s m with state := 2 } s := by
    refine enterModule_of_usable (.inl rfl) (by omega) ?_
    obtain hs | hs := hstate
    · exact moduleUsable_of_state (.inr (.inl rfl)) hs
    · exact moduleUsable_of_state (.inr (.inr rfl)) hs
  have hstep : ∃ d, restoreModule m s = raise 0x1702 0x07 d (if printingMode s.hub.mode then
      each [2 * m, 2 * m + 1] (fun n => sendControl n (splitBlock ((moduleOf s m).sentTop + 1)))
        (setModule m { moduleOf s m with state := 2, timeB := false } (setModule m { moduleOf s m with state := 2 } s))
      else setModule m { moduleOf s m with state := 2, timeB := false } (setModule m { moduleOf s m with state := 2 } s)) := by
    unfold restoreModule
    dsimp only
    rw [henter, moduleOf_setModule_same]
    exact ⟨_, rfl⟩
  obtain ⟨d, hd⟩ := hstep
  dsimp only
  rw [hd]
  have hset : Within [.modules] s (setModule m { moduleOf s m with state := 2, timeB := false }
      (setModule m { moduleOf s m with state := 2 } s)) := by
    refine .trans (setModule_keeps ?_) (setModule_keeps ?_)
    · rfl
    · rw [moduleOf_setModule_same]
      rfl
  have hrest := (Within.ite (c := printingMode s.hub.mode = true) (.each (l := [.out]) (fun n u => sendControl_within n
    (splitBlock ((moduleOf s m).sentTop + 1)) u) [2 * m, 2 * m + 1] _) (.refl _ (setModule m
      { moduleOf s m with state := 2, timeB := false } (setModule m { moduleOf s m with state := 2 } s)))).seq
    (raise_within 0x1702 0x07 d _) (m := eventPieces) rfl
  refine ⟨hset.seq hrest rfl, ?_, fun k hk => ?_⟩
  · rw [moduleOf_congr (hrest.keeps .modules rfl), moduleOf_setModule_same]
  · rw [moduleOf_congr (hrest.keeps .modules rfl), moduleOf_setModule_of_ne _ _ hk, moduleOf_setModule_of_ne _ _ hk]

theorem restoreHold_of_held {since : Time} (hauto : bit (u8 (hlkCfg s) 1) 0 = true) (hrestorable : restorable s m = true)
    (hsince : (laneOf s (if (moduleOf s m).state = 3 then 2 * m + 1 else 2 * m)).opSince = some since)
    (htime : since + u16 (hlkCfg s) 2 * tpMs ≤ s.now) : restoreHold m s = restoreModule m s := by
  simp only [restoreHold, hsince, hauto, hrestorable, htime, decide_true, Bool.and_self, if_true]

/-! The end of a purge (R209) -/

theorem purgeEnd_of_done {p : Purge} (hpurge : s.hlk.purge = some p) (hcut : p.cut = none)
    (hpassed : purgeInstant p (p.first + p.count - 1) ≤ s.now)
    (hsent : ∀ m ∈ purgeModules p, p.first + p.count - 1 ≤ (moduleOf s m).sentTop ∧ (moduleOf s m).lines = []) :
    Within (.esc :: .hlk :: .modules :: eventPieces) s (purgeEnd s) ∧ (purgeEnd s).hlk.purge = none := by
  have hspan : purgeSpan p = (p.first, p.first + p.count - 1) := by rw [purgeSpan, hcut]
  have hall : (decide (p.first + p.count - 1 < p.first) || decide (purgeInstant p (p.first + p.count - 1) ≤ s.now)) = true := by
    rw [decide_eq_true hpassed, Bool.or_true]
  have htops : (purgeModules p).all (fun m => decide (p.first + p.count - 1 ≤ (moduleOf s m).sentTop)) = true :=
    List.all_eq_true.2 fun m hm => decide_eq_true (hsent m hm).1
  have hlines : (purgeModules p).all (fun m => !moduleUsable s m ||
      !(moduleOf s m).lines.any fun l => !l.withdrawn && decide (p.first ≤ l.slot)) = true :=
    List.all_eq_true.2 fun m hm => by rw [(hsent m hm).2]; simp
  have hstep : ∃ d, purgeEnd s = raise 0x1705 0x07 d (raiseMark
      { each (purgeModules p) (fun m s => setModule m { moduleOf s m with lines := [] } s) s with
        hlk := { (each (purgeModules p) (fun m s => setModule m { moduleOf s m with lines := [] } s) s).hlk with
          purge := none } }) := by
    unfold purgeEnd
    rw [hpurge]
    dsimp only
    rw [hspan]
    dsimp only
    rw [hall, htops, hlines, Bool.or_true]
    exact ⟨_, rfl⟩
  obtain ⟨d, hd⟩ := hstep
  rw [hd]
  have hemptied : Within [.modules] s (each (purgeModules p) (fun m s => setModule m { moduleOf s m with lines := [] } s) s) :=
    .each (fun _ _ => setModule_keeps (by rfl)) _ s
  generalize each (purgeModules p) (fun m s => setModule m { moduleOf s m with lines := [] } s) s = v at hemptied ⊢
  have hraised := raise_within 0x1705 0x07 d (raiseMark { v with hlk := { v.hlk with purge := none } })
  exact ⟨(hemptied.mono rfl).trans (((raiseMark_within _).seq hraised (m := .esc :: eventPieces) rfl).fromPatch rfl rfl),
    (congrArg Hlk.purge (hraised.keeps .hlk rfl) :)⟩

end Sys2Proof.Machine.Laws

namespace Sys2Proof.Machine.Proofs
open Sys2Proof.Machine Sys2Proof.Machine.Laws

/-- Settles O34: each report changes its own module's lines, and voids and pages that follow leave the modules alone. -/
theorem headReportRows : Obligations.HeadReportRows := by
  refine ⟨?receipt, ?timeout, ?blank, ?again, ?ack, ?failover, ?restore, ?purge⟩
  case receipt =>
    intro t0 n g bm crc l s hcalm hfind
    have h := receiptReceived_of_found (s := advance t0 s) (bitmap := bm) (crc := crc) hfind
    obtain ⟨hwithin, hmodule⟩ := h
    refine hwithin.runsPrint (f := fun s => settleFired (receiptReceived n.val g bm crc s)) hcalm.steady ?_
    rw [hmodule]
    by_cases hexp : expectedReceipt (moduleOf s (n.val / 2)) (l.slot / 64) = (bm.toNat, crc.toNat)
    · have hexp' : expectedReceipt (moduleOf (advance t0 s) (n.val / 2)) (l.slot / 64) = (bm.toNat, crc.toNat) := hexp
      rw [if_pos hexp, if_pos hexp']
      exact ⟨rfl, rfl, rfl⟩
    · have hexp' : ¬ expectedReceipt (moduleOf (advance t0 s) (n.val / 2)) (l.slot / 64) = (bm.toNat, crc.toNat) := hexp
      rw [if_neg hexp, if_neg hexp']
      exact ⟨rfl, rfl, rfl⟩
  case timeout =>
    intro t0 m g s hcalm hlines hcomplete htime
    obtain ⟨hwithin, hmodule, hcount⟩ := receiptTimeout_of_passed (s := advance t0 s) hlines hcomplete htime
    refine hwithin.runsPrint (f := fun s => settleFired (receiptTimeout m.val g s)) hcalm.steady ?_
    rw [hmodule]
    exact ⟨rfl, rfl, hcount⟩
  case blank =>
    intro t0 n q cd cause l s hcalm hfind hfresh
    obtain ⟨hwithin, hcount, hlines⟩ := lineErr_of_fresh (s := advance t0 s) (cause := cause.toNat) hfind hfresh
    refine hwithin.runs hcalm.steady.running ⟨hcount, ?_⟩
    rw [hlines]
    exact ⟨_, List.mem_map_of_mem (List.mem_of_find?_eq_some hfind), blanked_slot cd l⟩
  case again =>
    intro t0 n q cd cause l s hcalm hfind hagain
    have hstep : lineErr n.val q cd cause.toNat (advance t0 s) = advance t0 s :=
      lineErr_of_again (s := advance t0 s) hfind hagain
    have hwithin : Within [] (advance t0 s) (lineErr n.val q cd cause.toNat (advance t0 s)) := hstep.symm ▸ .refl _ _
    exact hwithin.runs hcalm.steady.running (hwithin.only rfl)
  case ack =>
    intro t0 n gen a r s hcalm hfind
    obtain ⟨hwithin, hrevokes⟩ := revokeAck_of_found (s := advance t0 s) (q := a) hfind
    refine hwithin.runsPrint (f := fun s => if false then failoverAck n.val s else revokeAck n.val gen a s) hcalm.steady
      ⟨fun x hx hgen => ?_, hwithin.only rfl⟩
    exact notMem_of_answered (hrevokes ▸ hx) hgen
  case failover =>
    intro t0 n gen a f s hcalm hfail
    obtain ⟨d, hstep⟩ := failoverAck_of_pending (s := advance t0 s) hfail
    have hraised := raise_within 0x2701 0x07 d (setModule (n.val / 2)
      { moduleOf (advance t0 s) (n.val / 2) with failover := none } (advance t0 s))
    have hwithin : Within (.modules :: eventPieces) (advance t0 s) (failoverAck n.val (advance t0 s)) :=
      hstep ▸ (setModule_keeps (by rfl)).seq hraised rfl
    refine hwithin.runsPrint (f := fun s => if true then failoverAck n.val s else revokeAck n.val gen a s) hcalm.steady
      ⟨?_, fun k hk => ?_, hwithin.only rfl⟩
    · refine (moduleOf_congr (hstep ▸ hraised.keeps .modules rfl) _).trans ?_
      exact moduleOf_setModule_same _ _ _
    · refine (moduleOf_congr (hstep ▸ hraised.keeps .modules rfl) _).trans ?_
      exact moduleOf_setModule_of_ne _ _ hk
  case restore =>
    intro t0 m since s halive hauto hrestorable hsince htime
    have hstep : restoreHold m.val (advance t0 s) = restoreModule m.val (advance t0 s) :=
      restoreHold_of_held (s := advance t0 s) hauto hrestorable hsince htime
    obtain ⟨hwithin, hmodule, hothers⟩ := restoreModule_restored (s := advance t0 s) hrestorable
    rw [← hstep] at hwithin hmodule hothers
    refine hwithin.runs halive ⟨congrArg HeadModule.state hmodule, congrArg HeadModule.timeB hmodule, hothers,
      fun k => laneOf_congr (hwithin.keeps .lanes rfl) k, hwithin.only rfl⟩
  case purge =>
    intro t0 p s halive hpurge _ _ hpassed hcut hsent
    obtain ⟨hwithin, hnone⟩ := purgeEnd_of_done (s := advance t0 s) hpurge hcut hpassed hsent
    exact hwithin.runs halive ⟨hnone, fun k => laneOf_congr (hwithin.keeps .lanes rfl) k, hwithin.only rfl⟩

end Sys2Proof.Machine.Proofs
end

section
/-! SUPPORT. IDENT and STATUS of a head (R196, R203, R204, R277), and the corrections of a module that is another (R271). -/
namespace Sys2Proof.Machine.Laws
open Sys2Proof.Machine

variable {s t u : State} {l : List Piece} {m n : Nat} {t0 : Time}

/-! Line changes that no calibration run asked for -/

theorem announceChange_ofNoRun {c : PendingChange} (hrun : c.run = 0) (line : Int) (s : State) :
    Within eventPieces s (announceChange c line s) := by
  unfold announceChange
  dsimp only
  rw [if_pos hrun]
  split
  · exact raise_within _ _ _ _
  · exact .refl _ s

/-- What a line change may change that no calibration run asked for. -/
def ownChangePieces : List Piece := .grt :: .esc :: eventPieces

theorem changeNow_ofNoRun {c : PendingChange} (hrun : c.run = 0) (s : State) : Within ownChangePieces s (changeNow c s) :=
  ((announceChange_ofNoRun hrun _ s).seq (settleChange_within _ _) rfl).trans
    (.ite ((newGeneration_within _ _ _).mono rfl) (.refl _ _))

theorem makeChange_ofNoRun (change : LineChange) (source : Nat) (s : State) :
    Within ownChangePieces s (makeChange change source 0 s) :=
  .ite (((fixChangeLines_within _).fromPatch rfl rfl).mono (l := [.grt]) rfl) (changeNow_ofNoRun rfl _)

/-! Another module's corrections are forgotten (R271) -/

/-- What forgetting the corrections of a module may change. -/
def forgetPieces : List Piece := .cal :: .mss :: ownChangePieces

theorem forgetCorrection_within {e : Nat × Nat} (htype : e.1 = 6 ∨ e.1 = 7 ∨ e.1 = 8) (s : State) :
    Within forgetPieces s (forgetCorrection s e) := by
  have hdefault : Within ownChangePieces s (defaultCorrection e.1 e.2 s) := by
    unfold defaultCorrection
    dsimp only
    rw [if_pos htype]
    exact makeChange_ofNoRun _ _ _
  exact (hdefault.mono rfl).trans (.of_patch rfl)

theorem Within.foldl_mem {α : Type} {f : State → α → State} {xs : List α} (hf : ∀ a ∈ xs, ∀ s, Within l s (f s a)) (s : State) :
    Within l s (xs.foldl f s) := by
  induction xs generalizing s with
  | nil => exact .refl l s
  | cons a r ih => exact (hf a List.mem_cons_self s).trans (ih (fun b hb => hf b (List.mem_cons_of_mem _ hb)) (f s a))

/-- The corrections that a module and its joins hold. -/
def moduleCorrections (m : Nat) : List (Nat × Nat) :=
  [(6, m), (8, m)] ++ ((if 0 < m then [m - 1] else []) ++ (if m < 23 then [m] else [])).map fun j => (7, j)

theorem moduleCorrections_type {e : Nat × Nat} (h : e ∈ moduleCorrections m) : e.1 = 6 ∨ e.1 = 7 ∨ e.1 = 8 := by
  obtain h | h := List.mem_append.1 h
  · simp only [List.mem_cons, List.not_mem_nil, or_false] at h
    obtain rfl | rfl := h
    · exact .inl rfl
    · exact .inr (.inr rfl)
  · obtain ⟨j, -, rfl⟩ := List.mem_map.1 h
    exact .inr (.inl rfl)

theorem serialCheck_within (m : Nat) (s : State) : Within forgetPieces s (serialCheck m s) := by
  unfold serialCheck
  split
  · exact .refl _ s
  · refine .ite (.refl _ s) ?_
    exact (Within.foldl_mem (xs := moduleCorrections m) (fun e he u => forgetCorrection_within (moduleCorrections_type he) u)
      s).trans (.of_patch rfl)

/-! IDENT (R203) -/

/-- What an IDENT that is accepted may change. -/
def identPieces : List Piece := .lanes :: .reports :: quietPieces

theorem identReceived_accepted {id : Ident} (hrec : laneReceives s n = true) (hstate : (moduleOf s (n / 2)).state ≠ 0)
    (hfault : identFault s n id = none) (hs : Idle s) :
    let t := identReceived n id s
    Within identPieces s t ∧ (moduleOf t (n / 2)).ident = some id ∧ (laneOf t n).ident = true
      ∧ ∀ k, k ≠ n → laneOf t k = laneOf s k := by
  have hstep : identReceived n id s = tryOperational n (setLane n { laneOf s n with ident := true }
      (setModule (n / 2) { moduleOf s (n / 2) with ident := some id } s)) := by
    unfold identReceived
    rw [hfault, if_neg (by simp [hrec, hstate])]
    rfl
  have hmodule := setModule_within (n / 2) { moduleOf s (n / 2) with ident := some id } s
  have hlane := ((laneTo_set n { laneOf s n with ident := true }
    (setModule (n / 2) { moduleOf s (n / 2) with ident := some id } s)).mono (l' := identPieces) rfl).afterLane hmodule rfl rfl
  obtain ⟨v, hto, hv⟩ := tryOperational_to n (hlane.within.idle rfl hs)
  have htold := hto.within.keeps .reports rfl (n / 2)
  have hall := hlane.trans (hto.mono (l' := identPieces) rfl)
  dsimp only
  rw [hstep]
  refine ⟨hall.within, ?_, ?_, hall.others⟩
  · refine (congrArg Prod.fst htold).trans ?_
    exact congrArg HeadModule.ident (moduleOf_setModule_same (n / 2) { moduleOf s (n / 2) with ident := some id } s)
  · rw [hto.value]
    rw [hlane.value] at hv
    obtain rfl | rfl := hv <;> rfl

/-! A module that is refused (R203) -/

/-- A cut purge changes of its modules the lines only. -/
theorem state_purgeCut (status k : Nat) (s : State) :
    (moduleOf (purgeCut status s) k).state = (moduleOf s k).state := by
  unfold purgeCut
  split
  · rfl
  · dsimp only
    split
    · rfl
    · refine each_keeps (g := fun u => (moduleOf u k).state) (fun m _ u => ?_) _
      rw [moduleOf_congr ((sendModule_within _ _ _).keeps .modules rfl)]
      by_cases hk : k = m
      · rw [hk, moduleOf_setModule_same]
      · rw [moduleOf_setModule_of_ne _ _ hk]

theorem state_stateEnds {new : Nat} (hnew : new ≠ 5) (now : Bool) (k : Nat) (s : State) :
    (moduleOf (stateEnds m new now s) k).state = (moduleOf s k).state := by
  unfold stateEnds
  dsimp only
  rw [if_neg hnew]
  split
  · split
    · exact state_purgeCut _ _ _
    · rfl
  · rfl

theorem state_enterModule {new : Nat} (hnew : new ≠ 5) (s : State) : (moduleOf (enterModule m new s) m).state = new := by
  rw [enterModule_eq]
  split
  next h => exact h
  · rw [state_stateEnds hnew, moduleOf_congr ((useChanged_within _ _ _ _).keeps .modules rfl), moduleOf_setModule_same]

/-- A REFUSED module that is lost stays REFUSED. -/
theorem loseModule_of_refused {cause : Nat} (h : (moduleOf s m).state = 6) :
    Within (.hub :: .modules :: voidPieces) s (loseModule m cause s) ∧ (moduleOf (loseModule m cause s) m).state = 6 := by
  have hset : Within [.modules] s (setModule m { moduleOf s m with lines := [], failover := none, lossCause := cause } s) :=
    setModule_keeps rfl
  have hstep : ∃ slot, loseModule m cause s = closeTickets (moduleLost m cause slot
      (if (setModule m { moduleOf s m with lines := [], failover := none, lossCause := cause } s).hub.mode = .print
          ∨ (setModule m { moduleOf s m with lines := [], failover := none, lossCause := cause } s).hub.mode = .drain
        then lossPrinting m slot (setModule m { moduleOf s m with lines := [], failover := none, lossCause := cause } s)
        else setModule m { moduleOf s m with lines := [], failover := none, lossCause := cause } s)) := by
    refine ⟨firstSlotFrom s (s.now + 2 * tpUs), ?_⟩
    unfold loseModule
    dsimp only
    rw [if_pos h]
  obtain ⟨slot, hstep⟩ := hstep
  rw [hstep]
  have hmid : (moduleOf (setModule m { moduleOf s m with lines := [], failover := none, lossCause := cause } s) m).state = 6 := by
    rw [moduleOf_setModule_same]
    exact h
  generalize setModule m { moduleOf s m with lines := [], failover := none, lossCause := cause } s = v at hset hmid ⊢
  have hrest : Within (.hub :: voidPieces) v (closeTickets (moduleLost m cause slot
      (if v.hub.mode = .print ∨ v.hub.mode = .drain then lossPrinting m slot v else v))) :=
    ((Within.ite (lossPrinting_within _ _ _) (.refl _ v)).andThen (moduleLost_within _ _ _ _) rfl).andThen
      (closeTickets_within _) rfl
  exact ⟨(hset.mono rfl).andThen hrest rfl, by rw [moduleOf_congr (hrest.keeps .modules rfl), hmid]⟩

theorem refuseModule_refused (m n reason : Nat) (i : Ident) (hs : Idle s) :
    Within quietPieces s (refuseModule m n reason i s) ∧ (moduleOf (refuseModule m n reason i s) m).state = 6 := by
  have henter := enterModule_quiet m 6 hs
  have hset : Within quietPieces s (setModule m { moduleOf (enterModule m 6 s) m with huntA := false, huntB := false }
      (enterModule m 6 s)) := (henter.mono rfl).andThen (setModule_keeps rfl) rfl
  have hsix : (moduleOf (setModule m { moduleOf (enterModule m 6 s) m with huntA := false, huntB := false }
      (enterModule m 6 s)) m).state = 6 := by
    rw [moduleOf_setModule_same]
    exact state_enterModule (by decide) s
  have hstep : ∃ d, refuseModule m n reason i s =
      if printingMode (raise 0x3703 0x07 d (setModule m { moduleOf (enterModule m 6 s) m with huntA := false, huntB := false }
        (enterModule m 6 s))).hub.mode
      then loseModule m 3 (raise 0x3703 0x07 d (setModule m { moduleOf (enterModule m 6 s) m with huntA := false, huntB := false }
        (enterModule m 6 s)))
      else raise 0x3703 0x07 d (setModule m { moduleOf (enterModule m 6 s) m with huntA := false, huntB := false }
        (enterModule m 6 s)) := ⟨_, rfl⟩
  obtain ⟨d, hd⟩ := hstep
  rw [hd]
  have hraised := raise_within 0x3703 0x07 d (setModule m
    { moduleOf (enterModule m 6 s) m with huntA := false, huntB := false } (enterModule m 6 s))
  have hsix' := (congrArg HeadModule.state (moduleOf_congr (hraised.keeps .modules rfl) m) :).trans hsix
  have hall := hset.andThen hraised rfl
  obtain ⟨hlost, hstill⟩ := loseModule_of_refused (cause := 3) hsix'
  split
  · exact ⟨hall.andThen hlost rfl, hstill⟩
  · exact ⟨hall, hsix'⟩

theorem identReceived_refused {id : Ident} {r : Nat} (hrec : laneReceives s n = true)
    (hstate : (moduleOf s (n / 2)).state ≠ 0) (hfault : identFault s n id = some r) :
    identReceived n id s = refuseModule (n / 2) n r id s := by
  unfold identReceived
  rw [hfault, if_neg (by simp [hrec, hstate])]

/-! STATUS (R196, R277) -/

theorem fixLines_within (s : State) : Within [.grt, .out] s (fixLines s) := by
  refine Within.trans ((fixChangeLines_within s).mono rfl) (.each (fun c u => ?_) _ _)
  split
  · exact (sendModule_within _ _ _).mono rfl
  · exact .refl _ u

theorem reportBand_within (m new : Nat) (s : State) : Within ownChangePieces s (reportBand m new s) := by
  unfold reportBand
  split
  · split
    · exact (sendModule_within _ _ _).fromPatch rfl rfl
    · exact .of_patch rfl
  · refine .ite ((fixLines_within _).fromPatch rfl rfl) ?_
    exact (makeChange_ofNoRun _ _ s).trans (.ite ((sendWave_within _ _).mono rfl) (.refl _ _))

theorem updateHeadBand_within (m : Nat) (s : State) : Within (.thm :: ownChangePieces) s (updateHeadBand m s) := by
  unfold updateHeadBand
  split
  · exact .refl _ s
  · exact .ite (.refl _ s) (.fromPatch ((reportBand_within _ _ _).seq (raise_within _ _ _ _) (m := ownChangePieces) rfl) rfl rfl)

/-- A reading that is valid is taken. -/
def readIfValid (i : Nat) (v : Option Int) (s : State) : State :=
  match v with
  | some v => takeReading i v s
  | none => s

theorem headSensorReading_eq (m : Nat) (a b : Option Int) (s : State) :
    headSensorReading m a b s =
      evaluateThermal (updateHeadBand m (readIfValid (17 + 2 * m) b (readIfValid (16 + 2 * m) a s))) := rfl

theorem readIfValid_within (i : Nat) (v : Option Int) (s : State) : Within [.sensors] s (readIfValid i v s) := by
  cases v with
  | none => exact .refl _ s
  | some v => exact setSensor_within _ _ _

theorem readIfValid_of_ne {i k : Nat} (v : Option Int) (h : k ≠ i) (s : State) :
    sensorOf (readIfValid i v s) k = sensorOf s k := by
  cases v with
  | none => rfl
  | some v => exact sensorOf_setSensor_of_ne _ _ h

theorem raw_takeReading (i : Nat) (v : Int) (s : State) : (sensorOf (takeReading i v s) i).raw = some v := by
  rw [takeReading_eq, sensorOf_setSensor_same]
  rfl

/-- What the readings of a head bring about may change. -/
def headPieces : List Piece := .sensors :: .grt :: demandPieces

theorem headSensorReading_taken (m : Nat) (a b : Option Int) (s : State) :
    let t := headSensorReading m a b s
    Within headPieces s t ∧ (∀ v, a = some v → (sensorOf t (16 + 2 * m)).raw = some v) ∧
      ∀ v, b = some v → (sensorOf t (17 + 2 * m)).raw = some v := by
  have hread := (readIfValid_within (16 + 2 * m) a s).trans (readIfValid_within (17 + 2 * m) b _)
  have hrest := ((updateHeadBand_within m (readIfValid (17 + 2 * m) b (readIfValid (16 + 2 * m) a s))).mono
    (l' := .grt :: demandPieces) rfl).andThen (evaluateThermal_within _) rfl
  have hsensors := fun i => sensorOf_congr (hrest.keeps .sensors rfl) i
  dsimp only
  rw [headSensorReading_eq]
  refine ⟨(hread.mono rfl).andThen hrest rfl, fun v hv => ?_, fun v hv => ?_⟩
  · rw [hsensors, readIfValid_of_ne _ (by omega), hv]
    exact raw_takeReading _ _ _
  · rw [hsensors, hv]
    exact raw_takeReading _ _ _

/-- The lanes' receive locks are as they were. -/
def SameLocks (s t : State) : Prop := ∀ k, (laneOf t k).rxLock = (laneOf s k).rxLock

theorem SameLocks.trans (hst : SameLocks s t) (htu : SameLocks t u) : SameLocks s u := fun k => (htu k).trans (hst k)

theorem Within.sameLocks (h : Within l s t) (hl : l.contains .lanes = false) : SameLocks s t := fun k => by
  rw [laneOf_congr (h.keeps .lanes hl)]

theorem tryOperational_kept (n : Nat) (hs : Idle s) :
    Within (.lanes :: quietPieces) s (tryOperational n s) ∧ SameLocks s (tryOperational n s) := by
  obtain ⟨v, hto, hv⟩ := tryOperational_to n hs
  refine ⟨hto.within, fun k => ?_⟩
  by_cases hk : k = n
  · rw [hk, hto.value]
    obtain rfl | rfl := hv <;> rfl
  · rw [hto.others k hk]

/-- A module with the readings of its STATUS. -/
def withStatus (st : HeadStatus) (h : HeadModule) : HeadModule :=
  { h with sensor0 := st.sensor0.getD h.sensor0, sensor1 := st.sensor1.getD h.sensor1 }

/-- The module's readings and its lanes' locks as STATUS gives them. -/
def statusTaken (m : Nat) (st : HeadStatus) (s : State) : State :=
  let s := setModule m (withStatus st (moduleOf s m)) s
  let s := setLane (2 * m) { laneOf s (2 * m) with rxLock := st.lockA } s
  setLane (2 * m + 1) { laneOf s (2 * m + 1) with rxLock := st.lockB } s

theorem statusTaken_taken (m : Nat) (st : HeadStatus) (s : State) :
    let t := statusTaken m st s
    Within [.lanes, .modules, .reports] s t ∧ moduleOf t m = withStatus st (moduleOf s m)
      ∧ (laneOf t (2 * m)).rxLock = st.lockA ∧ (laneOf t (2 * m + 1)).rxLock = st.lockB := by
  have hne : 2 * m ≠ 2 * m + 1 := by omega
  refine ⟨?_, ?_, ?_, ?_⟩
  · exact ((setModule_within _ _ s).mono rfl).trans (((setLane_within _ _ _).trans (setLane_within _ _ _)).mono rfl)
  · exact moduleOf_setModule_same m _ s
  · exact (congrArg Lane.rxLock ((laneOf_setLane_of_ne _ _ hne).trans (laneOf_setLane_same _ _ _)) :)
  · exact (congrArg Lane.rxLock (laneOf_setLane_same _ _ _) :)

theorem statusLink_eq {st : HeadStatus} (hrec : laneReceives s n = true) :
    let u := tryOperational (2 * (n / 2) + 1) (tryOperational (2 * (n / 2)) (statusTaken (n / 2) st s))
    statusLink n st s = if st.fireFault && printingMode u.hub.mode && moduleUsable u (n / 2) then loseModule (n / 2) 2 u else u :=
  if_neg (by rw [hrec]; decide)

theorem sensors_of_told {h k : HeadModule} (heq : told h = told k) : h.sensor0 = k.sensor0 ∧ h.sensor1 = k.sensor1 := by
  simpa only [told, Prod.mk.injEq] using (Prod.mk.inj heq).2

/-- What STATUS may change. -/
def statusPieces : List Piece := .lanes :: .reports :: .grt :: demandPieces ++ quietPieces

theorem statusReceived_taken {st : HeadStatus} (hrec : laneReceives s n = true) (hs : Idle s) :
    let t := statusReceived n st s
    Within statusPieces s t ∧ (laneOf t (2 * (n / 2))).rxLock = st.lockA ∧ (laneOf t (2 * (n / 2) + 1)).rxLock = st.lockB
      ∧ (moduleOf t (n / 2)).sensor0 = st.sensor0.getD (moduleOf s (n / 2)).sensor0
      ∧ (moduleOf t (n / 2)).sensor1 = st.sensor1.getD (moduleOf s (n / 2)).sensor1
      ∧ (∀ v, st.sensor0 = some v → (sensorOf t (16 + 2 * (n / 2))).raw = some v)
      ∧ ∀ v, st.sensor1 = some v → (sensorOf t (17 + 2 * (n / 2))).raw = some v := by
  obtain ⟨htaken, hmodule, hlockA, hlockB⟩ := statusTaken_taken (n / 2) st s
  have hidle := htaken.idle rfl hs
  obtain ⟨hfirst, hlocks⟩ := tryOperational_kept (2 * (n / 2)) hidle
  obtain ⟨hsecond, hlocks'⟩ := tryOperational_kept (2 * (n / 2) + 1) (hfirst.idle rfl hidle)
  have hlink : Within (.lanes :: quietPieces) (statusTaken (n / 2) st s) (statusLink n st s)
      ∧ SameLocks (statusTaken (n / 2) st s) (statusLink n st s) := by
    have hup := hfirst.trans hsecond
    have hkept := hlocks.trans hlocks'
    have hlink := statusLink_eq (st := st) hrec
    dsimp only at hlink
    generalize tryOperational (2 * (n / 2) + 1) (tryOperational (2 * (n / 2)) (statusTaken (n / 2) st s)) = u at hup hkept hlink
    have hlose : Within quietPieces u (if (st.fireFault && printingMode u.hub.mode && moduleUsable u (n / 2)) = true
        then loseModule (n / 2) 2 u else u) := .ite (loseModule_quiet (n / 2) 2 (hup.idle rfl hidle)) (.refl _ u)
    rw [← hlink] at hlose
    exact ⟨hup.trans (hlose.mono rfl), hkept.trans (hlose.sameLocks rfl)⟩
  obtain ⟨hread, hfirstRaw, hsecondRaw⟩ := headSensorReading_taken (n / 2) st.sensor0 st.sensor1 (statusLink n st s)
  have hstep : statusReceived n st s = headSensorReading (n / 2) st.sensor0 st.sensor1 (statusLink n st s) :=
    if_neg (by rw [hrec]; decide)
  have hall := hlink.1.seq hread (m := statusPieces) rfl
  have hsame := hlink.2.trans (hread.sameLocks rfl)
  have htold : told (moduleOf (headSensorReading (n / 2) st.sensor0 st.sensor1 (statusLink n st s)) (n / 2))
      = told (withStatus st (moduleOf s (n / 2))) := by
    rw [hread.keeps .reports rfl, hlink.1.keeps .reports rfl, hmodule]
  dsimp only
  rw [hstep]
  refine ⟨(htaken.mono rfl).trans hall, (hsame _).trans hlockA, (hsame _).trans hlockB, ?_, ?_, hfirstRaw, hsecondRaw⟩
  · exact (sensors_of_told htold).1
  · exact (sensors_of_told htold).2

end Sys2Proof.Machine.Laws

namespace Sys2Proof.Machine.Proofs
open Sys2Proof.Machine Sys2Proof.Machine.Laws

/-- Settles O35: an IDENT and a STATUS write their module and lane, and what follows keeps what the module has told. -/
theorem headIdentityRows : Obligations.HeadIdentityRows := by
  refine ⟨?accepted, ?refused, ?status, ?deaf⟩
  case accepted =>
    intro t0 n id s hcalm hrec hstate hfault
    obtain ⟨hwithin, hident, hlane, hothers⟩ := identReceived_accepted (s := advance t0 s) hrec hstate hfault
      (idle_of_calm hcalm t0)
    have hserial := serialCheck_within (n.val / 2) (identReceived n.val id (advance t0 s))
    have hall := hwithin.seq hserial (m := forgetPieces ++ identPieces) rfl
    refine hall.runsCal (f := fun s => serialCheck (n.val / 2) (identReceived n.val id s)) hcalm rfl ⟨?_, ?_, fun k hk => ?_⟩
    · rw [moduleOf_congr (hserial.keeps .modules rfl)]
      exact hident
    · rw [laneOf_congr (hserial.keeps .lanes rfl)]
      exact hlane
    · rw [laneOf_congr (hserial.keeps .lanes rfl)]
      exact hothers k hk
  case refused =>
    intro t0 n id r s hcalm hrec hstate hfault
    obtain ⟨hwithin, hsix⟩ := refuseModule_refused (n.val / 2) n.val r id (idle_of_calm hcalm t0)
    rw [← identReceived_refused (s := advance t0 s) hrec hstate hfault] at hwithin hsix
    have hserial := serialCheck_within (n.val / 2) (identReceived n.val id (advance t0 s))
    have hall := hwithin.seq hserial (m := forgetPieces ++ quietPieces) rfl
    refine hall.runsCal (f := fun s => serialCheck (n.val / 2) (identReceived n.val id s)) hcalm rfl ⟨?_, fun k => ?_⟩
    · rw [moduleOf_congr (hserial.keeps .modules rfl)]
      exact hsix
    · exact laneOf_congr (hall.keeps .lanes rfl) k
  case status =>
    intro t0 n st s hcalm hrec
    have h := statusReceived_taken (s := advance t0 s) (st := st) hrec (idle_of_calm hcalm t0)
    exact h.1.runsCal hcalm rfl h.2
  case deaf =>
    intro t0 n st s hcalm hrec
    have hstep : statusReceived n.val st (advance t0 s) = advance t0 s := by
      have hrec' : laneReceives (advance t0 s) n.val = false := hrec
      exact if_pos (by rw [hrec']; rfl)
    have hwithin : Within [] (advance t0 s) (statusReceived n.val st (advance t0 s)) := hstep.symm ▸ .refl _ _
    exact hwithin.runsCal hcalm rfl (hwithin.only rfl)

end Sys2Proof.Machine.Proofs
end

section
/-! SUPPORT. Strips, cameras and verdicts (R242 to R260): which camera an operation writes, and what a verdict changes. -/
namespace Sys2Proof.Machine.Laws
open Sys2Proof.Machine

variable {s t u : State} {l l' : List Piece} {c : Nat} {v w : Camera} {t0 : Time}

/-! Operations that write one camera -/

/-- An operation that writes one camera. -/
abbrev CamTo (l : List Piece) (c : Nat) (v : Camera) (s t : State) : Prop := OneTo camOf l c v s t

theorem camTo_set (c : Nat) (v : Camera) (s : State) : CamTo [.cameras] c v s (setCam c v s) :=
  ⟨setCam_within c v s, camOf_setCam_same c v s, fun _ hk => camOf_setCam_of_ne v s hk⟩

theorem OneTo.thenCam (hst : CamTo l c v s t) (htu : Within l' t u) (hcams : l'.contains .cameras = false)
    (hl : incl l' l = true) : CamTo l c v s u :=
  hst.keep (htu.mono hl) (camOf_congr (htu.keeps .cameras hcams))

theorem OneTo.afterCam (htu : CamTo l c v t u) (hst : Within l' s t) (hcams : l'.contains .cameras = false)
    (hl : incl l' l = true) : CamTo l c v s u :=
  htu.kept (hst.mono hl) (camOf_congr (hst.keeps .cameras hcams))

/-- A camera written, and an event of it. -/
theorem camTo_raise (c : Nat) (v : Camera) (code block : Nat) (d : Bytes) (s : State) :
    CamTo (.cameras :: eventPieces) c v s (raise code block d (setCam c v s)) :=
  ((camTo_set c v s).mono rfl).thenCam (raise_within _ _ _ _) rfl rfl

/-- A camera written, and an event of it where a condition holds. -/
theorem camTo_raiseIf {b : Prop} [Decidable b] (c : Nat) (v : Camera) (code block : Nat) (d : Bytes) (s : State) :
    CamTo (.cameras :: eventPieces) c v s (if b then raise code block d (setCam c v s) else setCam c v s) := by
  split
  · exact camTo_raise _ _ _ _ _ _
  · exact (camTo_set _ _ _).mono rfl

/-! Line errors and exposures -/

theorem lineErrReport_to (c cause more : Nat) (s : State) :
    ∃ r, CamTo (.cameras :: eventPieces) c { camOf s c with lineRate := r } s (lineErrReport c cause more s) := by
  unfold lineErrReport
  dsimp only
  split
  · exact ⟨_, camTo_raise _ _ _ _ _ _⟩
  · exact ⟨_, (camTo_set _ _ _).mono rfl⟩

theorem lineErrEvent_to (c cause : Nat) (s : State) : ∃ r, CamTo (.cameras :: eventPieces) c
    { camOf s c with lineErr := satInc 32 (camOf s c).lineErr, lineRate := r } s (lineErrEvent c cause s) := by
  have hcount := (camTo_set c { camOf s c with lineErr := satInc 32 (camOf s c).lineErr } s).mono
    (l' := .cameras :: eventPieces) rfl
  obtain ⟨r, hr⟩ := lineErrReport_to c cause 1 (setCam c { camOf s c with lineErr := satInc 32 (camOf s c).lineErr } s)
  exact ⟨r, hcount.next (fun v => { v with lineRate := r }) hr⟩

/-- What an exposure leaves of a camera: its strips and its state. -/
def besideExposure (v : Camera) : Camera := { v with epoch := 0, exposure := [], pending := none }

theorem applyExposure_to (c number : Nat) (s : State) : ∃ v, CamTo (.cameras :: eventPieces) c v s (applyExposure c number s)
    ∧ besideExposure v = besideExposure (camOf s c) := by
  unfold applyExposure
  dsimp only
  split
  · split
    · exact ⟨_, camTo_raise _ _ _ _ _ _, rfl⟩
    · exact ⟨_, .stay _ c s, rfl⟩
  · exact ⟨_, .stay _ c s, rfl⟩

/-! States of a camera -/

/-- A camera as it enters a state it is not in. -/
def camEntered (new : Nat) (k : Camera) : Camera :=
  { k with
    state := new
    nextStrip := if new = 1 then 0 else k.nextStrip
    expected := if new = 1 then none else k.expected
    acked := if new = 1 then none else k.acked
    pending := if new = 1 then k.pending.map fun p => (p.1, 0, p.2.2) else k.pending
    causes := if new = 3 then k.causes else [] }

theorem camEnter_to {new : Nat} (h : (camOf s c).state ≠ new) :
    CamTo (.cameras :: eventPieces) c (camEntered new (camOf s c)) s (camEnter c new s) := by
  have hstep : ∃ d, camEnter c new s = raise 0x1A01 0x0A d (setCam c (camEntered new (camOf s c)) s) := ⟨_, if_neg h⟩
  obtain ⟨d, hd⟩ := hstep
  exact hd ▸ camTo_raise _ _ _ _ _ _

theorem camEnter_of_there {new : Nat} (h : (camOf s c).state = new) : camEnter c new s = s := if_pos h

/-! The end of a strip (R243, R250, R251) -/

theorem displayRow_within (r : Nat) (s : State) : Within [.ins, .free] s (displayRow r s) := .of_patch rfl

theorem displayStrips_within (s : State) : Within [.ins, .free] s (displayStrips s) :=
  .ite (.refl _ s) (.each (fun _ _ => displayRow_within _ _) _ _)

/-- What a strip that is stored leaves of its camera. -/
def besideStore (v : Camera) : Camera := { v with stored := [], outDrop := 0 }

theorem storeStrip_to (c : Nat) (st : Strip) (s : State) : ∃ v, CamTo (.cameras :: .free :: eventPieces) c v s
    (storeStrip c st s) ∧ besideStore v = besideStore (camOf s c) := by
  unfold storeStrip
  dsimp only
  split
  · exact ⟨_, .stay _ c s, rfl⟩
  · split
    · exact ⟨_, (camTo_raise _ _ _ _ _ _).mono rfl, rfl⟩
    · exact ⟨_, ((camTo_set _ _ _).mono rfl).thenCam (.of_patch (l := [.free]) rfl) rfl rfl, rfl⟩

/-- A strip as it ends: with its length and flags. -/
def stripEnded (cut stale : Bool) (st : Strip) : Strip :=
  let st := if cut then { st with cut := true, count := goodLength st } else st
  { st with flags := st.flags ||| b2n (decide (st.count < st.length)) ||| (2 * b2n (decide (st.length < st.count)))
      ||| (16 * b2n stale) }

/-- What the end of a strip may change. -/
def stripPieces : List Piece := .ins :: .cameras :: .free :: eventPieces

/-- What the end of a strip leaves of its camera. -/
def besideStrip (v : Camera) : Camera := { v with current := none, done_ := [], trunc := 0, stored := [], outDrop := 0 }

theorem endStrip_of_none {cut : Bool} (h : (camOf s c).current = none) : endStrip cut c s = s := by
  unfold endStrip
  dsimp only
  split
  · rfl
  next hsome => exact absurd (h.symm.trans hsome) (Option.some_ne_none _).symm

theorem endStrip_of_some {cut : Bool} {st : Strip} (h : (camOf s c).current = some st) : ∃ v,
    CamTo stripPieces c v s (endStrip cut c s) ∧ v.current = none
      ∧ v.done_ = keepStrips s (stripEnded cut (camStale s c) st :: (camOf s c).done_)
      ∧ besideStrip v = besideStrip (camOf s c) := by
  have hstep : ∃ n, ∃ b : Bool, ∃ long, endStrip cut c s = displayStrips (storeStrip c (stripEnded cut (camStale s c) st)
      (if b then stripLengthEvent c long (stripEnded cut (camStale s c) st) (setCam c { camOf s c with
          current := none, done_ := keepStrips s (stripEnded cut (camStale s c) st :: (camOf s c).done_), trunc := n } s)
        else setCam c { camOf s c with
          current := none, done_ := keepStrips s (stripEnded cut (camStale s c) st :: (camOf s c).done_), trunc := n } s)) := by
    unfold endStrip
    dsimp only
    rw [h]
    exact ⟨_, (_ || _), _, rfl⟩
  obtain ⟨n, b, long, hstep⟩ := hstep
  have hset := (camTo_set c { camOf s c with
    current := none, done_ := keepStrips s (stripEnded cut (camStale s c) st :: (camOf s c).done_), trunc := n } s).mono
      (l' := stripPieces) rfl
  have hevent := hset.thenCam (l' := eventPieces) (.ite (c := b = true) (raise_within 0x2A01 0x0A
    (leBytes 1 c ++ leBytes 1 (b2n long) ++ leBytes 2 (stripEnded cut (camStale s c) st).length
      ++ leBytes 2 (stripEnded cut (camStale s c) st).count ++ zeros 2
      ++ leBytes 4 (stripEnded cut (camStale s c) st).number ++ leBytes 1 (stripEnded cut (camStale s c) st).epoch) _)
    (.refl _ _)) rfl rfl
  obtain ⟨v, hto, hv⟩ := storeStrip_to c (stripEnded cut (camStale s c) st)
    (if b then stripLengthEvent c long (stripEnded cut (camStale s c) st) (setCam c { camOf s c with
        current := none, done_ := keepStrips s (stripEnded cut (camStale s c) st :: (camOf s c).done_), trunc := n } s)
      else setCam c { camOf s c with
        current := none, done_ := keepStrips s (stripEnded cut (camStale s c) st :: (camOf s c).done_), trunc := n } s)
  have hall := (hevent.trans (hto.mono (l' := stripPieces) rfl)).thenCam (displayStrips_within _) rfl rfl
  have hbeside : besideStore v = besideStore { camOf s c with
      current := none, done_ := keepStrips s (stripEnded cut (camStale s c) st :: (camOf s c).done_), trunc := n } :=
    hv.trans (congrArg besideStore hevent.value)
  refine ⟨v, hstep ▸ hall, ?_, ?_, ?_⟩
  · exact (congrArg Camera.current hbeside :)
  · exact (congrArg Camera.done_ hbeside :)
  · exact (congrArg besideStrip hbeside :)

/-- The end of a strip, if there is one, leaves the rest of its camera. -/
theorem endStrip_to (cut : Bool) (c : Nat) (s : State) : ∃ v, CamTo stripPieces c v s (endStrip cut c s)
    ∧ v.current = none ∧ besideStrip v = besideStrip (camOf s c) := by
  cases h : (camOf s c).current with
  | none =>
    rw [endStrip_of_none h]
    exact ⟨_, .stay _ c s, h, rfl⟩
  | some st =>
    obtain ⟨v, hto, hnone, -, hbeside⟩ := endStrip_of_some (cut := cut) h
    exact ⟨v, hto, hnone, hbeside⟩

theorem head_keepStrips (s : State) (st : Strip) (rest : List Strip) : (keepStrips s (st :: rest)).head? = some st := by
  simp [keepStrips]

/-! Verdicts and judgments (R252 to R260) -/

/-- What a verdict may change. -/
def verdictPieces : List Piece := .ins :: voidPieces

theorem giveVerdict_within (k : InsTicket) (s : State) : Within verdictPieces s (giveVerdict k s) := by
  have hflag : ∀ b : Bool, ∀ u : State, Within [.ldg] u (if b then flagTickets 256 (fun x => x.id == k.id) u else u) :=
    fun b u => .ite (flagTickets_within _ _ _) (.refl _ u)
  exact ((hflag _ _).seq (ldgVerdict_within _ _ _ _ _ _) (m := voidPieces) rfl).fromPatch rfl rfl

theorem settleVerdicts_within (s : State) : Within verdictPieces s (settleVerdicts s) := .each giveVerdict_within _ s

theorem noteDone_within (left : InsTicket → Nat → Bool) (s : State) : Within [.ins] s (noteDone left s) := .of_patch rfl

/-- What the judgment of a stripe may change. -/
def judgmentPieces : List Piece := .ins :: ownChangePieces

theorem detectNozzle_within (n st : Nat) (s : State) : Within ownChangePieces s (detectNozzle n st s) :=
  .ite ((raise_within _ _ _ _).mono rfl) ((makeChange_ofNoRun _ _ s).andThen (raise_within _ _ _ _) rfl)

theorem noteJudgment_within (n st : Nat) (s : State) : Within judgmentPieces s (noteJudgment n st s) :=
  .ite (.of_patch rfl) (.ite ((detectNozzle_within _ _ _).fromPatch rfl rfl) (.of_patch rfl))

theorem judgeStripe_within (k : Stripe) (s : State) : Within judgmentPieces s (judgeStripe k s) :=
  ((Within.each (fun _ _ => noteJudgment_within _ _ _) _ _).andThen (raise_within _ _ _ _) rfl).fromPatch rfl rfl

theorem settleStripes_within (s : State) : Within judgmentPieces s (settleStripes s) := .each judgeStripe_within _ s

/-- What a strip that has ended settles: verdicts and judgments. -/
def settledPieces : List Piece := judgmentPieces ++ verdictPieces

theorem settled_within (left : InsTicket → Nat → Bool) (s : State) :
    Within settledPieces s (settleStripes (settleVerdicts (noteDone left s))) :=
  (((noteDone_within left s).mono rfl).andThen (settleVerdicts_within _) rfl).andThen (settleStripes_within _) rfl

/-! A camera that faults (R242) -/

theorem cameraSource_within (c : Nat) (s : State) : Within runPieces s (cameraSource c s) := abortRuns_within _ _ s

/-- What a camera that leaves may change. -/
def leavePieces : List Piece := .cameras :: .free :: runPieces ++ settledPieces

theorem camLeave_to_fault (hstate : (camOf s c).state = 2) : ∃ v, CamTo leavePieces c v s (camLeave c 3 s)
    ∧ v.state = 3 ∧ v.causes = (camOf s c).causes ∧ v.current = none := by
  have hrun : camRunning s c = true := decide_eq_true hstate
  obtain ⟨v, hto, hnone, hbeside⟩ := endStrip_to true c s
  have hstate' : (camOf (endStrip true c s) c).state = 2 := by
    rw [hto.value]
    exact (congrArg Camera.state hbeside :).trans hstate
  have henter := (hto.mono (l' := leavePieces) rfl).next (camEntered 3)
    ((camEnter_to (new := 3) (by rw [hstate']; decide)).mono rfl)
  have hsource := henter.thenCam (cameraSource_within c _) rfl rfl
  have hall := hsource.thenCam (settled_within (fun _ d => d == c) _) rfl rfl
  have hstep : camLeave c 3 s = settleStripes (settleVerdicts (noteDone (fun _ d => d == c)
      (cameraSource c (camEnter c 3 (endStrip true c s))))) := by
    unfold camLeave
    dsimp only
    rw [hrun]
    rfl
  refine ⟨camEntered 3 v, hstep ▸ hall, rfl, ?_, hnone⟩
  exact (congrArg Camera.causes hbeside :)

theorem cameraFault_faulty {cause : Nat} (hstate : (camOf s c).state = 2) (hcause : causeHolds s c cause = true) : ∃ v,
    CamTo leavePieces c v s (cameraFault c cause s) ∧ v.state = 3 ∧ v.causes = [cause] ∧ v.current = none := by
  have hstep : ∃ d, cameraFault c cause s = camLeave c 3 (raise 0x3A01 0x0A d
      (setCam c { camOf s c with causes := [cause], causeAt := s.now } s)) := by
    unfold cameraFault
    dsimp only
    rw [hcause, hstate]
    exact ⟨_, rfl⟩
  obtain ⟨d, hd⟩ := hstep
  have hset := camTo_raise c { camOf s c with causes := [cause], causeAt := s.now } 0x3A01 0x0A d s
  obtain ⟨v, hto, hfaulty, hcauses, hnone⟩ := camLeave_to_fault (c := c) (s := raise 0x3A01 0x0A d
    (setCam c { camOf s c with causes := [cause], causeAt := s.now } s)) (by rw [hset.value]; exact hstate)
  rw [hset.value] at hcauses
  exact ⟨v, hd ▸ (hset.mono rfl).trans hto, hfaulty, hcauses, hnone⟩

/-! A strip that begins (R243) -/

theorem camCfg_congr (h : t.cfg = s.cfg) (c : Nat) : camCfg t c = camCfg s c := by
  rw [camCfg, cfgGet, h, camCfg, cfgGet]

/-- A camera in WAIT or RUN that enters RUN keeps the count of its strips. -/
theorem enterRun_to (hstate : (camOf s c).state = 1 ∨ (camOf s c).state = 2) : ∃ v,
    CamTo (.cameras :: eventPieces) c v s (camEnter c 2 s) ∧ v.state = 2 := by
  obtain h | h := hstate
  · exact ⟨_, camEnter_to (by rw [h]; decide), rfl⟩
  · rw [camEnter_of_there h]
    exact ⟨_, .stay _ c s, h⟩

/-- The state in which a camera has ended its last strip, put its exposure in force and entered RUN. -/
def stripEntered (c : Nat) (s : State) : State :=
  camEnter c 2 (applyExposure c (camOf (endStrip false c s) c).nextStrip (endStrip false c s))

/-- The state in which a strip's first row is set: drawn where no pulse of it is known. -/
def stripDrawn (c : Nat) (p : Int) (s : State) : State :=
  if (pulseAt (stripEntered c s) (p - u8 (camCfg (endStrip false c s) c) 15)).isSome then stripEntered c s
  else (drawNat 9 (drawInt 9 (stripEntered c s)).2).2

/-- The camera with the strip that begins written to it, and STRIP_UNSYNC where the strip is not where it was
expected. -/
theorem placeStrip_eq (p : Int) : ∃ (b : Bool) (v : Camera) (st : Strip) (d : Bytes),
    placeStrip c p s = (if b = true then raise 0x2A02 0x0A d (setCam c v (stripDrawn c p s))
      else setCam c v (stripDrawn c p s))
      ∧ v.state = (camOf (stripEntered c s) c).state ∧ v.current = some st ∧ st.start = p - u8 (camCfg (endStrip false c s) c) 15
      ∧ st.number = (camOf (endStrip false c s) c).nextStrip ∧ st.length = u16 (camCfg (endStrip false c s) c) 4 :=
  ⟨_, _, _, _, rfl, rfl, rfl, rfl, rfl, rfl⟩

theorem placeStrip_to (p : Int) (hstate : (camOf s c).state = 1 ∨ (camOf s c).state = 2) : ∃ v st,
    CamTo stripPieces c v s (placeStrip c p s) ∧ v.state = 2 ∧ v.current = some st
      ∧ st.start = p - u8 (camCfg s c) 15 ∧ st.number = (camOf s c).nextStrip ∧ st.length = u16 (camCfg s c) 4 := by
  obtain ⟨v₁, hended, -, hbeside₁⟩ := endStrip_to false c s
  have hcfg : camCfg (endStrip false c s) c = camCfg s c := camCfg_congr (hended.within.keeps .settings rfl) c
  have hnumber : (camOf (endStrip false c s) c).nextStrip = (camOf s c).nextStrip := by
    rw [hended.value]
    exact (congrArg Camera.nextStrip hbeside₁ :)
  obtain ⟨v₂, hexposed, hbeside₂⟩ := applyExposure_to c (camOf (endStrip false c s) c).nextStrip (endStrip false c s)
  have hstate₂ : (camOf (applyExposure c (camOf (endStrip false c s) c).nextStrip (endStrip false c s)) c).state
      = (camOf s c).state := by
    rw [hexposed.value]
    refine (congrArg Camera.state hbeside₂ :).trans ?_
    rw [hended.value]
    exact (congrArg Camera.state hbeside₁ :)
  obtain ⟨v₃, hentered, hrun⟩ := enterRun_to (by rwa [hstate₂])
  have hthird : CamTo stripPieces c v₃ s (stripEntered c s) :=
    (hended.trans (hexposed.mono rfl)).trans (hentered.mono rfl)
  have hdrawn : Within [.free] (stripEntered c s) (stripDrawn c p s) := .ite (.refl _ _) (.of_patch rfl)
  obtain ⟨b, v, st, d, hstep, hv, hcurrent, hstart, hnew, hlength⟩ := placeStrip_eq (c := c) (s := s) p
  rw [hcfg] at hstart hlength
  refine ⟨v, st, ?_, hv.trans ((congrArg Camera.state hthird.value).trans hrun), hcurrent, hstart, hnew.trans hnumber, hlength⟩
  rw [hstep]
  exact (hthird.thenCam hdrawn rfl rfl).trans ((camTo_raiseIf _ _ _ _ _ _).mono rfl)

theorem calFrameStart_of_noRuns (channel : Nat) (hruns : s.cal.runs = []) :
    calFrameStart c channel s = frameStart c channel s := by
  unfold calFrameStart
  dsimp only
  split
  · simp [acceptedRuns, hruns, each]
  · rfl

theorem frameStart_of_pulse {p : PulseRecord} (hstate : (camOf s c).state = 1 ∨ (camOf s c).state = 2)
    (hpulse : s.enc.pulses.find? (fun p => decide (p.t < s.now)) = some p) :
    frameStart c 0 s = placeStrip c p.index s := by
  have hzero : (camOf s c).state ≠ 0 := by omega
  have hthree : (camOf s c).state ≠ 3 := by omega
  unfold frameStart
  dsimp only
  rw [if_neg hzero, if_neg (by decide), if_neg hthree, hpulse]

theorem frameStart_of_channel {channel : Nat} (hstate : (camOf s c).state ≠ 0) (hchannel : channel ≠ 0) :
    frameStart c channel s = lineErrEvent c 3 s := by
  unfold frameStart
  dsimp only
  rw [if_neg hstate, if_pos hchannel]

/-! Lines (R244) -/

/-- A camera that has sent a line. -/
def lineNoted (now : Time) (k : Camera) : Camera :=
  { k with lastLine := now, lineTimes := (now :: k.lineTimes).filter fun u => decide (now < u + 100 * tpUs) }

/-- A strip with one more sound line. -/
def withLine (pixels : List Nat) (q : PulseRecord) (st : Strip) : Strip :=
  { st with
    count := st.count + 1
    lines := st.lines ++ [{ index := st.count, raw := if bit (u8 st.setup 1) 1 then pixels.reverse else pixels
                            q := q.pos, t := q.t }] }

theorem takeLine_of_sound {p : CsiPacket} {st : Strip} {q : PulseRecord} (hroom : st.count < st.length)
    (hcrc : p.crcOk = true) (hlen : p.pixels.length = 4352) (hpulse : pulseAt s (st.start + st.count) = some q) :
    takeLine c p st s = setCam c { camOf s c with current := some (withLine p.pixels q st) } s := by
  unfold takeLine
  dsimp only
  rw [if_neg (Nat.not_le.2 hroom), hpulse, hcrc, hlen]
  rfl

theorem csiLine_of_sound {p : CsiPacket} {st : Strip} {q : PulseRecord} (hstate : (camOf s c).state = 2)
    (hcurrent : (camOf s c).current = some st) (hheader : p.headerOk = true) (hchannel : p.channel = 0)
    (htype : p.dataType = (if bit (u8 (camCfg s c) 1) 0 then 0x2C else 0x2B)) (hroom : st.count < st.length)
    (hcrc : p.crcOk = true) (hlen : p.pixels.length = 4352) (hpulse : pulseAt s (st.start + st.count) = some q) :
    CamTo [.cameras] c { lineNoted s.now (camOf s c) with current := some (withLine p.pixels q st) } s (csiLine c p s) := by
  have hstep : csiLine c p s = takeLine c p st (setCam c (lineNoted s.now (camOf s c)) s) := by
    unfold csiLine
    dsimp only
    rw [if_neg (by rw [hstate]; decide), if_neg (by rw [hheader]; decide), if_neg (by rw [hchannel]; decide),
      if_neg (Classical.not_not.2 htype)]
    split
    next st' _ hst' =>
      obtain rfl : st = st' := Option.some.inj (hcurrent.symm.trans hst')
      rfl
    next hnone => exact absurd hcurrent (hnone st hstate)
  have hset := camTo_set c (lineNoted s.now (camOf s c)) s
  rw [hstep, takeLine_of_sound hroom hcrc hlen (show pulseAt (setCam c _ s) _ = some q from hpulse)]
  exact hset.next (fun k => { k with current := some (withLine p.pixels q st) }) (camTo_set _ _ _)

theorem csiLine_of_badHeader {p : CsiPacket} (hstate : (camOf s c).state ≠ 0) (hheader : p.headerOk = false) :
    csiLine c p s = setCam c { camOf s c with
      headerErrs := (s.now :: (camOf s c).headerErrs).filter fun u => decide (s.now < u + tpMs) } s := by
  unfold csiLine
  dsimp only
  rw [if_neg hstate, if_pos (by rw [hheader]; rfl)]

/-! The end of a frame (R243) -/

theorem targetSeen_of_noRuns (hruns : s.cal.runs = []) : targetSeen c s = s := by
  unfold targetSeen
  rw [hruns]
  rfl

theorem calFrameEnd_ended {st : Strip} (hstate : (camOf s c).state = 2) (hcurrent : (camOf s c).current = some st)
    (hs : Idle s) : ∃ v x, CamTo (.cameras :: .free :: settledPieces) c v s (calFrameEnd c 0 s) ∧ v.current = none
      ∧ v.done_.head? = some x ∧ x.number = st.number ∧ x.lines = st.lines := by
  have hrun : camRunning s c = true := decide_eq_true hstate
  have hon : camRun s c = true := decide_eq_true (by rw [hstate]; decide)
  obtain ⟨v, hto, hnone, hdone, -⟩ := endStrip_of_some (cut := false) hcurrent
  have hall := (hto.mono (l' := .cameras :: .free :: settledPieces) rfl).thenCam (settled_within (fun _ _ => false) _) rfl rfl
  have hstep : calFrameEnd c 0 s
      = settleStripes (settleVerdicts (noteDone (fun _ _ => false) (endStrip false c s))) := by
    have hframe : frameEnd c s = settleStripes (settleVerdicts (noteDone (fun _ _ => false) (endStrip false c s))) := by
      rw [frameEnd, hrun]
      rfl
    have hseen := targetSeen_of_noRuns (c := c) (hall.within.idle rfl hs).1
    rw [← hframe] at hseen ⊢
    rw [calFrameEnd, hon, hrun]
    exact hseen
  refine ⟨v, stripEnded false (camStale s c) st, hstep ▸ hall, hnone, ?_, rfl, rfl⟩
  rw [hdone]
  exact head_keepStrips _ _ _

/-! Delivery of strips (R251) -/

theorem insDelivery_of_room {x : Stored} (hfind : (camOf s c).stored.find? (fun x => x.frame.isNone) = some x)
    (henabled : (camOf s c).enabled = true) (hdma : dmaOk s = true)
    (hend : (camOf s c).offset + stripFrameSize x ≤ (camOf s c).size)
    (hroom : outputUsed (camOf s c) + stripFrameSize x ≤ (camOf s c).size) : ∃ l,
    insDelivery c true s = setCam c { camOf s c with
      offset := (camOf s c).offset + stripFrameSize x, stored := l }
        (send (.frame c (camOf s c).offset (stripFrame c (camOf s c).phase (some x))) s) := by
  have hwrap : ¬ (camOf s c).size < (camOf s c).offset + stripFrameSize x := Nat.not_lt.2 hend
  have hlen : ¬ (camOf s c).size < stripFrameSize x := by omega
  have hused : ¬ (camOf s c).size < outputUsed (camOf s c) + stripFrameSize x := Nat.not_lt.2 hroom
  unfold insDelivery
  dsimp only
  rw [hfind]
  dsimp only
  simp only [henabled, hdma, hwrap, hlen, hused, decide_false, Bool.not_true, Bool.or_self, Bool.false_and,
    Bool.false_eq_true, if_false]
  exact ⟨_, rfl⟩

/-! The moment of a verdict (R257) -/

/-- A ticket with the cameras that have passed it noted. -/
def doneNoted (left : InsTicket → Nat → Bool) (s : State) (k : InsTicket) : InsTicket :=
  { k with done_ := k.done_ ++ (coveringCams s k).filter fun c =>
    !k.done_.contains c && (left k c || (camRunning s c && imagedTo s c (ticketLast s k))) }

theorem noteDone_eq (left : InsTicket → Nat → Bool) (s : State) :
    noteDone left s = { s with ins := { s.ins with tickets := s.ins.tickets.map (doneNoted left s) } } := rfl

theorem noteDone_of_uncovered {left : InsTicket → Nat → Bool} (h : ∀ k ∈ s.ins.tickets, coveringCams s k = []) :
    noteDone left s = s := by
  have hmarks : s.ins.tickets.map (doneNoted left s) = s.ins.tickets := by
    refine (List.map_congr_left (g := id) fun k hk => ?_).trans (List.map_id _)
    rw [doneNoted, h k hk, List.filter_nil, List.append_nil]
    rfl
  rw [noteDone_eq, hmarks]

theorem settleVerdicts_of_uncovered (h : ∀ k ∈ s.ins.tickets, coveringCams s k = []) : settleVerdicts s = s := by
  have hnone : s.ins.tickets.filter (fun k => !(coveringCams s k).isEmpty && (coveringCams s k).all fun c => k.done_.contains c)
      = [] := List.filter_eq_nil_iff.2 fun k hk => by rw [h k hk]; simp
  unfold settleVerdicts
  dsimp only
  rw [hnone]
  rfl

/-- A ticket with its verdict given. -/
theorem giveVerdict_ins (k : InsTicket) (s : State) : (giveVerdict k s).ins.tickets = s.ins.tickets.filter (fun x => x.id ≠ k.id)
    ∧ (giveVerdict k s).ins.lastVerdict = (verdictOf k.compare (if bit (u8 k.compare 0) 0 then tallyCells s k else {})).1 := by
  have hrest : ∀ (b : Bool) v score cams strip (u : State), Within voidPieces u (ldgVerdict k.id v score cams strip
      (if b then flagTickets 256 (fun x => x.id == k.id) u else u)) := fun b v score cams strip u =>
    .trans (.ite ((flagTickets_within _ _ _).mono rfl) (.refl _ u)) (ldgVerdict_within _ _ _ _ _ _)
  unfold giveVerdict
  dsimp only
  rw [(hrest _ _ _ _ _ _).ins_eq rfl rfl]
  exact ⟨rfl, rfl⟩

theorem settleStripes_of_none (h : s.ins.stripes = []) : settleStripes s = s := by
  unfold settleStripes
  rw [h]
  rfl

theorem verdictMoment_of_uncovered {k : InsTicket} (htickets : s.ins.tickets = [k]) (hstripes : s.ins.stripes = [])
    (hcams : coveringCams s k = []) (hmoment : cameraList.any (fun c => momentCome s c (ticketLast s k)) = true) :
    settleStripes (verdictMoment s) = giveVerdict k s := by
  have hall : ∀ x ∈ s.ins.tickets, coveringCams s x = [] := fun x hx => by
    rw [htickets] at hx
    rwa [List.mem_singleton.1 hx]
  have hmoment' : verdictMoment s = giveVerdict k s := by
    unfold verdictMoment
    dsimp only
    rw [noteDone_of_uncovered hall, settleVerdicts_of_uncovered hall, htickets]
    simp only [List.filter_cons, hcams, hmoment, List.isEmpty_nil, Bool.and_self, if_true, List.filter_nil]
    rfl
  rw [hmoment']
  refine settleStripes_of_none ?_
  have hkept : (giveVerdict k s).ins.stripes = s.ins.stripes := by
    have hrest : ∀ (b : Bool) v score cams strip (u : State), Within voidPieces u (ldgVerdict k.id v score cams strip
        (if b then flagTickets 256 (fun x => x.id == k.id) u else u)) := fun b v score cams strip u =>
      .trans (.ite ((flagTickets_within _ _ _).mono rfl) (.refl _ u)) (ldgVerdict_within _ _ _ _ _ _)
    unfold giveVerdict
    dsimp only
    rw [(hrest _ _ _ _ _ _).ins_eq rfl rfl]
  rw [hkept, hstripes]

theorem verdictMoment_of_noTickets (htickets : s.ins.tickets = []) (hstripes : s.ins.stripes = []) :
    settleStripes (verdictMoment s) = s := by
  have hall : ∀ x ∈ s.ins.tickets, coveringCams s x = [] := fun x hx => by
    rw [htickets] at hx
    exact absurd hx List.not_mem_nil
  have hmoment : verdictMoment s = s := by
    unfold verdictMoment
    dsimp only
    rw [noteDone_of_uncovered hall, settleVerdicts_of_uncovered hall, htickets]
    rfl
  rw [hmoment, settleStripes_of_none hstripes]

end Sys2Proof.Machine.Laws

namespace Sys2Proof.Machine.Proofs
open Sys2Proof.Machine Sys2Proof.Machine.Laws

/-- Settles O41: each row writes its own camera, and verdicts and judgments leave the cameras alone. -/
theorem cameraRows : Obligations.CameraRows := by
  refine ⟨?start, ?channel, ?line, ?header, ?frame, ?fault, ?silent, ?steady, ?recover, ?deliver, ?moment, ?idle⟩
  case start =>
    intro t0 c p s hcalm hstate hpulse
    have hstep : calFrameStart c.val 0 (advance t0 s) = placeStrip c.val p.index (advance t0 s) :=
      (calFrameStart_of_noRuns (s := advance t0 s) 0 hcalm.noRuns).trans (frameStart_of_pulse (s := advance t0 s) hstate hpulse)
    obtain ⟨v, st, h, hrun, hcurrent, hstart, hnumber, hlength⟩ := placeStrip_to (s := advance t0 s) p.index hstate
    rw [← hstep] at h
    exact h.within.runs (f := calFrameStart c.val 0) hcalm.steady.running ⟨st, (congrArg Camera.state h.value).trans hrun,
      (congrArg Camera.current h.value).trans hcurrent, hstart, hnumber, hlength, h.others, h.within.only rfl⟩
  case channel =>
    intro t0 c ch s hcalm hstate hchannel
    have hchannel' : ch.val ≠ 0 := fun h => hchannel (Fin.ext h)
    have hstep : calFrameStart c.val ch.val (advance t0 s) = lineErrEvent c.val 3 (advance t0 s) :=
      (calFrameStart_of_noRuns (s := advance t0 s) ch.val hcalm.noRuns).trans
        (frameStart_of_channel (s := advance t0 s) hstate hchannel')
    obtain ⟨r, h⟩ := lineErrEvent_to c.val 3 (advance t0 s)
    rw [← hstep] at h
    exact h.within.runs hcalm.steady.running ⟨(congrArg Camera.lineErr h.value :), (congrArg Camera.current h.value :), h.others,
      h.within.only rfl⟩
  case line =>
    intro t0 c p st q s halive hstate hcurrent hheader hchannel htype hcrc hlen hroom hpulse
    have h := csiLine_of_sound (s := advance t0 s) hstate hcurrent hheader hchannel htype hroom hcrc hlen hpulse
    exact h.within.runs halive ⟨_, (congrArg Camera.current h.value :), rfl, rfl, rfl, h.others, h.within.only rfl⟩
  case header =>
    intro t0 c p s halive hstate hheader
    have h := camTo_set c.val { camOf (advance t0 s) c.val with
      headerErrs := ((advance t0 s).now :: (camOf (advance t0 s) c.val).headerErrs).filter
        fun u => decide ((advance t0 s).now < u + tpMs) } (advance t0 s)
    rw [← csiLine_of_badHeader (s := advance t0 s) hstate hheader] at h
    refine h.within.runs halive ⟨?_, (congrArg Camera.current h.value :), h.others, h.within.only rfl⟩
    rw [h.value]
    exact List.mem_filter.2 ⟨List.mem_cons_self, decide_eq_true (Nat.lt_add_of_pos_right (by decide))⟩
  case frame =>
    intro t0 c st s hcalm hstate hcurrent
    obtain ⟨v, x, h, hnone, hdone, hnumber, hlines⟩ := calFrameEnd_ended (s := advance t0 s) hstate hcurrent
      (idle_of_calm hcalm t0)
    exact h.within.runsCal (f := calFrameEnd c.val 0) hcalm rfl ⟨x, (congrArg Camera.current h.value).trans hnone,
      (congrArg (fun v => v.done_.head?) h.value).trans hdone, hnumber, hlines, h.others⟩
  case fault =>
    intro t0 c cause s halive hstate hcause hholds
    obtain ⟨v, h, hfaulty, hcauses, hnone⟩ := cameraFault_faulty (s := advance t0 s) hstate hholds
    have hstep : (if cause.val = 2 then advance t0 s else cameraFault c.val cause.val (advance t0 s))
        = cameraFault c.val cause.val (advance t0 s) := if_neg hcause
    rw [← hstep] at h
    exact h.within.runs (f := fun s => if cause.val = 2 then s else cameraFault c.val cause.val s) halive
      ⟨(congrArg Camera.state h.value).trans hfaulty, (congrArg Camera.causes h.value).trans hcauses,
        (congrArg Camera.current h.value).trans hnone, h.others⟩
  case silent =>
    intro t0 c s halive hstate hholds
    obtain ⟨v, h, hfaulty, hcauses, -⟩ := cameraFault_faulty (s := advance t0 s) hstate hholds
    exact h.within.runs halive ⟨(congrArg Camera.state h.value).trans hfaulty,
      (congrArg Camera.causes h.value).trans hcauses, h.others⟩
  case steady =>
    intro t0 c s halive hholds
    have hstep : cameraFault c.val 2 (advance t0 s) = advance t0 s := by
      unfold cameraFault
      dsimp only
      rw [hholds]
      rfl
    have hwithin : Within [] (advance t0 s) (cameraFault c.val 2 (advance t0 s)) := hstep.symm ▸ .refl _ _
    exact hwithin.runs halive (hwithin.only rfl)
  case recover =>
    intro t0 c s halive hstate htime
    have hstep : cameraRecover c.val (advance t0 s) = camEnter c.val 1 (advance t0 s) := if_pos ⟨hstate, htime⟩
    have hstate' : (camOf (advance t0 s) c.val).state = 3 := hstate
    have h := camEnter_to (c := c.val) (s := advance t0 s) (new := 1) (by rw [hstate']; decide)
    rw [← hstep] at h
    exact h.within.runs halive ⟨(congrArg Camera.state h.value :), (congrArg Camera.causes h.value :),
      (congrArg Camera.nextStrip h.value :), h.others, h.within.only rfl⟩
  case deliver =>
    intro t0 c x s halive hfind henabled hdma hend hroom
    obtain ⟨l, hstep⟩ := insDelivery_of_room (s := advance t0 s) hfind henabled hdma hend hroom
    have h := ((camTo_set c.val { camOf (advance t0 s) c.val with
      offset := (camOf (advance t0 s) c.val).offset + stripFrameSize x, stored := l }
        (send (.frame c.val (camOf (advance t0 s) c.val).offset (stripFrame c.val (camOf (advance t0 s) c.val).phase (some x)))
          (advance t0 s))).mono (l' := [.cameras, .out]) rfl).afterCam (send_within _ _) rfl rfl
    rw [← hstep] at h
    exact h.within.runs halive ⟨congrArg State.out hstep, (congrArg Camera.offset h.value :), h.others, h.within.only rfl⟩
  case moment =>
    intro t0 k s halive htickets hstripes hcams hmoment
    have hstep : settleStripes (verdictMoment (advance t0 s)) = giveVerdict k (advance t0 s) :=
      verdictMoment_of_uncovered (s := advance t0 s) htickets hstripes hcams hmoment
    have hwithin : Within verdictPieces (advance t0 s) (settleStripes (verdictMoment (advance t0 s))) :=
      hstep.symm ▸ giveVerdict_within _ _
    obtain ⟨hleft, hverdict⟩ := giveVerdict_ins k (advance t0 s)
    rw [← hstep] at hleft hverdict
    refine hwithin.runs (f := fun s => settleStripes (verdictMoment s)) halive ⟨?_, hverdict⟩
    rw [hleft, show (advance t0 s).ins.tickets = [k] from htickets]
    simp
  case idle =>
    intro t0 s halive htickets hstripes
    have hstep : settleStripes (verdictMoment (advance t0 s)) = advance t0 s :=
      verdictMoment_of_noTickets (s := advance t0 s) htickets hstripes
    have hwithin : Within [] (advance t0 s) (settleStripes (verdictMoment (advance t0 s))) := hstep.symm ▸ .refl _ _
    exact hwithin.runs (f := fun s => settleStripes (verdictMoment s)) halive (hwithin.only rfl)

end Sys2Proof.Machine.Proofs
end

section
/-! SUPPORT. The canonical form of page bytes (R126): what keeps it, and a command of this unit's host served alone. -/
namespace Sys2Proof.Machine.Laws
open Sys2Proof.Machine

variable {s t : State}

theorem pagesWf_congr (h : t.mem.pages = s.mem.pages) (hs : PagesWf s) : PagesWf t := by
  rw [PagesWf, h]
  exact hs

theorem Within.pagesWf {l : List Piece} (h : Within l s t) (hl : l.contains .mem = false) (hs : PagesWf s) : PagesWf t :=
  pagesWf_congr (congrArg Mem.pages (h.keeps .mem hl)) hs

/-- An operation carried out for each entry of a list keeps what it keeps for one. -/
theorem each_induction {α : Type} {f : α → State → State} {P : State → Prop} (hstep : ∀ a u, P u → P (f a u))
    (l : List α) (hs : P s) : P (each l f s) :=
  List.foldlRecOn l (fun s a => f a s) hs fun u hu a _ => hstep a u hu

theorem pagesWf_modPage {id : Nat} {f : Page → Page} (hf : ∀ p, Memory.wf p.data → Memory.wf (f p).data) (hs : PagesWf s) :
    PagesWf (modPage id f s) := by
  intro q hq
  obtain ⟨p, hp, rfl⟩ := List.mem_map.1 hq
  split
  · exact hf p (hs p hp)
  · exact hs p hp

theorem memory_wf_nil : Memory.wf [] := ⟨List.Pairwise.nil, fun _ h => absurd h List.not_mem_nil⟩

/-! Loads that end (R128) -/

theorem pagesWf_pageLoaded {p : Page} {reached reason : Nat} {f : State → State} (hf : PagesWf (f s)) :
    PagesWf (pageLoaded p reached reason f s) :=
  pagesWf_congr (pageLoaded_pages p reached reason f s) hf

theorem pagesWf_invalidate (id reason : Nat) (hs : PagesWf s) : PagesWf (invalidate id reason s) :=
  pagesWf_congr (s := modPage id (fun p => { p with state := .invalid, reason := reason, data := [] }) s) rfl
    (pagesWf_modPage (fun _ _ => memory_wf_nil) hs)

theorem pagesWf_loadFails (p : Page) (reason : Nat) (hs : PagesWf s) : PagesWf (loadFails p reason s) := by
  rw [loadFails_eq]
  exact pagesWf_pageLoaded (pagesWf_modPage (fun _ h => h)
    (pagesWf_invalidate _ _ ((arrivedBy_within p reason s).pagesWf rfl hs)))

theorem pagesWf_pageLoadEnd (id : Nat) (o : LoadEnd) (hs : PagesWf s) : PagesWf (pageLoadEnd id o s) := by
  unfold pageLoadEnd
  split
  · exact hs
  next p _ =>
    split
    · exact hs
    · split
      · exact pagesWf_loadFails p 1 hs
      · exact pagesWf_loadFails p 2 hs
      · exact pagesWf_loadFails p 4 hs
      next total cells =>
        dsimp only
        split
        · exact pagesWf_loadFails p 2 hs
        · split
          · exact pagesWf_pageLoaded (pagesWf_modPage (fun _ h => h) (pagesWf_invalidate _ _ (pagesWf_congr (s := s) rfl hs)))
          · exact pagesWf_pageLoaded (pagesWf_modPage (fun _ _ => memOf_wf _) (pagesWf_congr (s := s) rfl hs))

/-! Lines that are fetched (R145) -/

theorem holdEvent_pages (on : Bool) (cause : Nat) (f : Int) (s : State) :
    (holdEvent on cause f s).mem.pages = s.mem.pages :=
  (congrArg Mem.pages (raise_mem _ _ _ _) :)

theorem holdOn_pages (cause : Nat) (f : Int) (s : State) : (holdOn cause f s).mem.pages = s.mem.pages := by
  unfold holdOn
  dsimp only
  split
  · exact holdEvent_pages _ _ _ _
  · rfl

theorem holdOff_pages (f : Int) (s : State) : (holdOff f s).mem.pages = s.mem.pages := by
  unfold holdOff
  split
  · exact holdEvent_pages _ _ _ _
  · rfl

theorem shiftEnd_pages (len : Nat) (s : State) : (shiftEnd len s).mem.pages = s.mem.pages := by
  unfold shiftEnd
  split
  · split <;> rfl
  · rfl

theorem takeUp_pages (id : Nat) (s : State) : (takeUp id s).mem.pages = s.mem.pages := by
  unfold takeUp
  split <;> rfl

theorem placeNext_pages (h : placeNext s = some t) : t.mem.pages = s.mem.pages := by
  unfold placeNext at h
  dsimp only at h
  split at h
  next p _ _ _ =>
    split at h
    next c _ =>
      obtain rfl := Option.some.inj h
      exact (shiftEnd_pages _ _).trans (holdOn_pages _ _ _)
    · split at h
      · obtain rfl := Option.some.inj h
        exact (shiftEnd_pages _ _).trans (holdOff_pages _ _)
      · obtain rfl := Option.some.inj h
        exact holdOff_pages _ _
  · split at h
    · obtain rfl := Option.some.inj h
      rfl
    · obtain rfl := Option.some.inj h
      exact takeUp_pages _ _
    · exact absurd h nofun

theorem placeTo_pages (l : Int) (n : Nat) (s : State) : (placeTo l n s).mem.pages = s.mem.pages := by
  induction n generalizing s with
  | zero => rfl
  | succ n ih =>
    unfold placeTo
    split
    · rfl
    · split
      next u hu => exact (ih u).trans (placeNext_pages hu)
      · rfl

theorem setupPrint_pages (p : Int) (s : State) : (setupPrint p s).mem.pages = s.mem.pages := by
  unfold setupPrint
  dsimp only
  split
  · split
    · exact takeUp_pages _ _
    · rfl
  · rfl

theorem preparePrint_pages (s : State) : (preparePrint s).mem.pages = s.mem.pages := by
  have hplace : (placePrint s).mem.pages = s.mem.pages := congrArg Mem.pages ((placePrint_within s).keeps .mem rfl)
  unfold preparePrint
  dsimp only
  split
  · split
    · exact hplace
    · exact (setupPrint_pages _ _).trans hplace
  · exact hplace

theorem pagesWf_spoilLines (flag : Nat) (l : List (Int × Int × Int)) (hs : PagesWf s) : PagesWf (spoilLines flag l s) := by
  unfold spoilLines
  dsimp only
  refine (voidHere_within _ _ _).pagesWf rfl ?_
  split
  · exact pagesWf_congr (s := s) rfl hs
  · exact pagesWf_congr (s := s) rfl hs

theorem droppedEvent_within (m n nozzle : Nat) (l : Int) (s : State) :
    Within (.grt :: eventPieces) s (droppedEvent m n nozzle l s) := by
  unfold droppedEvent
  dsimp only
  split
  · exact (raise_within _ _ _ _).fromPatch rfl rfl
  · exact .of_patch rfl

theorem uncorrectable_pages (port : Nat) (p : Position) (addr page : Nat) (s : State) :
    (uncorrectable port p addr page s).mem.pages = s.mem.pages :=
  (congrArg Mem.pages (raise_mem _ _ _ _) :)

/-- A line of SRAM that could not be corrected is counted and told (R157). -/
theorem pagesWf_uncorrected (m row : Nat) (l : Int) (hs : PagesWf s) :
    PagesWf (raise 0x3501 0x05 (leBytes 1 m ++ leBytes 1 row ++ zeros 6 ++ seBytes 8 l)
      { s with grt := { s.grt with eccUnc := satInc 16 s.grt.eccUnc } }) :=
  pagesWf_congr (s := s) (congrArg Mem.pages (raise_mem _ _ _ _) :) hs

theorem pagesWf_fetchModule (n : Int) (blank : List (Nat × Position × Nat)) (ecc : List (Nat × Nat)) (m : Nat)
    (hs : PagesWf s) : PagesWf (fetchModule n blank ecc m s) := by
  unfold fetchModule
  extract_lets l v page span lost bad isBlank q s₁ s₂ bits rows s₃ d grt s₄
  clear_value page lost isBlank bits d
  have h₁ : PagesWf s₁ := by
    dsimp only [s₁]
    split
    · exact pagesWf_congr (uncorrectable_pages _ _ _ _ _) hs
    · exact hs
  clear_value s₁
  have h₂ : PagesWf s₂ := by
    dsimp only [s₂]
    split
    next p line _ =>
      split
      · exact pagesWf_spoilLines _ _ (pagesWf_modPage (fun _ h => h) (pagesWf_congr (s := s₁) rfl h₁))
      · exact pagesWf_congr (s := s₁) rfl h₁
    · exact h₁
  clear_value s₂
  have h₃ : PagesWf s₃ := each_induction (P := PagesWf)
    (fun e _ hu => pagesWf_spoilLines _ _ (pagesWf_uncorrected m e.2 l hu)) bits h₂
  clear_value s₃
  have h₄ : PagesWf s₄ := pagesWf_congr (s := s₃) rfl h₃
  clear_value s₄
  split
  · exact (droppedEvent_within _ _ _ _ _).pagesWf rfl h₄
  · exact h₄

theorem enforceChanges_within (line : Int) (s : State) : Within changePieces s (enforceChanges line s) := by
  unfold enforceChanges
  exact (((Within.of_patch (l := changePieces) rfl).trans
    (.each (fun _ _ => (announceChange_within _ _ _).mono rfl) _ _)).trans
    (.each (fun _ _ => (newGeneration_within _ _ _).mono rfl) _ _))

theorem settleChanges_within (s : State) : Within [.grt, .esc] s (settleChanges s) := by
  unfold settleChanges
  exact (Within.each (fun _ _ => settleChange_within _ _) _ _).andThen (.of_patch (l := [.grt]) rfl) rfl

theorem noteMap_within (n : Int) (s : State) : Within [.ins] s (noteMap n s) :=
  .ite (.refl _ s) (.ite (.of_patch rfl) (.of_patch rfl))

theorem pagesWf_lineFetch (n : Int) (blank : List (Nat × Position × Nat)) (ecc : List (Nat × Nat)) (corrected : Nat)
    (hs : PagesWf s) : PagesWf (lineFetch n blank ecc corrected s) := by
  have hprepared : PagesWf (preparePrint s) := pagesWf_congr (preparePrint_pages s) hs
  unfold lineFetch
  dsimp only
  split
  · exact hprepared
  · refine (settleChanges_within _).pagesWf rfl ((enforceChanges_within _ _).pagesWf rfl ((noteMap_within _ _).pagesWf rfl
      (pagesWf_congr (s := each _ _ _) rfl (each_induction (P := PagesWf) (fun m u hu => pagesWf_fetchModule n blank ecc m hu) _ ?_))))
    split
    · exact hprepared
    · exact pagesWf_congr (placeTo_pages _ _ _) hprepared

/-! A command of this unit's host, served alone (R53) -/

theorem epochAfter_within (before s : State) : Within [.hub] s (epochAfter before s) := .ite (.refl _ s) (.of_patch rfl)

theorem answer_within (op : Nat) (c : Cmd) (v : Verdict) (s : State) : Within [.bar0, .events, .out] s (answer op c v s) :=
  .ite (reply_within _ s) (.refl _ s)

/-- What serving a command changes beside its own effect. -/
def servedPieces : List Piece := [.hub, .bar0, .events, .out]

section
variable {d : CmdSpec} {c : Cmd} {P : State → Prop} (hframe : ∀ {u v}, Within servedPieces u v → P u → P v)
  (happly : ∀ a u, P u → P (d.apply c a u).2)
include hframe happly

theorem runCommand_keeps (a : Asker) (hs : P s) : P (runCommand d c a s).2 := by
  unfold runCommand
  split
  · exact hs
  · dsimp only
    split
    · exact hs
    · exact hframe ((epochAfter_within _ _).mono rfl) (happly a s hs)

theorem runLocal_keeps (a : Asker) (hs : P s) : P (runLocal d c a s).2 := by
  unfold runLocal
  split
  · exact hs
  · split
    · exact hs
    · exact runCommand_keeps hframe happly a hs

/-- A command that this unit carries out in one phase keeps what its effect and its completion keep. -/
theorem serve_keeps {op : Nat} (hspec : specOf op = some d) (hhere : isLocal c s = true) (hone : twoPhase c = false)
    (hafter : ∀ u, P u → P (d.after u)) (hs : P s) : P (serve op c s) := by
  have hran := runLocal_keeps hframe happly (localAsker s) hs
  have hanswered := hframe ((answer_within d.opcode c (runLocal d c (localAsker s) s).1 _).mono rfl) hran
  have hcompleted : P (complete d (runLocal d c (localAsker s) s).1
      (answer d.opcode c (runLocal d c (localAsker s) s).1 (runLocal d c (localAsker s) s).2)) := by
    unfold complete
    split
    · exact hframe ((epochAfter_within _ _).mono rfl) (hafter _ hanswered)
    · exact hanswered
  simp only [serve, hspec, hhere, Bool.true_or, if_true, serveHere, hone, Bool.false_and, Bool.false_eq_true, if_false]
  split
  · exact hframe ((answer_within _ _ _ _).mono rfl) hcompleted
  · exact hcompleted

end

end Sys2Proof.Machine.Laws
end

section
/-! SUPPORT. Pages keep their canonical form. -/
namespace Sys2Proof.Machine.Proofs
open Sys2Proof.Machine Sys2Proof.Machine.Laws

variable {s t : State}

/-- A command that is accepted and served alone keeps the pages' form where its effect does. -/
theorem pagesWf_of_accepted {d : CmdSpec} {op : Nat} {c : Cmd} (hspec : specOf op = some d) (h : Accepted d c s)
    (happly : ∀ a u, PagesWf u ∧ Idle u → PagesWf (d.apply c a u).2 ∧ Idle (d.apply c a u).2)
    (hafter : d.after = id) (hs : PagesWf s) (hstep : hostCommand op c s = .next t) : PagesWf t := by
  have hready := h.served.ready
  have hserved : PagesWf (serve op c (takenFrom c (advance c.t s))) ∧ Idle (serve op c (takenFrom c (advance c.t s))) :=
    serve_keeps (P := fun u => PagesWf u ∧ Idle u)
      (fun hw hu => ⟨hw.pagesWf rfl hu.1, hw.idle rfl hu.2⟩) happly hspec hready.here hready.onePhase
      (fun u hu => by rwa [hafter]) ⟨hs, h.noRuns, hready.steady.noSpare⟩
  rw [hostCommand_of_ready hready op hserved.2.1 hserved.2.2] at hstep
  obtain rfl := Host.Outcome.next.inj hstep
  exact hserved.1

theorem pageLoad_keepsForm {c : Cmd} {a : Asker} (hs : PagesWf s ∧ Idle s) :
    PagesWf (pageLoadSpec.apply c a s).2 ∧ Idle (pageLoadSpec.apply c a s).2 := by
  refine ⟨fun p hp => ?_, hs.2⟩
  rcases List.mem_append.1 hp with hold | hnew
  · exact hs.1 p hold
  · rw [List.mem_singleton.1 hnew]
    exact memory_wf_nil

theorem freePage_keepsForm {id : Nat} (hs : PagesWf s) : PagesWf (freePage id s) :=
  fun p hp => hs p (List.mem_filter.1 hp).1

theorem pageDiscard_keepsForm {c : Cmd} {a : Asker} (hs : PagesWf s ∧ Idle s) :
    PagesWf (pageDiscardSpec.apply c a s).2 ∧ Idle (pageDiscardSpec.apply c a s).2 := by
  have hfree (id : Nat) : Within [.mem, .ins, .cal] s (freePage id s) := .of_patch rfl
  simp only [pageDiscardSpec]
  split
  · simp only [done]
    split
    · exact ⟨pagesWf_pageLoaded (freePage_keepsForm hs.1),
        (pageLoaded_within (l := .ins :: .cal :: .mem :: eventPieces) ((hfree _).mono rfl) _ _ _ rfl).idle rfl hs.2⟩
    · exact ⟨freePage_keepsForm hs.1, (hfree _).idle rfl hs.2⟩
  · exact hs

/-- Settles O52: only a load that ends well writes page bytes, and it writes a memory built by single writes. -/
theorem pagesKeepCanonicalForm : Obligations.PagesKeepCanonicalForm := by
  unfold Obligations.PagesKeepCanonicalForm
  refine ⟨?loadEnd, ?fetch, ?load, ?discard⟩
  case loadEnd =>
    intro t0 id o s t hcalm hs hstep
    have h := runs_atTime (t0 := t0) (f := pageLoadEnd id.toNat o) (P := PagesWf) hcalm.steady.running
      (pagesWf_pageLoadEnd (s := advance t0 s) id.toNat o hs)
    obtain ⟨u, hu, hwf⟩ := h
    obtain rfl := Host.Outcome.next.inj (hstep.symm.trans hu)
    exact hwf
  case fetch =>
    intro t0 n b e k s t hcalm hs hstep
    obtain ⟨u, hu, hwf⟩ := runs_atPrint (t0 := t0) (P := PagesWf) hcalm.steady
      (pagesWf_lineFetch (s := advance t0 s) n (b.map fun b => (b.1.val, b.2)) (e.map fun e => (e.1.val, e.2.val)) k hs)
    obtain rfl := Host.Outcome.next.inj (hstep.symm.trans hu)
    exact hwf
  case load =>
    intro c s t h hs hstep
    exact pagesWf_of_accepted (op := 0x0201) rfl h (fun _ _ => pageLoad_keepsForm) rfl hs hstep
  case discard =>
    intro c s t h hs hstep
    exact pagesWf_of_accepted (op := 0x0202) rfl h (fun _ _ => pageDiscard_keepsForm) rfl hs hstep

end Sys2Proof.Machine.Proofs
end

section
/-! SUPPORT. The host's registers, interrupts, link and function (R39 to R42, R62, R64, R68). -/
namespace Sys2Proof.Machine.Laws
open Sys2Proof.Machine

variable {s t : State}

/-! Register writes (R41, R42) -/

theorem registerWrite_of_dword {off : Nat} (h : off % 4 = 0) (v : BitVec 64) (s : State) :
    registerWrite off 4 v s = write32 off (v.truncate 32) s := if_pos ⟨rfl, h⟩

theorem registerWrite_of_other {off n : Nat} (v : BitVec 64) (hdword : n ≠ 4 ∨ off % 4 ≠ 0) (hqword : n ≠ 8 ∨ off % 8 ≠ 0) :
    registerWrite off n v s = s := by
  unfold registerWrite
  rw [if_neg (by omega), if_neg (by omega)]

theorem registerWrite_coalReply (v : BitVec 64) (s : State) :
    registerWrite 0x3020 4 v s = { s with bar0 := { s.bar0 with coalReply := v.truncate 32 &&& 0x03FF00FF } } := rfl

theorem registerWrite_cmdSize (v : BitVec 64) (hoff : s.bar0.cmd.enabled = false) :
    registerWrite 0x1008 4 v s = { s with bar0 := { s.bar0 with cmd := { s.bar0.cmd with size := v.truncate 32 } } } := by
  have hwrite : registerWrite 0x1008 4 v s = if s.bar0.cmd.enabled = true then s
    else setRing .cmd { s.bar0.cmd with size := v.truncate 32 } s := rfl
  rw [hwrite, hoff]
  rfl

theorem append_halves (v : BitVec 64) : ((v >>> 32).truncate 32 : BitVec 32) ++ (v.truncate 32 : BitVec 32) = v := by
  ext i hi
  simp only [BitVec.getElem_append, BitVec.truncate_eq_setWidth]
  split
  · simp [hi]
  · simp [Nat.add_sub_cancel' (show 32 ≤ i by omega), BitVec.getLsbD_eq_getElem hi]

theorem write32_cmdLow (w : BitVec 32) (hoff : s.bar0.cmd.enabled = false) :
    write32 0x1000 w s = { s with bar0 := { s.bar0 with cmd := { s.bar0.cmd with baseLow := some w } } } := by
  simp [write32, writeRing, ringRegs, setRing, hoff]

theorem write32_cmdHigh {low : BitVec 32} (w : BitVec 32) (hoff : s.bar0.cmd.enabled = false)
    (hlow : s.bar0.cmd.baseLow = some low) :
    write32 0x1004 w s = { s with bar0 := { s.bar0 with cmd := { s.bar0.cmd with base := w ++ low, baseLow := none } } } := by
  simp [write32, writeRing, ringRegs, setRing, hoff, hlow]

/-- A write of 8 bytes to BASE writes its lower half, then the upper half with which both are taken (R42). -/
theorem registerWrite_cmdBase (v : BitVec 64) (hoff : s.bar0.cmd.enabled = false) :
    registerWrite 0x1000 8 v s
      = { s with bar0 := { s.bar0 with cmd := { s.bar0.cmd with base := v, baseLow := none } } } := by
  have hwrite : registerWrite 0x1000 8 v s = write32 0x1004 ((v >>> 32).truncate 32) (write32 0x1000 (v.truncate 32) s) :=
    (if_neg (by decide)).trans (if_pos (by decide))
  rw [hwrite, write32_cmdLow _ hoff, write32_cmdHigh (low := v.truncate 32) _ ?off ?low, append_halves]
  case off => exact hoff
  case low => rfl

/-! Messages (R62) -/

/-- A source whose message may leave sends it. -/
theorem sendMessage_of_open {n : Nat} (henabled : bit (intMapOf s n) 8 = true)
    (hmask : vectorMasked s (bits (intMapOf s n) 5 0) = false) (hdma : dmaOk s = true) :
    sendMessage n s = send (.msix (bits (intMapOf s n) 5 0)) s := by
  unfold sendMessage
  simp only [henabled, hmask, hdma, Bool.not_true, Bool.or_self, Bool.false_eq_true, if_false]

/-- A coalescing source with its count at 0. -/
def clearSource (n : Nat) (s : State) : State :=
  { s with bar0 := { s.bar0 with sources := tset s.bar0.sources n {} } }

theorem coalesceTimeout_of_due {n : Nat} (hn : n < 3) (hcount : 0 < (tget {} s.bar0.sources n).count)
    (hdue : (tget {} s.bar0.sources n).oldest + coalTime s n ≤ s.now) (henabled : bit (intMapOf s n) 8 = true)
    (hmask : vectorMasked s (bits (intMapOf s n) 5 0) = false) (hdma : dmaOk s = true) :
    coalesceTimeout n s = send (.msix (bits (intMapOf s n) 5 0)) (clearSource n s) :=
  (if_pos ⟨hn, hcount, hdue⟩).trans (sendMessage_of_open (s := clearSource n s) henabled hmask hdma)

/-- A vector with its mask bit cleared. -/
def clearMask (v : Nat) (s : State) : State :=
  { s with bar0 := { s.bar0 with msix := tset s.bar0.msix (4 * v + 3) (tget 1 s.bar0.msix (4 * v + 3) &&& ~~~1) } }

theorem vectorMasked_clearMask (v : Nat) (s : State) : vectorMasked (clearMask v s) v = false := by
  have hget : tget 1 (clearMask v s).bar0.msix (4 * v + 3) = tget 1 s.bar0.msix (4 * v + 3) &&& ~~~1 :=
    tget_tset_same _ _ _ _
  rw [vectorMasked, hget]
  simp [bit]

theorem unmask_vector_of_pending {v : Fin 64} (hpending : s.bar0.pba = [v.val]) (hdma : dmaOk s = true) :
    unmask (.vector v) s
      = send (.msix v.val) { clearMask v.val s with bar0 := { (clearMask v.val s).bar0 with pba := [] } } := by
  have hopen := vectorMasked_clearMask v.val s
  have hwaits : (clearMask v.val s).bar0.pba = [v.val] := hpending
  have hdma' : dmaOk (clearMask v.val s) = true := hdma
  change flushVectors (clearMask v.val s) = _
  simp only [flushVectors, hwaits, hdma', List.reverse_singleton, List.filter_cons, hopen, Bool.not_false, if_true,
    List.filter_nil, Bool.not_true, Bool.false_eq_true, if_false, each, List.foldl_cons, List.foldl_nil, ne_eq,
    not_true_eq_false, decide_false]

theorem flushVectors_within (s : State) : Within [.events, .out] s (flushVectors s) :=
  .ite (.refl _ s) (.each (fun _ _ => .of_patch rfl) _ _)

/-! The device heartbeat (R64, R67) -/

theorem revokeReport_within (sr : Int) (what k : Nat) (s : State) :
    Within (.esc :: eventPieces) s (revokeReport sr what k s) := by
  unfold revokeReport
  dsimp only
  split
  · exact (raise_within _ _ _ _).fromPatch rfl rfl
  · exact .of_patch rfl

theorem missedEvent_within (n : Int) (cause k : Nat) (s : State) :
    Within (.esc :: eventPieces) s (missedEvent n cause k s) := by
  unfold missedEvent
  dsimp only
  split
  · exact (raise_within _ _ _ _).fromPatch rfl rfl
  · exact .of_patch rfl

theorem lineErrEvents_within (m : Nat) (slot : Int) (what k : Nat) (s : State) :
    Within (.modules :: eventPieces) s (lineErrEvents m slot what k s) := by
  unfold lineErrEvents
  dsimp only
  split
  · exact ((setModule_keeps (by rfl)).mono (l' := .modules :: eventPieces) rfl).andThen (raise_within _ _ _ _) rfl
  · exact (setModule_keeps (by rfl)).mono rfl

/-- What the events limited to one per millisecond change. -/
def ratePieces : List Piece := .esc :: .modules :: .grt :: .cameras :: blockPieces

theorem flushRates_within (s : State) : Within ratePieces s (flushRates s) := by
  have hmodule (m : Nat) (u : State) :
      Within ratePieces u (droppedEvent m 0 0 0 (lineErrEvents m 0 0 0 (lateEvent m 0 0 u))) :=
    (((lateEvent_within m 0 0 u).mono rfl).andThen (lineErrEvents_within m 0 0 0 _) rfl).andThen
      (droppedEvent_within m 0 0 0 _) rfl
  have hcamera (c : Nat) (u : State) : Within ratePieces u (lineErrReport c 0 0 u) := by
    obtain ⟨_, h⟩ := lineErrReport_to c 0 0 u
    exact h.within.mono rfl
  unfold flushRates
  have hevents : Within ratePieces s (revokeReport 0 0 0 (missedEvent 0 0 0 s)) :=
    ((missedEvent_within 0 0 0 s).andThen (revokeReport_within 0 0 0 _) rfl).mono rfl
  have hvoids (u : State) : Within ratePieces u (each u.ldg.voidRate (fun e s => voidReport e.1 0 0 0 s) u) :=
    .each (fun (e : Nat × RateLimit) u => (voidReport_within e.1 0 0 0 u).mono rfl) _ u
  exact ((hevents.trans (.each hmodule _ _)).trans (hvoids _)).trans (.each hcamera _ _)

theorem heartbeatTick_of_due (hcounts : heartbeatCounts s = true) (hdue : s.hub.heartbeatMs < s.now / tpMs) :
    Within (.hub :: ratePieces) s (heartbeatTick s) ∧ (heartbeatTick s).hub.heartbeat = s.hub.heartbeat + 1 := by
  have hstep : heartbeatTick s = flushRates { s with hub := { s.hub with
      heartbeat := s.hub.heartbeat + 1, heartbeatMs := s.now / tpMs } } := by
    unfold heartbeatTick
    dsimp only
    rw [if_pos ⟨hcounts, hdue⟩]
  have hrates := flushRates_within { s with hub := { s.hub with
      heartbeat := s.hub.heartbeat + 1, heartbeatMs := s.now / tpMs } }
  rw [hstep]
  exact ⟨hrates.fromPatch rfl rfl, congrArg Hub.heartbeat (hrates.hub_eq rfl rfl)⟩

/-- A heartbeat of the host before the deadline sets the next one (R68). -/
theorem heartbeat_of_inTime (hperiod : wdPeriod s ≠ 0) (hin : ∀ d, s.hub.wdDeadline = some d → s.now < d) :
    heartbeat s = { s with hub := { s.hub with wdDeadline := some (s.now + wdPeriod s), wdLast := s.now } } := by
  have hquiet : watchdogExpiry s = s := by
    unfold watchdogExpiry
    split
    · rfl
    next d hd => exact if_pos (hin d hd)
  unfold heartbeat
  rw [hquiet, if_neg hperiod]

/-! The link and the function (R39, R40) -/

theorem failLoads_within (s : State) : Within (.mem :: .ins :: .cal :: .free :: eventPieces) s (failLoads s) :=
  .each (fun _ _ => loadFails_within _ _ _) _ _

theorem linkEvent_within (up : Bool) (s : State) : Within eventPieces s (linkEvent up s) := raise_within _ _ _ _

/-- The Event Ring stays as it is while it takes nothing. -/
theorem deliverEvent_evt (e : Event) (h : ringUsable s.bar0.evt = false) : (deliverEvent e s).bar0.evt = s.bar0.evt := by
  have hwrite : canWriteEvent s = false := by simp [canWriteEvent, h]
  have hlost : (insertLost s).bar0.evt = s.bar0.evt := by
    unfold insertLost
    dsimp only
    split <;> rfl
  unfold deliverEvent
  rw [hwrite, Bool.and_false, if_neg Bool.false_ne_true, ← hlost]
  unfold bufferEvent
  dsimp only
  split
  · split
    · rfl
    · split <;> rfl
  · rfl

theorem raise_evt (code block : Nat) (detail : Bytes) (h : ringUsable s.bar0.evt = false) :
    (raise code block detail s).bar0.evt = s.bar0.evt := by
  have hkept (e : Event) : (forwardEvent e (logEvent e (deliverEvent e s))).bar0.evt = (deliverEvent e s).bar0.evt :=
    congrArg Bar0.evt ((((logEvent_within e _).mono (l' := [.logQueue, .sends, .out]) rfl).andThen
      (forwardEvent_within e _) rfl).bar0_eq rfl rfl)
  exact (hkept _).trans (deliverEvent_evt _ h)

theorem loadFails_evt (p : Page) (reason : Nat) (h : ringUsable s.bar0.evt = false) :
    (loadFails p reason s).bar0.evt = s.bar0.evt := by
  have hbefore : (failLoad p reason (arrivedBy p reason s).1 (arrivedBy p reason s).2).bar0.evt = s.bar0.evt :=
    congrArg Bar0.evt ((((arrivedBy_within p reason s).mono rfl).trans ((failLoad_within _ _ _ _).mono rfl) :
      Within [.free, .mem, .ins, .cal] _ _).bar0_eq rfl rfl)
  rw [loadFails_eq]
  exact (raise_evt _ _ _ (by rwa [← hbefore] at h)).trans hbefore

theorem failLoads_evt (h : s.bar0.evt = {}) : (failLoads s).bar0.evt = {} :=
  each_induction (P := fun u => u.bar0.evt = {}) (fun p u hu => (loadFails_evt p 5 (by rw [hu]; rfl)).trans hu) _ h

/-- The rings and interrupt settings at reset, the relays forgotten (R39). -/
def functionCleared (s : State) : State :=
  { s with
    bar0 := { buffer := s.bar0.buffer, lostInfo := s.bar0.lostInfo, lostWarn := s.bar0.lostWarn, lostFault := s.bar0.lostFault }
    rng := { s.rng with relays := [], coords := s.rng.coords.map fun t => { t with silent := true } } }

theorem functionReset_eq (s : State) : functionReset s = failLoads (functionCleared s) := rfl

theorem functionReset_within (s : State) :
    Within (.bar0 :: .rng :: .mem :: .ins :: .cal :: .free :: eventPieces) s (functionReset s) :=
  (failLoads_within _).fromPatch rfl rfl

theorem linkDown_of_up (h : s.link.up = true) : linkDown s
    = failLoads (linkEvent false { s with link := { s.link with up := false, downCount := s.link.downCount + 1 } }) := by
  unfold linkDown
  rw [h]
  rfl

theorem drainReplies_placed (n : Nat) (s : State) : (drainReplies n s).bar0.placed = s.bar0.placed := by
  induction n generalizing s with
  | zero => rfl
  | succ n ih =>
    unfold drainReplies
    split
    · rfl
    · split
      · exact (ih _).trans ((countEntry_within _ _).placed_eq rfl)
      · rfl

theorem flushRings_within (s : State) : Within [.bar0, .events, .out] s (flushRings s) :=
  (flushReplies_within s).andThen (flushEvents_within _) rfl

theorem hostReturns_within (s : State) : Within [.bar0, .events, .out] s (hostReturns s) :=
  .ite ((flushRings_within s).andThen (flushVectors_within _) rfl) (.refl _ s)

theorem hostReturns_placed (s : State) : (hostReturns s).bar0.placed = s.bar0.placed := by
  unfold hostReturns
  split
  · exact (((flushEvents_within _).trans (flushVectors_within _)).placed_eq rfl).trans (drainReplies_placed _ s)
  · rfl

theorem hostReturns_of_noDma (h : dmaOk s = false) : hostReturns s = s := if_neg (by rw [h]; exact Bool.false_ne_true)

/-- What a link that comes up changes. -/
def linkPieces : List Piece := .link :: .bar0 :: eventPieces

theorem linkUp_within (gen width : Nat) (s : State) : Within linkPieces s (linkUp gen width s) := by
  have hreturns : Within linkPieces s (hostReturns { s with link := { s.link with up := true, gen := gen, width := width } }) :=
    (hostReturns_within _).fromPatch rfl rfl
  exact .ite hreturns (hreturns.andThen (linkEvent_within _ _) rfl)

theorem linkUp_link (gen width : Nat) (s : State) :
    (linkUp gen width s).link = { s.link with up := true, gen := gen, width := width } := by
  have hreturns := (hostReturns_within { s with link := { s.link with up := true, gen := gen, width := width } }).keeps .link rfl
  unfold linkUp
  dsimp only
  split
  · exact hreturns
  · exact ((linkEvent_within _ _).keeps .link rfl).trans hreturns

theorem linkUp_placed (gen width : Nat) (s : State) : (linkUp gen width s).bar0.placed = s.bar0.placed := by
  have hreturns := hostReturns_placed { s with link := { s.link with up := true, gen := gen, width := width } }
  unfold linkUp
  dsimp only
  split
  · exact hreturns
  · exact ((linkEvent_within _ _).placed_eq rfl).trans hreturns

/-- The link with its access bits as the host sets them. -/
def withAccess (busMaster d3hot : Bool) (s : State) : State :=
  { s with link := { s.link with busMaster := busMaster, d3hot := d3hot } }

/-- The host takes DMA away: page loads fail (R40). -/
theorem hostAccess_of_noDma {busMaster d3hot : Bool} (h : dmaOk (withAccess busMaster d3hot s) = false) :
    Within (.link :: .mem :: .ins :: .cal :: .free :: eventPieces) s (hostAccess busMaster d3hot s)
      ∧ (hostAccess busMaster d3hot s).link = (withAccess busMaster d3hot s).link := by
  have hstep : hostAccess busMaster d3hot s
      = if dmaOk s = true then failLoads (withAccess busMaster d3hot s) else withAccess busMaster d3hot s := by
    change (if (dmaOk s && !dmaOk (withAccess busMaster d3hot s)) = true then failLoads (withAccess busMaster d3hot s)
      else hostReturns (withAccess busMaster d3hot s)) = _
    rw [h, hostReturns_of_noDma h, Bool.not_false, Bool.and_true]
  rw [hstep]
  split
  · exact ⟨(failLoads_within _).fromPatch rfl rfl, (failLoads_within _).keeps .link rfl⟩
  · exact ⟨.of_patch rfl, rfl⟩

/-- The host gives DMA back, or what it changes takes none away: what waited leaves. -/
theorem hostAccess_of_given {busMaster d3hot : Bool} (h : dmaOk s = true → dmaOk (withAccess busMaster d3hot s) = true) :
    hostAccess busMaster d3hot s = hostReturns (withAccess busMaster d3hot s) := by
  change (if (dmaOk s && !dmaOk (withAccess busMaster d3hot s)) = true then failLoads (withAccess busMaster d3hot s)
      else hostReturns (withAccess busMaster d3hot s)) = _
  rw [if_neg]
  simp only [Bool.and_eq_true, Bool.not_eq_true', not_and, Bool.not_eq_false]
  exact h

end Sys2Proof.Machine.Laws

namespace Sys2Proof.Machine.Proofs
open Sys2Proof.Machine Sys2Proof.Machine.Laws

variable {s : State}

/-- A step in which the host takes DMA away. -/
theorem runs_hostAccess_taken {t0 : Time} {busMaster d3hot : Bool} {f : State → State} (hcalm : Calm s)
    (hf : f (advance t0 s) = hostAccess busMaster d3hot (advance t0 s))
    (h : dmaOk (withAccess busMaster d3hot (advance t0 s)) = false) :
    Runs (serviceStep t0 f s) fun t =>
      t.link = { s.link with busMaster := busMaster, d3hot := d3hot } ∧ dmaOk t = false ∧ t.hub = s.hub ∧ t.cfg = s.cfg := by
  obtain ⟨hwithin, hlink⟩ := hostAccess_of_noDma h
  rw [← hf] at hwithin hlink
  refine hwithin.runsServe hcalm rfl rfl ⟨hlink, ?_, hwithin.hub_eq rfl rfl, hwithin.keeps .settings rfl⟩
  rw [dmaOk, hlink]
  exact h

/-- A step in which the host takes no DMA away. -/
theorem runs_hostAccess_given {t0 : Time} {busMaster d3hot : Bool} {f : State → State} (hcalm : Calm s)
    (hf : f (advance t0 s) = hostAccess busMaster d3hot (advance t0 s))
    (h : dmaOk (advance t0 s) = true → dmaOk (withAccess busMaster d3hot (advance t0 s)) = true) :
    Runs (serviceStep t0 f s) fun t =>
      t.link = { s.link with busMaster := busMaster, d3hot := d3hot } ∧ OnlyParts (.link :: eventParts) s t := by
  have hstep := hf.trans (hostAccess_of_given h)
  have hreturns := hostReturns_within (withAccess busMaster d3hot (advance t0 s))
  have hwithin : Within linkPieces (advance t0 s) (f (advance t0 s)) :=
    hstep ▸ hreturns.fromPatch rfl rfl
  refine hwithin.runsService hcalm rfl ?_ ⟨?_, hwithin.only rfl⟩
  · rw [hstep, hostReturns_placed]
    exact hcalm.steady.nonePlaced
  · rw [hstep, hreturns.keeps .link rfl]
    rfl

/-- Settles O19: each register, message, heartbeat and link row by the branch it takes. -/
theorem hostInterfaceRows : Obligations.HostInterfaceRows := by
  unfold Obligations.HostInterfaceRows
  refine ⟨?coal, ?size, ?base, ?discarded, ?coalesce, ?unmask, ?tick, ?heartbeat, ?reset, ?down, ?up, ?cleared, ?set, ?d3in, ?d3out⟩
  case coal =>
    intro t0 v s hcalm
    have hwithin : Within [.bar0] (advance t0 s) (registerWrite 0x3020 4 v (advance t0 s)) := .of_patch rfl
    exact hwithin.runsService hcalm rfl hcalm.steady.nonePlaced ⟨rfl, hwithin.only rfl⟩
  case size =>
    intro t0 v s hcalm hoff
    have hstep := registerWrite_cmdSize (s := advance t0 s) v hoff
    have hwithin : Within [.bar0] (advance t0 s) (registerWrite 0x1008 4 v (advance t0 s)) := hstep ▸ .of_patch rfl
    exact hwithin.runsService hcalm rfl (by rw [hstep]; exact hcalm.steady.nonePlaced) ⟨by rw [hstep]; rfl, hwithin.only rfl⟩
  case base =>
    intro t0 v s hcalm hoff
    have hstep := registerWrite_cmdBase (s := advance t0 s) v hoff
    have hwithin : Within [.bar0] (advance t0 s) (registerWrite 0x1000 8 v (advance t0 s)) := hstep ▸ .of_patch rfl
    exact hwithin.runsService hcalm rfl (by rw [hstep]; exact hcalm.steady.nonePlaced)
      ⟨by rw [hstep], by rw [hstep], by rw [hstep]; rfl, hwithin.only rfl⟩
  case discarded =>
    intro t0 off n v s hcalm hdword hqword
    have hwithin : Within [] (advance t0 s) (registerWrite off n v (advance t0 s)) :=
      (registerWrite_of_other (s := advance t0 s) v hdword hqword).symm ▸ .refl _ _
    exact hwithin.runsServe hcalm rfl rfl (hwithin.only rfl)
  case coalesce =>
    intro t0 n s halive hn hcount hdue henabled hmask hdma
    have hstep := coalesceTimeout_of_due (s := advance t0 s) hn hcount hdue henabled hmask hdma
    have hwithin : Within [.events, .out] (advance t0 s) (coalesceTimeout n.val (advance t0 s)) := hstep ▸ .of_patch rfl
    refine hwithin.runs halive ⟨?_, ?_, hwithin.only rfl⟩
    · rw [hstep]
      exact sent_of_append (o := [_]) rfl
    · rw [hstep]
      exact congrArg IntSource.count (tget_tset_same _ _ _ _)
  case unmask =>
    intro t0 v s halive hpending hdma
    have hstep := unmask_vector_of_pending (s := advance t0 s) hpending hdma
    have hwithin : Within [.bar0, .events, .out] (advance t0 s) (unmask (.vector v) (advance t0 s)) := hstep ▸ .of_patch rfl
    refine hwithin.runs halive ⟨?_, ?_, ?_, hwithin.only rfl⟩
    · rw [hstep]
      exact vectorMasked_clearMask v.val (advance t0 s)
    · rw [hstep]
      rfl
    · rw [hstep]
      exact sent_of_append (o := [_]) rfl
  case tick =>
    intro t0 s hcalm hcounts hdue
    obtain ⟨hwithin, hcount⟩ := heartbeatTick_of_due (s := advance t0 s) hcounts hdue
    exact hwithin.runsCal (f := heartbeatTick) hcalm rfl ⟨hcount, hwithin.keeps .mem rfl⟩
  case heartbeat =>
    intro t0 v s hcalm hperiod hin
    have hstep := heartbeat_of_inTime (s := advance t0 s) hperiod hin
    have hwithin : Within [.hub] (advance t0 s) (heartbeat (advance t0 s)) := hstep ▸ .of_patch rfl
    exact hwithin.runsPrint (f := heartbeat) hcalm.steady ⟨by rw [hstep]; rfl, hwithin.only rfl⟩
  case reset =>
    intro t0 s hcalm
    have hwithin := functionReset_within (advance t0 s)
    have hbar := (failLoads_within (functionCleared (advance t0 s))).keeps .bar0 rfl
    exact hwithin.runsPrint hcalm.steady ⟨(congrArg Bar0.cmd hbar :), (congrArg Bar0.rpl hbar :),
      failLoads_evt (s := functionCleared (advance t0 s)) rfl, (congrArg Bar0.intMap hbar :), (congrArg Bar0.msix hbar :),
      (congrArg Bar0.placed hbar :), hwithin.hub_eq rfl rfl, hwithin.keeps .settings rfl, hwithin.keeps .enc rfl⟩
  case down =>
    intro t0 s hcalm hup
    have hstep := linkDown_of_up (s := advance t0 s) hup
    have hevent : Within (.mem :: .ins :: .cal :: .free :: eventPieces)
        { advance t0 s with link := { s.link with up := false, downCount := s.link.downCount + 1 } }
        (linkDown (advance t0 s)) := hstep ▸ ((linkEvent_within _ _).mono rfl).trans (failLoads_within _)
    have hwithin : Within (.link :: .mem :: .ins :: .cal :: .free :: eventPieces) (advance t0 s) (linkDown (advance t0 s)) :=
      hevent.fromPatch rfl rfl
    have hlink := hevent.keeps .link rfl
    exact hwithin.runsPrint hcalm.steady ⟨congrArg Link.up hlink, congrArg Link.downCount hlink,
      hwithin.hub_eq rfl rfl, hwithin.keeps .settings rfl⟩
  case up =>
    intro t0 g w s hcalm
    have hwithin := linkUp_within g w (advance t0 s)
    have hlink := linkUp_link g w (advance t0 s)
    exact hwithin.runsService hcalm rfl ((linkUp_placed g w _).trans hcalm.steady.nonePlaced)
      ⟨by rw [hlink], by rw [hlink], by rw [hlink], hwithin.only rfl⟩
  case cleared =>
    intro t0 s hcalm
    exact runs_hostAccess_taken (t0 := t0) (f := fun s => hostAccess false s.link.d3hot s) hcalm rfl
      (by simp [dmaOk, withAccess])
  case set =>
    intro t0 s hcalm
    exact runs_hostAccess_given (t0 := t0) (f := fun s => hostAccess true s.link.d3hot s) hcalm rfl
      (by simp +contextual [dmaOk, withAccess, advance])
  case d3in =>
    intro t0 s hcalm
    exact runs_hostAccess_taken (t0 := t0) (f := fun s => hostAccess s.link.busMaster true s) hcalm rfl (by simp [dmaOk, withAccess])
  case d3out =>
    intro t0 s hcalm
    exact runs_hostAccess_given (t0 := t0) (f := fun s => hostAccess s.link.busMaster false s) hcalm rfl
      (by simp +contextual [dmaOk, withAccess, advance])

end Sys2Proof.Machine.Proofs
end

section
/-! SUPPORT. The unit ring (R70 to R78): its ports, what arrives at a unit, and the map built again. -/
namespace Sys2Proof.Machine.Laws
open Sys2Proof.Machine

variable {s t u : State} {h : RingHdr} {l : List Piece}

/-! Ports -/

@[simp] theorem ringPort_setRingPort_same (p : RingPort) (v : RingPortState) (s : State) :
    ringPort (setRingPort p v s) p = v := by
  cases p <;> rfl

@[simp] theorem ringPort_setRingPort_other (p : RingPort) (v : RingPortState) (s : State) :
    ringPort (setRingPort p v s) (otherPort p) = ringPort s (otherPort p) := by
  cases p <;> rfl

theorem ringPort_congr (h : t.rng = s.rng) (p : RingPort) : ringPort t p = ringPort s p := by
  cases p <;> simp only [ringPort, h]

theorem Within.portState (h : Within l s t) (hl : l.contains .ports = false) (p : RingPort) :
    (ringPort t p).state = (ringPort s p).state := by
  obtain ⟨heast, hwest⟩ := h.keeps .ports hl
  cases p
  · exact heast
  · exact hwest

theorem Within.portUp_eq (h : Within l s t) (hl : l.contains .ports = false) (p : RingPort) : portUp t p = portUp s p := by
  rw [portUp, portUp, h.portState hl]

/-- A packet of which no copy is kept only leaves. -/
theorem sendOn_of_unkept {p : RingPort} {k : RingPacket} (hup : portUp s p = true) (hkept : bodyKept k.body = false) :
    sendOn p k s = send (.ring p { k with hdr := { k.hdr with port := p } }) s := by
  unfold sendOn
  simp only [hup, hkept, if_true, Bool.false_eq_true, if_false]

/-- A packet that a port sends leaves by it. -/
theorem sendOn_of_up {p : RingPort} (k : RingPacket) (hup : portUp s p = true) : ∃ u,
    sendOn p k s = send (.ring p { k with hdr := { k.hdr with port := p } }) u ∧ u.out = s.out := by
  refine ⟨_, if_pos hup, ?_⟩
  dsimp only
  split
  · exact (setRingPort_within _ _ _).keeps .out rfl
  · rfl

/-- What sending keeps of the ring's registers. -/
theorem sendOn_heldVoids (p : RingPort) (k : RingPacket) (s : State) :
    (sendOn p k s).rng.heldVoids = s.rng.heldVoids := by
  have hset (q : RingPort) (v : RingPortState) : (setRingPort q v s).rng.heldVoids = s.rng.heldVoids := by cases q <;> rfl
  unfold sendOn
  dsimp only
  split
  · simp only [send]
    split
    · exact hset _ _
    · rfl
  · split
    · simp only [send]
      split
      · exact hset _ _
      · rfl
    · rfl

theorem sendRing_heldVoids (dst : BitVec 5) (body : RingBody) (s : State) :
    (sendRing dst body s).rng.heldVoids = s.rng.heldVoids :=
  each_induction (P := fun u => u.rng.heldVoids = s.rng.heldVoids)
    (fun _ _ hu => (sendOn_heldVoids _ _ _).trans hu) _ rfl

/-! What arrives (R71, R72) -/

/-- The unit has taken note of a packet and acknowledged it by `o`. -/
def heardWith (o : Output) (h : RingHdr) (s : State) : State :=
  { s with rng := { s.rng with accepted := tset s.rng.accepted h.serial h.seq }, out := o :: s.out }

theorem heardWith_within (o : Output) (h : RingHdr) (s : State) : Within [.rng, .out] s (heardWith o h s) := .of_patch rfl

theorem hopAck_of_up (hup : portUp s h.port = true) : ∃ o, hopAck h s = send o s := ⟨_, sendOn_of_unkept hup rfl⟩

theorem passOn_within (h : RingHdr) (body : RingBody) (s : State) : Within [.sends, .out] s (passOn h body s) :=
  .ite (sendOn_within _ _ _) (.ite (sendOn_within _ _ _) (.refl _ s))

theorem passOn_grows (h : RingHdr) (body : RingBody) (s : State) : Grows s (passOn h body s) :=
  .ite (sendOn_grows _ _ _) (.ite (sendOn_grows _ _ _) (.refl s))

/-- A packet for every unit is passed on, one for this unit alone is not. -/
def passed (h : RingHdr) (body : RingBody) (s : State) : State := if h.dst = 31 then passOn h body s else s

theorem passed_within (h : RingHdr) (body : RingBody) (s : State) : Within [.sends, .out] s (passed h body s) :=
  .ite (passOn_within _ _ _) (.refl _ s)

theorem passed_grows (h : RingHdr) (body : RingBody) (s : State) : Grows s (passed h body s) :=
  .ite (passOn_grows _ _ _) (.refl s)

theorem arrives_advance (harrives : Arrives h s) (t0 : Time) : Arrives h (advance t0 s) :=
  ⟨harrives.up, harrives.hops, harrives.other, harrives.fresh, harrives.mine⟩

theorem seqNew_restart (hnew : seqNew s h false = true) (restart : Bool) : seqNew s h restart = true := by
  unfold seqNew at hnew ⊢
  split at hnew
  · rfl
  · simp only [Bool.false_and, Bool.false_or] at hnew
    simp only [hnew, Bool.or_true]

/-- A packet that reaches this unit as new is acknowledged, delivered and passed on where it is for every unit. -/
theorem arrive_of_new (harrives : Arrives h s) (body : RingBody) (restart : Bool) (deliver : State → State) : ∃ o,
    arrive h body restart deliver s = passed h body (deliver (heardWith o h s)) := by
  obtain ⟨o, ho⟩ := hopAck_of_up harrives.up
  have hmine : (decide (h.dst = 31) || decide (h.dst = s.rng.address) && decide (h.dst ≠ 0)) = true := by
    rcases harrives.mine with hall | ⟨hown, hzero⟩
    · simp [hall]
    · simp [← hown, show h.dst ≠ 0#5 from hzero]
  have hfresh : seqNew (send o s) h restart = true := seqNew_restart harrives.fresh restart
  refine ⟨o, ?_⟩
  unfold arrive
  dsimp only
  rw [ho, if_neg (by simp [harrives.up, show h.hops ≠ 0#5 from harrives.hops]), if_neg harrives.other, hfresh, if_pos rfl]
  have haddress : (send o s).rng.address = s.rng.address := rfl
  simp only [haddress, hmine, Bool.and_self, when_, if_true, Bool.true_or, Bool.true_and, passed, decide_eq_true_eq]
  by_cases hall : h.dst = 31
  · rw [if_neg (by simp [hall]), if_pos hall]
    rfl
  · rw [if_pos (by simpa using hall), if_neg hall]
    rfl

/-! The map built again (R75, R76, R78) -/

theorem finishReroute_within (s : State) : Within (.rng :: eventPieces) s (finishReroute s) := by
  unfold finishReroute
  split
  · exact .refl _ s
  · exact (raise_within _ _ _ _).fromPatch rfl rfl

theorem recoveryBroadcast_within (s : State) : Within [.ldg, .sends, .out] s (recoveryBroadcast s) := by
  unfold recoveryBroadcast
  dsimp only
  exact .ite ((sendRanges_within _ _ _ _).fromPatch rfl rfl) (.refl _ s)

/-- What the choice of the time master and the recovery broadcast may change. -/
def settlingPieces : List Piece := .mer :: .ldg :: eventPieces

/-- A ring whose map has been built again. -/
structure Refreshed (last : Time) (s t : State) : Prop where
  within : Within (.rng :: settlingPieces) s t
  rng : t.rng = { s.rng with
    map := buildMap s, state := t.rng.state, lastBreak := t.rng.lastBreak, reroute := t.rng.reroute
    rerouteCount := t.rng.rerouteCount, east := t.rng.east, west := t.rng.west, txSeq := t.rng.txSeq
    completions := t.rng.completions, heldVoids := t.rng.heldVoids, voidTx := t.rng.voidTx }
  lastBreak : t.rng.lastBreak = s.rng.lastBreak ∨ t.rng.lastBreak = last

theorem Refreshed.then {last : Time} (hst : Refreshed last s t) (htu : Within settlingPieces t u) : Refreshed last s u where
  within := hst.within.andThen htu rfl
  rng := by
    rw [htu.keeps .rng rfl, hst.rng]
  lastBreak := by
    have hkept : u.rng.lastBreak = t.rng.lastBreak := (congrArg Rng.lastBreak (htu.keeps .rng rfl) :)
    rw [hkept]
    exact hst.lastBreak

theorem Refreshed.finish {last : Time} (hst : Refreshed last s t) : Refreshed last s (finishReroute t) := by
  unfold finishReroute
  split
  · exact hst
  next r _ =>
    refine Refreshed.then (t := { t with rng := { t.rng with reroute := none, rerouteCount := t.rng.rerouteCount + 1 } })
      ⟨hst.within.trans (.of_patch rfl), ?_, hst.lastBreak⟩ ((raise_within _ _ _ _).mono rfl)
    rw [hst.rng]

theorem Refreshed.broken {last : Time} (hst : Refreshed last s t) (r : Reroute) :
    Refreshed last s { t with rng := { t.rng with lastBreak := last, reroute := some r } } :=
  ⟨hst.within.trans (.of_patch rfl), by rw [hst.rng], .inr rfl⟩

theorem refreshRing_refreshed (before : State) (port : Option RingPort) (last : Time) (announced : Bool) (s : State) :
    Refreshed last s (refreshRing before port last announced s) := by
  unfold refreshRing
  extract_lets was oldBreaks breaks r₀ s₁ r₁ s₂ places isNew r₂ s₃ s₄ gained s₅ s₆ s₇
  have h₂ : Refreshed last s s₂ := ⟨.of_patch rfl, rfl, .inl rfl⟩
  clear_value s₂ breaks places isNew
  have h₃ : Refreshed last s s₃ := by
    cases breaks with
    | nil => exact h₂
    | cons i _ =>
      cases isNew with
      | true => exact h₂.broken _
      | false => exact h₂
  clear_value s₃
  have h₄ : Refreshed last s s₄ := by
    dsimp only [s₄, when_]
    split
    · exact h₃.finish
    · exact h₃
  clear_value s₄
  have h₅ : Refreshed last s s₅ := h₄.then (.ite ((raise_within _ _ _ _).mono rfl) (.refl _ _))
  clear_value s₅
  have h₆ : Refreshed last s s₆ := h₅.then (.ite ((raise_within _ _ _ _).mono rfl) (.refl _ _))
  clear_value s₆
  have h₇ : Refreshed last s s₇ := h₆.then (.ite (.refl _ _) ((reselect_within _).mono rfl))
  exact h₇.then ((recoveryBroadcast_within _).mono rfl)

theorem Refreshed.enum {last : Time} (h : Refreshed last s t) : t.rng.enum = s.rng.enum := (congrArg Rng.enum h.rng :)

theorem Refreshed.address {last : Time} (h : Refreshed last s t) : t.rng.address = s.rng.address :=
  (congrArg Rng.address h.rng :)

theorem Refreshed.order {last : Time} (h : Refreshed last s t) : t.rng.order = s.rng.order := (congrArg Rng.order h.rng :)

theorem Refreshed.links {last : Time} (h : Refreshed last s t) : t.rng.links = s.rng.links := (congrArg Rng.links h.rng :)

/-- A map whose entries each change keeps what the change keeps, where the default keeps it too. -/
theorem tget_map_value {κ α β : Type} [DecidableEq κ] {d : α} {f : α → α} {g : α → β} (hf : ∀ v, g (f v) = g v)
    (m : Tab κ α) (k : κ) : g (tget d (m.map fun e => (e.1, f e.2)) k) = g (tget d m k) := by
  induction m with
  | nil => rfl
  | cons e r ih =>
    obtain ⟨k', v⟩ := e
    by_cases hk : k' = k
    · simp [tget, hk, hf]
    · simpa [tget, hk] using ih

/-- The map built again has every unit's mode as it was. -/
theorem buildMap_mode (s : State) (a : BitVec 5) :
    (tget {} (buildMap s) a).mode = (tget {} s.rng.map a).mode := by
  have hold : (tget ({} : MapEntry) (s.rng.map.map fun (e : BitVec 5 × MapEntry) => (e.1, { e.2 with reachE := false, reachW := false })) a).mode
      = (tget {} s.rng.map a).mode :=
    tget_map_value (f := fun v : MapEntry => { v with reachE := false, reachW := false }) (fun _ => rfl) _ _
  unfold buildMap
  dsimp only
  split
  · exact hold
  next k _ =>
    refine List.foldlRecOn (motive := fun m => (tget ({} : MapEntry) m a).mode = (tget {} s.rng.map a).mode) _ _ hold fun m hm u _ => ?_
    by_cases ha : a = u.1.address
    · rw [ha, tget_tset_same]
      rfl
    · rw [tget_tset_of_ne _ _ _ ha]
      exact hm

/-! Ports that fail and come up (R74, R76) -/

theorem sendLinkState_sends (announced : Bool) (last : Time) (s : State) :
    Within [.sends, .out] s (sendLinkState announced last s) :=
  .ite (sendRing_within _ _ _) (.refl _ s)

theorem resendCopies_within (p : RingPort) (s : State) : Within [.rng, .sends, .out] s (resendCopies p s) := by
  have hone (k : RingPacket) (u : State) : Within [.rng, .sends, .out] u
      (if !portUp u p && k.hdr.wrapped then u
       else sendOn p k { u with rng := { u.rng with retxCount := u.rng.retxCount + 1 } }) :=
    .ite (.refl _ u) ((sendOn_within _ _ _).fromPatch rfl rfl)
  exact .ite (.refl _ s) (((setRingPort_keeps (p := p) (by rfl)).mono rfl).trans (.each hone _ _))

theorem resendCopies_lastBreak (p : RingPort) (s : State) : (resendCopies p s).rng.lastBreak = s.rng.lastBreak := by
  have hsend (k : RingPacket) (u : State) : (sendOn p k u).rng.lastBreak = u.rng.lastBreak :=
    (congrArg Rng.lastBreak ((sendOn_within p k u).keeps .rng rfl) :)
  have hset : (setRingPort p { ringPort s p with copies := [] } s).rng.lastBreak = s.rng.lastBreak := by cases p <;> rfl
  unfold resendCopies
  dsimp only
  split
  · rfl
  · refine each_induction (P := fun u => u.rng.lastBreak = s.rng.lastBreak) (fun k u hu => ?_) _ hset
    split
    · exact hu
    · exact (hsend _ _).trans hu

/-- A port's failure, seen before the unit says so. -/
def portFailed (p : RingPort) (last : Time) (s : State) : State :=
  let s := setRingPort p { ringPort s p with state := .failed } s
  { s with rng := { s.rng with lastBreak := last } }

theorem portFailed_within (p : RingPort) (last : Time) (s : State) :
    Within [.rng, .sends, .ports] s (portFailed p last s) := by
  cases p <;> exact .of_patch rfl

theorem ringPortFailed_of_up {p : RingPort} (last : Time) (hup : portUp s p = true) : ringPortFailed p last s
    = sendLinkState false last (resendCopies p (refreshRing s (some p) last false (portFailed p last s))) :=
  if_neg (by simp [hup])

/-- What a port's failure or coming up may change. -/
def portPieces : List Piece := .ports :: .rng :: settlingPieces

theorem ringPortFailed_failed {p : RingPort} (last : Time) (hup : portUp s p = true) :
    let t := ringPortFailed p last s
    Within portPieces s t ∧ (ringPort t p).state = .failed
      ∧ (ringPort t (otherPort p)).state = (ringPort s (otherPort p)).state ∧ t.rng.lastBreak = last := by
  have hfresh := refreshRing_refreshed s (some p) last false (portFailed p last s)
  have hresent := resendCopies_within p (refreshRing s (some p) last false (portFailed p last s))
  have htold := sendLinkState_sends false last (resendCopies p (refreshRing s (some p) last false (portFailed p last s)))
  have hafter : Within (.rng :: settlingPieces) (portFailed p last s) (ringPortFailed p last s) := by
    rw [ringPortFailed_of_up last hup]
    exact (hfresh.within.andThen hresent rfl).andThen htold rfl
  refine ⟨((portFailed_within p last s).mono rfl).trans (hafter.mono rfl), ?_, ?_, ?_⟩
  · rw [hafter.portState rfl]
    cases p <;> rfl
  · rw [hafter.portState rfl]
    cases p <;> rfl
  · rw [ringPortFailed_of_up last hup]
    refine (congrArg Rng.lastBreak (htold.keeps .rng rfl) :).trans ((resendCopies_lastBreak _ _).trans ?_)
    rcases hfresh.lastBreak with h | h
    · exact h
    · exact h

/-- A port that comes up, with its event. -/
def portRaised (p : RingPort) (s : State) : State :=
  raise 0x1802 0x08 (leBytes 1 (portCode p) ++ zeros 15) (setRingPort p { ringPort s p with state := .up } s)

theorem ringPortUp_of_down {p : RingPort} (hdown : (ringPort s p).state = .hunt ∨ (ringPort s p).state = .failed) :
    ringPortUp p s
      = releaseVoids (resendCopies p (sendLinkState false 0 (refreshRing s none 0 false (portRaised p s)))) := if_pos hdown

theorem releaseVoids_within (s : State) : Within [.sends, .out] s (releaseVoids s) :=
  (Within.each (fun _ _ => sendVoid_within _ _) _ _).fromPatch rfl rfl

/-- With a port UP no VOID waits any more (R85). -/
theorem releaseVoids_of_up {p : RingPort} (hup : portUp s p = true) : (releaseVoids s).rng.heldVoids = [] := by
  have hcleared : Within [.sends] s { s with rng := { s.rng with heldVoids := [] } } := .of_patch rfl
  refine (each_induction (P := fun u => portUp u p = true ∧ u.rng.heldVoids = []) (fun b u hu => ?_) s.rng.heldVoids
    ⟨(hcleared.portUp_eq rfl p).trans hup, rfl⟩).2
  obtain ⟨hport, hnone⟩ := hu
  have hany : ((routes u 31).any (portUp u) || portUp u .east || portUp u .west) = true := by
    cases p <;> simp [hport]
  have hstep : sendVoid b u = sendRing 31 b { u with rng := { u.rng with voidTx := u.rng.voidTx + 1 } } := if_pos hany
  exact ⟨((sendVoid_within b u).portUp_eq rfl p).trans hport, hstep ▸ (sendRing_heldVoids _ _ _).trans hnone⟩

theorem ringPortUp_raised {p : RingPort} (hdown : (ringPort s p).state = .hunt ∨ (ringPort s p).state = .failed) :
    let t := ringPortUp p s
    Within portPieces s t ∧ (ringPort t p).state = .up
      ∧ (ringPort t (otherPort p)).state = (ringPort s (otherPort p)).state ∧ t.rng.heldVoids = [] := by
  have hraised := raise_within 0x1802 0x08 (leBytes 1 (portCode p) ++ zeros 15)
    (setRingPort p { ringPort s p with state := .up } s)
  have hfresh := (refreshRing_refreshed s none 0 false (portRaised p s)).within
  have hresent := (hfresh.andThen (sendLinkState_sends false 0 _) rfl).andThen (resendCopies_within p _) rfl
  have hbefore : Within (.rng :: settlingPieces) (setRingPort p { ringPort s p with state := .up } s)
      (resendCopies p (sendLinkState false 0 (refreshRing s none 0 false (portRaised p s)))) :=
    (hraised.mono rfl).trans hresent
  have hafter : Within (.rng :: settlingPieces) (setRingPort p { ringPort s p with state := .up } s) (ringPortUp p s) := by
    rw [ringPortUp_of_down hdown]
    exact hbefore.andThen (releaseVoids_within _) rfl
  refine ⟨((setRingPort_within p _ s).mono rfl).trans (hafter.mono rfl), ?_, ?_, ?_⟩
  · rw [hafter.portState rfl, ringPort_setRingPort_same]
  · rw [hafter.portState rfl, ringPort_setRingPort_other]
  · rw [ringPortUp_of_down hdown]
    refine releaseVoids_of_up (p := p) ?_
    rw [hbefore.portUp_eq rfl, portUp, ringPort_setRingPort_same]
    rfl

/-! LINK_STATE, HOP_ACK and TIME -/

theorem takeAck_of_copy {upTo : BitVec 16} (hup : portUp s h.port = true)
    (hcopy : ∃ k ∈ (ringPort s h.port).copies, k.hdr.seq = upTo) : takeAck h upTo s
      = setRingPort h.port { ringPort s h.port with
          copies := ((ringPort s h.port).copies.dropWhile fun k => k.hdr.seq ≠ upTo).drop 1 } s := by
  obtain ⟨k, hk, hseq⟩ := hcopy
  exact if_pos (by
    rw [hup, Bool.true_and]
    exact List.any_eq_true.2 ⟨k, hk, by simpa using hseq⟩)

theorem takeLinkState_of_unit {e w a : Bool} {m : BitVec 3} {last : Time} {x : Assigned}
    (hunit : s.rng.order.find? (fun u => u.serial = h.serial) = some x) :
    let t := takeLinkState h e w a m last s
    Within (.rng :: settlingPieces) s t
      ∧ tget {} t.rng.links x.address = { eastUp := e, westUp := w, addressed := h.src = x.address }
      ∧ (tget {} t.rng.map x.address).mode = m := by
  have hstep : takeLinkState h e w a m last s = refreshRing s none last a { s with rng := { s.rng with
      links := tset s.rng.links x.address { eastUp := e, westUp := w, addressed := h.src = x.address }
      map := tset s.rng.map x.address { tget {} s.rng.map x.address with mode := m } } } := by
    unfold takeLinkState
    rw [hunit]
  have hfresh := refreshRing_refreshed s none last a { s with rng := { s.rng with
      links := tset s.rng.links x.address { eastUp := e, westUp := w, addressed := h.src = x.address }
      map := tset s.rng.map x.address { tget {} s.rng.map x.address with mode := m } } }
  dsimp only
  rw [hstep]
  refine ⟨hfresh.within.fromPatch rfl rfl, ?_, ?_⟩
  · rw [hfresh.links]
    exact tget_tset_same _ _ _ _
  · rw [(congrArg Rng.map hfresh.rng :), buildMap_mode, tget_tset_same]

/-- A link delay noted for a port (R94). -/
def noteDelay (p : RingPort) (delay : Nat) (s : State) : State :=
  match p with
  | .east => { s with mer := { s.mer with linkDelayE := delay } }
  | .west => { s with mer := { s.mer with linkDelayW := delay } }

/-- The link delay of a port. -/
def linkDelay (p : RingPort) (m : Mer) : Nat := match p with | .east => m.linkDelayE | .west => m.linkDelayW

theorem noteDelay_within (p : RingPort) (delay : Nat) (s : State) : Within [.mer] s (noteDelay p delay s) := by
  cases p <;> exact .of_patch rfl

theorem linkDelay_noteDelay (p : RingPort) (delay : Nat) (s : State) : linkDelay p (noteDelay p delay s).mer = delay := by
  cases p <;> rfl

theorem SourceOnly.linkDelay_eq (h : SourceOnly s t) (p : RingPort) : linkDelay p t.mer = linkDelay p s.mer := by
  have hbeside (m : Mer) : linkDelay p m = linkDelay p (besideSource m) := by cases p <;> rfl
  rw [hbeside, hbeside s.mer, h]

theorem ringTime_of_timed {rt : Nat} {off : Int} {auto slave : Bool} (hup : portUp s h.port = true)
    (htimed : ringTimed s = true) :
    let t := ringTime h rt off auto slave s
    Within (.mer :: .free :: eventPieces) s t ∧ linkDelay h.port t.mer = rt / 2 := by
  unfold ringTime
  rw [if_neg (by simp [hup, htimed])]
  extract_lets delay m₀ s₀ old new m₁ s₁ s₂ m₂ t
  have hs₀ : s₀ = noteDelay h.port (rt / 2) s := rfl
  have h₀ : Within (.mer :: .free :: eventPieces) s s₀ ∧ linkDelay h.port s₀.mer = rt / 2 :=
    hs₀ ▸ ⟨(noteDelay_within _ _ s).mono rfl, linkDelay_noteDelay _ _ s⟩
  clear_value s₀
  have h₁ : Within (.mer :: .free :: eventPieces) s s₁ ∧ linkDelay h.port s₁.mer = rt / 2 := by
    dsimp only [s₁]
    split
    · exact h₀
    · refine ⟨h₀.1.trans (.of_patch rfl), Eq.trans ?_ h₀.2⟩
      cases h.port <;> rfl
  clear_value s₁
  have h₂ : Within (.mer :: .free :: eventPieces) s s₂ ∧ linkDelay h.port s₂.mer = rt / 2 := by
    dsimp only [s₂]
    split
    · exact ⟨h₁.1.andThen (reselect_within _) rfl, ((reselect_sourceOnly _).linkDelay_eq _).trans h₁.2⟩
    · exact h₁
  clear_value s₂
  dsimp only [t]
  split
  · refine ⟨h₂.1.trans (.of_patch rfl), ((adjustRate_sourceOnly _).linkDelay_eq _).trans (Eq.trans ?_ h₂.2)⟩
    cases h.port <;> rfl
  · exact h₂

/-- A TIME packet to the neighbour at a port, where it is UP. -/
def tellTime (slave : Bool) (p : RingPort) (s : State) : State :=
  if portUp s p then
    sendOn p { hdr := { src := s.rng.address, dst := 0, hops := 30, west := p = .west, serial := Config.deviceSerial }
               body := .time s.now (!policyFree s) slave } s
  else s

theorem tellTime_within (slave : Bool) (p : RingPort) (s : State) : Within [.out] s (tellTime slave p s) := by
  unfold tellTime
  split
  next hup =>
    rw [sendOn_of_unkept hup (by rfl)]
    exact send_within _ _
  · exact .refl _ s

theorem tellTime_grows (slave : Bool) (p : RingPort) (s : State) : Grows s (tellTime slave p s) :=
  .ite (sendOn_grows _ _ _) (.refl s)

theorem ringTimeExchange_of_timed (htimed : ringTimed s = true) : ∃ slave,
    ringTimeExchange s = tellTime slave .west (tellTime slave .east s) :=
  ⟨_, if_pos htimed⟩

theorem tellTime_of_up {slave : Bool} {p : RingPort} (hup : portUp s p = true) : ∃ k : RingPacket,
    tellTime slave p s = send (.ring p k) s ∧ k.body = .time s.now (!policyFree s) slave :=
  ⟨_, (if_pos hup).trans (sendOn_of_unkept hup rfl), rfl⟩

end Sys2Proof.Machine.Laws

namespace Sys2Proof.Machine.Proofs
open Sys2Proof.Machine Sys2Proof.Machine.Laws

variable {s : State}

/-- Settles O9: each port and packet by the branch it takes. -/
theorem ringLinkRows : Obligations.RingLinkRows := by
  unfold Obligations.RingLinkRows
  refine ⟨?bad, ?ack, ?link, ?failed, ?up, ?reroute, ?time, ?exchange⟩
  case bad =>
    intro t0 p s halive
    have hwithin : Within [.sends] (advance t0 s) (setRingPort p
        { ringPort (advance t0 s) p with crcErr := satInc 16 (ringPort (advance t0 s) p).crcErr } (advance t0 s)) :=
      setRingPort_keeps rfl
    refine hwithin.runs (f := fun s => setRingPort p { ringPort s p with crcErr := satInc 16 (ringPort s p).crcErr } s)
      halive ⟨?_, hwithin.portState rfl p, ringPort_setRingPort_other _ _ _, hwithin.only rfl⟩
    rw [ringPort_setRingPort_same]
    rfl
  case ack =>
    intro t0 h upTo s halive hup hcopy
    have hstep := takeAck_of_copy (s := advance t0 s) hup hcopy
    have hwithin : Within [.sends] (advance t0 s) (takeAck h upTo (advance t0 s)) := hstep ▸ setRingPort_keeps rfl
    refine hwithin.runs halive ⟨?_, hwithin.only rfl⟩
    rw [hstep, ringPort_setRingPort_same]
    rfl
  case link =>
    intro t0 h e w a m l x s halive harrives hunit
    obtain ⟨o, hstep⟩ := arrive_of_new (arrives_advance harrives t0) (.linkState e w a m l) true (takeLinkState h e w a m l)
    obtain ⟨hwithin, hlinks, hmode⟩ := takeLinkState_of_unit (s := heardWith o h (advance t0 s)) (e := e) (w := w) (a := a)
      (m := m) (last := l) hunit
    have hpassed := passed_within h (.linkState e w a m l) (takeLinkState h e w a m l (heardWith o h (advance t0 s)))
    have hrng := hpassed.keeps .rng rfl
    rw [← hstep] at hpassed hrng
    have hall : Within (.rng :: settlingPieces) (advance t0 s)
        (arrive h (.linkState e w a m l) true (takeLinkState h e w a m l) (advance t0 s)) :=
      (((heardWith_within o h _).mono rfl).trans hwithin).andThen hpassed rfl
    refine hall.runs halive ⟨?_, ?_, hall.hub_eq rfl rfl, hall.keeps .mem rfl⟩
    · rw [(congrArg Rng.links hrng :), hlinks]
    · rw [(congrArg Rng.map hrng :), hmode]
  case failed =>
    intro t0 p last s halive hup
    obtain ⟨hwithin, hfailed, hother, hlast⟩ := ringPortFailed_failed (s := advance t0 s) last hup
    exact hwithin.runs halive ⟨hfailed, hother, hlast, hwithin.hub_eq rfl rfl, hwithin.keeps .mem rfl⟩
  case up =>
    intro t0 p s halive hdown
    obtain ⟨hwithin, hup, hother, hnone⟩ := ringPortUp_raised (s := advance t0 s) hdown
    exact hwithin.runs halive ⟨hup, hother, hnone, hwithin.hub_eq rfl rfl, hwithin.keeps .mem rfl⟩
  case reroute =>
    intro t0 r s halive hreroute
    have hwithin := finishReroute_within (advance t0 s)
    refine hwithin.runs halive ?_
    have hset : ∃ d, finishReroute (advance t0 s) = raise 0x2801 0x08 d { advance t0 s with rng := { s.rng with
        reroute := none, rerouteCount := s.rng.rerouteCount + 1 } } := by
      unfold finishReroute
      rw [show (advance t0 s).rng.reroute = some r from hreroute]
      exact ⟨_, rfl⟩
    obtain ⟨d, hd⟩ := hset
    have hrng := (raise_within 0x2801 0x08 d { advance t0 s with rng := { s.rng with
      reroute := none, rerouteCount := s.rng.rerouteCount + 1 } }).keeps .rng rfl
    rw [← hd] at hrng
    exact ⟨(congrArg Rng.reroute hrng :), (congrArg Rng.rerouteCount hrng :), hwithin.only rfl⟩
  case time =>
    intro t0 h rt off auto slave s halive hup htimed
    obtain ⟨hwithin, hdelay⟩ := ringTime_of_timed (s := advance t0 s) (rt := rt) (off := off) (auto := auto) (slave := slave)
      hup htimed
    refine hwithin.runs halive ⟨?_, hwithin.hub_eq rfl rfl⟩
    unfold linkDelay at hdelay
    cases hport : h.port <;> rw [hport] at hdelay <;> exact hdelay
  case exchange =>
    intro t0 p s halive htimed hup
    obtain ⟨slave, hstep⟩ := ringTimeExchange_of_timed (s := advance t0 s) htimed
    have heast := tellTime_within slave .east (advance t0 s)
    have hwithin : Within [.out] (advance t0 s) (ringTimeExchange (advance t0 s)) :=
      hstep ▸ heast.trans (tellTime_within _ _ _)
    refine hwithin.runs halive ⟨?_, hwithin.only rfl⟩
    rw [hstep]
    cases p with
    | east =>
      obtain ⟨k, hk, hbody⟩ := tellTime_of_up (s := advance t0 s) (slave := slave) (p := .east) hup
      refine ⟨k, _, _, ?_, hbody⟩
      rw [hk]
      exact mem_sent (s := s) (u := advance t0 s) (.of_eq rfl) (tellTime_grows _ _ _)
    | west =>
      obtain ⟨k, hk, hbody⟩ := tellTime_of_up (s := tellTime slave .east (advance t0 s)) (slave := slave) (p := .west)
        ((heast.portUp_eq rfl .west).trans hup)
      refine ⟨k, _, _, ?_, hbody.trans (congrArg (fun n => RingBody.time n _ _) heast.now)⟩
      rw [hk]
      exact mem_sent (s := s) (u := tellTime slave .east (advance t0 s))
        ((tellTime_grows slave .east (advance t0 s)).after rfl) (.refl _)

end Sys2Proof.Machine.Proofs
end

section
/-! SUPPORT. Enumeration of the ring (R77, R78). -/
namespace Sys2Proof.Machine.Laws
open Sys2Proof.Machine

variable {s t u : State} {h : RingHdr} {e : Enumeration}

/-- What enumeration may change. -/
def ringPieces : List Piece := .rng :: settlingPieces

/-- A token that reaches a unit with no enumeration in progress is joined. -/
theorem takeEnum_of_new {fill : Bool} {next : Nat} {units : List Assigned} (harrives : Arrives h s)
    (hnone : s.rng.enum = none) :
    ∃ o, takeEnum h fill next units s = joinEnum h fill next units (heardWith o h s) := by
  obtain ⟨o, ho⟩ := hopAck_of_up harrives.up
  have hfresh : seqNew (send o s) h false = true := harrives.fresh
  refine ⟨o, ?_⟩
  unfold takeEnum
  rw [if_neg (by simp [harrives.up, show h.hops ≠ 0#5 from harrives.hops])]
  dsimp only
  rw [ho, if_neg harrives.other, hfresh, if_neg (by simp)]
  split
  · rfl
  next e he => exact absurd (he.symm.trans hnone) nofun

/-- The enumeration that a unit takes part in by a token. -/
def joining (h : RingHdr) (fill : Bool) (next : Nat) (s : State) : Enumeration :=
  { issuer := false, fill := fill, started := s.now, serial := h.serial,
    pending := if fill then none else some (BitVec.ofNat 5 next) }

theorem joinEnum_of_room {fill : Bool} {next : Nat} {units : List Assigned} (hroom : enumRefusal fill next units s = none) :
    Within ringPieces s (joinEnum h fill next units s) ∧ (joinEnum h fill next units s).rng.enum = some (joining h fill next s)
      ∧ (joinEnum h fill next units s).rng.address = s.rng.address := by
  have hstep : ∃ body, joinEnum h fill next units s = passOn h body
      (refreshRing s none 0 false { s with rng := { s.rng with enum := some (joining h fill next s) } }) := by
    unfold joinEnum
    rw [hroom]
    exact ⟨_, rfl⟩
  obtain ⟨body, hbody⟩ := hstep
  have hfresh := refreshRing_refreshed s none 0 false { s with rng := { s.rng with enum := some (joining h fill next s) } }
  have hpassed := passOn_within h body
    (refreshRing s none 0 false { s with rng := { s.rng with enum := some (joining h fill next s) } })
  rw [← hbody] at hpassed
  have hrng := hpassed.keeps .rng rfl
  exact ⟨(hfresh.within.fromPatch rfl rfl).andThen hpassed rfl, (congrArg Rng.enum hrng :).trans hfresh.enum,
    (congrArg Rng.address hrng :).trans hfresh.address⟩

/-- An operation that ends the enumeration in progress with the addresses as they were. -/
structure EnumEnded (s t : State) : Prop where
  within : Within ringPieces s t
  none_ : t.rng.enum = none
  address : t.rng.address = s.rng.address
  order : t.rng.order = s.rng.order

theorem EnumEnded.then {l : List Piece} (hst : EnumEnded s t) (htu : Within l t u) (hrng : l.contains .rng = false)
    (hl : incl l ringPieces = true) : EnumEnded s u where
  within := hst.within.andThen htu hl
  none_ := (congrArg Rng.enum (htu.keeps .rng hrng) :).trans hst.none_
  address := (congrArg Rng.address (htu.keeps .rng hrng) :).trans hst.address
  order := (congrArg Rng.order (htu.keeps .rng hrng) :).trans hst.order

theorem EnumEnded.after (htu : EnumEnded t u) (hst : Within ringPieces s t) (haddress : t.rng.address = s.rng.address)
    (horder : t.rng.order = s.rng.order) : EnumEnded s u where
  within := hst.trans htu.within
  none_ := htu.none_
  address := htu.address.trans haddress
  order := htu.order.trans horder

theorem dropEnum_ended (s : State) : EnumEnded s (dropEnum s) :=
  have hfresh := refreshRing_refreshed s none 0 false { s with rng := { s.rng with enum := none } }
  ⟨hfresh.within.fromPatch rfl rfl, hfresh.enum, hfresh.address, hfresh.order⟩

theorem enumDone_within (status : Nat) (fill : Bool) (s : State) : Within eventPieces s (enumDone status fill s) :=
  raise_within _ _ _ _

theorem abortEnum_ended (status : Nat) (e : Enumeration) (s : State) : EnumEnded s (abortEnum status e s) := by
  have hsent := sendBoth_within 31 (.enumAbort (BitVec.ofNat 16 status) e.serial) s
  have hrng := hsent.keeps .rng rfl
  exact ((dropEnum_ended _).after (hsent.mono rfl) (congrArg Rng.address hrng :) (congrArg Rng.order hrng :)).then
    (enumDone_within _ _ _) rfl rfl

/-- The address that an assignment gives this unit. -/
def ownAddress (units : List Assigned) : BitVec 5 :=
  match units.find? (fun u => u.serial = Config.deviceSerial) with
  | some u => u.address
  | none => 0

/-- An assignment in force (R77, R78). -/
def adopted (units : List Assigned) (s : State) : State :=
  { s with rng := { s.rng with enum := none, address := ownAddress units, order := units, links := [] } }

theorem enumAdopt_of_due {units : List Assigned} {at_ : Time} (hrun : s.rng.enum = some e)
    (hadopt : e.adopt = some (units, at_)) (hdue : at_ ≤ s.now) : EnumEnded (adopted units s) (enumAdopt s) := by
  have hstep : enumAdopt s = if e.issuer then enumDone eOk e.fill (refreshRing s none 0 false (adopted units s))
      else refreshRing s none 0 false (adopted units s) := by
    unfold enumAdopt
    rw [hrun]
    dsimp only
    rw [hadopt]
    exact if_neg (Nat.not_lt.2 hdue)
  have hfresh := refreshRing_refreshed s none 0 false (adopted units s)
  have hended : EnumEnded (adopted units s) (refreshRing s none 0 false (adopted units s)) :=
    ⟨hfresh.within, hfresh.enum, hfresh.address, hfresh.order⟩
  rw [hstep]
  split
  · exact hended.then (enumDone_within _ _ _) rfl rfl
  · exact hended

theorem enumTimeout_of_due (hrun : s.rng.enum = some e) (hissuer : e.issuer = true) (hwaits : e.adopt = none)
    (hdue : e.started + 10 * tpMs ≤ s.now) : enumTimeout s = abortEnum eTimeout e s := by
  unfold enumTimeout
  rw [hrun]
  exact if_pos ⟨hissuer, hwaits, hdue⟩

theorem pendingAddressTimeout_of_due (hrun : s.rng.enum = some e) (hissuer : e.issuer = false) (hwaits : e.adopt = none)
    (hdue : e.started + commitTimeoutMs s * tpMs ≤ s.now) : pendingAddressTimeout s = dropEnum s := by
  unfold pendingAddressTimeout
  rw [hrun]
  exact if_pos ⟨by simp [hissuer], hwaits, hdue⟩

theorem takeEnumCommit_of_serial {units : List Assigned} {adopt : Time} (hrun : s.rng.enum = some e)
    (hserial : e.serial = h.serial) : takeEnumCommit h units adopt s
      = { s with rng := { s.rng with enum := some { e with adopt := some (units, adopt) } } } := by
  unfold takeEnumCommit
  rw [hrun]
  exact if_pos hserial

theorem takeEnumAbort_of_joined {status : BitVec 16} (hrun : s.rng.enum = some e) (hissuer : e.issuer = false)
    (hwaits : e.adopt = none) : takeEnumAbort status e.serial s = dropEnum s := by
  unfold takeEnumAbort
  rw [hrun]
  dsimp only
  rw [if_neg (by simp [hwaits]), hissuer]
  rfl

end Sys2Proof.Machine.Laws

namespace Sys2Proof.Machine.Proofs
open Sys2Proof.Machine Sys2Proof.Machine.Laws

/-- Settles O8: an enumeration is joined, decided, dropped or adopted; the map built again touches none of it. -/
theorem enumerationRows : Obligations.EnumerationRows := by
  unfold Obligations.EnumerationRows
  refine ⟨?token, ?commit, ?abort, ?adopt, ?timeout, ?expires⟩
  case token =>
    intro t0 h fill next units s halive harrives hnone hroom
    obtain ⟨o, hstep⟩ := takeEnum_of_new (fill := fill) (next := next) (units := units) (arrives_advance harrives t0) hnone
    obtain ⟨hjoined, henum, haddress⟩ := joinEnum_of_room (s := heardWith o h (advance t0 s)) (h := h) (fill := fill)
      (next := next) (units := units) hroom
    rw [← hstep] at hjoined henum haddress
    have hwithin : Within ringPieces (advance t0 s) (takeEnum h fill next units (advance t0 s)) :=
      ((heardWith_within o h _).mono rfl).trans hjoined
    exact hwithin.runs halive ⟨_, henum, rfl, rfl, rfl, rfl, rfl, haddress⟩
  case commit =>
    intro t0 h units adopt e s halive harrives hrun hserial
    obtain ⟨o, hstep⟩ := arrive_of_new (arrives_advance harrives t0) (.enumCommit units adopt) false
      (takeEnumCommit h units adopt)
    rw [takeEnumCommit_of_serial (s := heardWith o h (advance t0 s)) hrun hserial] at hstep
    have hpassed := passed_within h (.enumCommit units adopt) { heardWith o h (advance t0 s) with
      rng := { (heardWith o h (advance t0 s)).rng with enum := some { e with adopt := some (units, adopt) } } }
    rw [← hstep] at hpassed
    have hwithin : Within [.rng, .sends, .out] (advance t0 s)
        (arrive h (.enumCommit units adopt) false (takeEnumCommit h units adopt) (advance t0 s)) :=
      hpassed.fromPatch rfl rfl
    exact hwithin.runs halive ⟨(congrArg Rng.enum (hpassed.keeps .rng rfl) :), hwithin.only rfl⟩
  case abort =>
    intro t0 h status e s halive harrives hrun hissuer hwaits
    obtain ⟨o, hstep⟩ := arrive_of_new (arrives_advance harrives t0) (.enumAbort status e.serial) false
      (takeEnumAbort status e.serial)
    rw [takeEnumAbort_of_joined (s := heardWith o h (advance t0 s)) hrun hissuer hwaits] at hstep
    have hended : EnumEnded (advance t0 s)
        (arrive h (.enumAbort status e.serial) false (takeEnumAbort status e.serial) (advance t0 s)) :=
      hstep ▸ ((dropEnum_ended _).after ((heardWith_within o h _).mono rfl) rfl rfl).then (passed_within _ _ _) rfl rfl
    exact hended.within.runs halive ⟨hended.none_, hended.address⟩
  case adopt =>
    intro t0 e units at_ s halive hrun hadopt hdue
    have hended := enumAdopt_of_due (s := advance t0 s) hrun hadopt hdue
    have hwithin : Within ringPieces (advance t0 s) (enumAdopt (advance t0 s)) := hended.within.fromPatch rfl rfl
    refine hwithin.runs halive ⟨hended.none_, hended.order, fun u hu => ?_, fun hnone => ?_⟩
    · rw [hended.address, adopted, ownAddress, hu]
    · rw [hended.address, adopted, ownAddress, hnone]
  case timeout =>
    intro t0 e s halive hrun hissuer hwaits hdue
    have hended : EnumEnded (advance t0 s) (enumTimeout (advance t0 s)) :=
      enumTimeout_of_due (s := advance t0 s) hrun hissuer hwaits hdue ▸ abortEnum_ended _ _ _
    exact hended.within.runs halive ⟨hended.none_, hended.address, hended.order⟩
  case expires =>
    intro t0 e s halive hrun hissuer hwaits hdue
    have hended : EnumEnded (advance t0 s) (pendingAddressTimeout (advance t0 s)) :=
      pendingAddressTimeout_of_due (s := advance t0 s) hrun hissuer hwaits hdue ▸ dropEnum_ended _
    exact hended.within.runs halive ⟨hended.none_, hended.address, hended.order⟩

end Sys2Proof.Machine.Proofs
end

section
/-! SUPPORT. Two-phase commit (R82 to R84) and relayed reads that time out (R56, R80). -/
namespace Sys2Proof.Machine.Laws
open Sys2Proof.Machine

variable {s t u : State} {h : RingHdr} {p : Prepared} {x : CoordTxn}

/-! Settings -/

theorem find?_tset_same {κ α : Type} [DecidableEq κ] (m : Tab κ α) (k : κ) (v : α) :
    (tset m k v).find? (fun p => p.1 = k) = some (k, v) := by
  induction m with
  | nil => simp [tset]
  | cons e r ih =>
    obtain ⟨k', v'⟩ := e
    by_cases hk : k' = k
    · simp [tset, hk]
    · simpa [tset, hk] using ih

/-- A setting put in force is read back. -/
theorem cfgGet_cfgSet_same (k : CfgSlot) (v : Bytes) (s : State) : cfgGet (cfgSet k v s) k = v := by
  have hcfg : (cfgSet k v s).cfg = if cfgGet s k = v then s.cfg else tset s.cfg k v := rfl
  by_cases hsame : cfgGet s k = v
  · have hkept : cfgGet (cfgSet k v s) k = cfgGet s k := by rw [cfgGet, hcfg, if_pos hsame, cfgGet]
    exact hkept.trans hsame
  · rw [cfgGet, hcfg, if_neg hsame, find?_tset_same]

theorem cfgSet_within (k : CfgSlot) (v : Bytes) (s : State) : Within [.settings, .held] s (cfgSet k v s) := .of_patch rfl

/-! Replies begin no command -/

theorem reply_placed (r : Reply) (s : State) : (reply r s).bar0.placed = s.bar0.placed := by
  unfold reply
  split
  · exact (countEntry_within _ _).placed_eq rfl
  · rfl

theorem answer_placed (op : Nat) (c : Cmd) (v : Verdict) (s : State) : (answer op c v s).bar0.placed = s.bar0.placed := by
  unfold answer
  split
  · exact reply_placed _ _
  · rfl

/-! A participant (R82, R83) -/

/-- A vote for a RING_CONFIG that meets every check. -/
theorem prepareVerdict_of_ringConfig {c : Cmd} {src : BitVec 5} (hfree : s.rng.prepared = none) (hmode : s.hub.mode ≠ .boot)
    (hbist : s.hub.bistFailed = 0) (hepoch : s.hub.cfgCount ≠ 0xFFFFFFFF) (hfeature : hasFeature s 8 = true)
    (hheader : headerOk false c s = true) (hlength : lengthOk ringConfigSpec c = true)
    (hvalue : ringConfigSpec.value c.params s = true) :
    prepareVerdict 0x0102 c src s = ((eOk, []), false) := by
  have hpermits : modePermits ringConfigSpec s = true := if_neg hmode
  have hhead : headRefusal ringConfigSpec c s = none := by
    unfold headRefusal
    rw [show ringConfigSpec.isRead = false from rfl, hheader, hlength, hfeature]
    simp
  have hblock : blockFailed ringConfigSpec.opcode s = false := by
    rw [blockFailed, hbist]
    rfl
  have hpasses : refusal ringConfigSpec c s = none := by
    unfold refusal
    rw [hpermits, hlength, hblock, hvalue]
    rfl
  have hfull (u : State) : epochFull s u = false := by
    unfold epochFull
    rw [decide_eq_false hepoch, Bool.false_and]
  have hrun : runCommand ringConfigSpec c (ringAsker src) s
      = ((ringConfigSpec.apply c (ringAsker src) s).1, epochAfter s (ringConfigSpec.apply c (ringAsker src) s).2) := by
    unfold runCommand
    rw [hpasses]
    dsimp only
    rw [hfull]
    rfl
  have hspec : specOf 0x0102 = some ringConfigSpec := rfl
  unfold prepareVerdict
  rw [hfree, hspec]
  simp only [Option.isSome_none, Bool.false_eq_true, if_false, hpermits, Bool.not_true, hhead]
  rw [voteOn, hrun]
  rfl

/-- The change that a participant holds. -/
def holding (h : RingHdr) (txn : BitVec 16) (ms : Nat) (c : Cmd) (s : State) : Prepared :=
  { txn := txn, coord := h.src, local_ := false, opcode := 0x0102, cmd := c, status := BitVec.ofNat 16 eOk, result := [],
    votedAt := s.now, timeoutMs := ms }

theorem takePrepare_of_yes {src : BitVec 5} {txn : BitVec 16} {ms op : Nat} {c : Cmd}
    (hyes : prepareVerdict op c src s = ((eOk, []), false)) : takePrepare src txn ms op c s
      = sendRing src (.vote txn (BitVec.ofNat 16 eOk) []) (prepare txn src false op ms c (eOk, []) s) := by
  unfold takePrepare
  rw [hyes]
  rfl

theorem takeCommit_of_held {src : BitVec 5} {txn : BitVec 16} {at_ : Time} (hheld : s.rng.prepared = some p)
    (hremote : p.local_ = false) (htxn : p.txn = txn) (hcoord : p.coord = src) : takeCommit src txn at_ s
      = { s with rng := { s.rng with prepared := some { p with commitAt := some at_ } } } := by
  unfold takeCommit
  simp only [hheld, Option.map_some]
  rw [if_pos ⟨by simp [hremote], htxn, hcoord⟩]

theorem takeAbort_of_held {src : BitVec 5} {txn : BitVec 16} (hheld : s.rng.prepared = some p)
    (hremote : p.local_ = false) (htxn : p.txn = txn) (hcoord : p.coord = src) :
    takeAbort src txn s = { s with rng := { s.rng with prepared := none } } := by
  unfold takeAbort
  simp only [hheld, Option.filter_some, hremote, htxn, hcoord, Bool.not_false, decide_true, Bool.and_self, Bool.not_true,
    Bool.false_eq_true, if_false]

theorem oweCompletions_within (op : Nat) (c : Cmd) (v : Verdict) (unit : BitVec 5) (s : State) :
    Within [.sends] s (oweCompletions op c v unit s) := .ite (.of_patch rfl) (.refl _ s)

/-- A RING_CONFIG at its commit instant is in force. -/
theorem applyPrepared_ringConfig (hop : p.opcode = 0x0102) (hauto : s.hub.auto = none) :
    Within [.hub, .settings, .held, .sends] s (applyPrepared p s)
      ∧ cfgGet (applyPrepared p s) .ringConfig = slice p.cmd.params 0 16 := by
  have hset := cfgSet_within .ringConfig (slice p.cmd.params 0 16) s
  have hspec : specOf p.opcode = some ringConfigSpec := by
    rw [hop]
    rfl
  have hfree : ({ s with hub := { s.hub with auto := none } } : State) = s := by rw [← hauto]
  have hcause : s.hub.trans.map (fun t => if s.hub.trans.isNone then { t with cause := 11 } else t) = s.hub.trans := by
    cases s.hub.trans <;> rfl
  have hback : ({ cfgSet .ringConfig (slice p.cmd.params 0 16) s with hub := { s.hub with
      auto := s.hub.auto.orElse fun _ => s.hub.auto
      trans := s.hub.trans.map fun t => if s.hub.trans.isNone then { t with cause := 11 } else t } } : State)
      = cfgSet .ringConfig (slice p.cmd.params 0 16) s := by
    rw [hcause, hauto]
    exact congrArg (fun a => ({ cfgSet .ringConfig (slice p.cmd.params 0 16) s with
      hub := { s.hub with auto := a } } : State)) hauto.symm
  have hstep : applyPrepared p s = if p.local_ then epochAfter s (cfgSet .ringConfig (slice p.cmd.params 0 16) s)
      else oweCompletions p.opcode p.cmd (p.status.toNat, p.result) p.coord
        (epochAfter s (cfgSet .ringConfig (slice p.cmd.params 0 16) s)) := by
    unfold applyPrepared
    rw [hspec]
    dsimp only
    rw [hfree]
    exact (if_neg (show ¬ (eOk = ePending) by decide)).trans (by rw [← hback]; rfl)
  have hepoch := epochAfter_within s (cfgSet .ringConfig (slice p.cmd.params 0 16) s)
  have howed := oweCompletions_within p.opcode p.cmd (p.status.toNat, p.result) p.coord
    (epochAfter s (cfgSet .ringConfig (slice p.cmd.params 0 16) s))
  have hafter : Within [.hub, .sends] (cfgSet .ringConfig (slice p.cmd.params 0 16) s) (applyPrepared p s) := by
    rw [hstep]
    exact .ite (hepoch.mono rfl) ((hepoch.mono rfl).andThen howed rfl)
  refine ⟨(hset.mono rfl).andThen hafter rfl, ?_⟩
  rw [cfgGet, hafter.keeps .settings rfl]
  exact cfgGet_cfgSet_same _ _ s

theorem commitInstant_of_due {at_ : Time} (hheld : s.rng.prepared = some p) (hcommit : p.commitAt = some at_)
    (hdue : at_ ≤ s.now) : commitInstant s = applyPrepared p { s with rng := { s.rng with prepared := none } } := by
  unfold commitInstant
  rw [hheld]
  dsimp only
  rw [hcommit]
  exact if_pos hdue

theorem prepareExpired_of_due (hheld : s.rng.prepared = some p) (hremote : p.local_ = false) (hwaits : p.commitAt = none)
    (hdue : p.votedAt + p.timeoutMs * tpMs ≤ s.now) :
    ∃ d, prepareExpired s = raise 0x3802 0x08 d { s with rng := { s.rng with prepared := none } } := by
  unfold prepareExpired
  rw [hheld]
  exact ⟨_, if_neg (by simp [hremote, hwaits, hdue])⟩

/-! The coordinator (R84) -/

/-- What the end of a transaction may change. -/
def txnPieces : List Piece := [.rng, .sends, .bar0, .events, .out]

theorem participantReply_within (x : CoordTxn) (committed : Bool) (a : Answer) (s : State) :
    Within [.bar0, .events, .out] s (participantReply x committed a s) := .ite (.refl _ s) (reply_within _ s)

theorem participantReply_placed (x : CoordTxn) (committed : Bool) (a : Answer) (s : State) :
    (participantReply x committed a s).bar0.placed = s.bar0.placed := by
  unfold participantReply
  dsimp only
  split
  · rfl
  · exact reply_placed _ _

/-- A transaction that has its outcome is gone, with every other of its number, and its replies are written. -/
theorem finishTxn_of_outcome (x : CoordTxn) (instant : Option Time) (hall : ∀ y ∈ s.rng.coords, y.txn = x.txn) :
    Within txnPieces s (finishTxn x instant s) ∧ (finishTxn x instant s).rng.coords = []
      ∧ (finishTxn x instant s).bar0.placed = s.bar0.placed := by
  have hnone : s.rng.coords.filter (fun y => y.txn ≠ x.txn) = [] := by
    refine List.filter_eq_nil_iff.2 fun y hy => ?_
    simp [hall y hy]
  have hreplies (u : State) : Within [.bar0, .events, .out] u (each x.answers (participantReply x instant.isSome) u) :=
    .each (fun _ _ => participantReply_within _ _ _ _) _ _
  have hplaced (u : State) : (each x.answers (participantReply x instant.isSome) u).bar0.placed = u.bar0.placed :=
    each_keeps (g := fun u : State => u.bar0.placed) (fun _ _ _ => participantReply_placed _ _ _ _) u
  unfold finishTxn
  dsimp only
  rw [hnone]
  split
  · exact ⟨.of_patch rfl, rfl, rfl⟩
  · have hwritten := (hreplies { s with rng := { s.rng with coords := [] } }).trans (answer_within x.opcode x.cmd
      (summaryStatus x, summaryBytes (if instant.isSome then 1 else 2) x.txn.toNat instant
        (x.answers.map fun a => (a, finalStatus instant.isSome a))) _)
    exact ⟨hwritten.fromPatch rfl rfl, (congrArg Rng.coords (hwritten.keeps .rng rfl) :),
      (answer_placed _ _ _ _).trans (hplaced _)⟩

theorem setTxn_coords {y : CoordTxn} (hone : s.rng.coords = [x]) (htxn : y.txn = x.txn) :
    (setTxn y s).rng.coords = [y] := by
  simp [setTxn, hone, htxn]

/-- A transaction that commits tells the other units and ends. -/
theorem commitTxn_of_only (hone : s.rng.coords = [x]) : Within txnPieces s (commitTxn x s)
    ∧ (commitTxn x s).rng.coords = [] ∧ (commitTxn x s).bar0.placed = s.bar0.placed := by
  have hsent : Within [.sends, .out] s (if hasOthers s x then sendBoth 31 (.commit x.txn (s.now + x.leadUs * tpUs)) s else s) :=
    .ite (sendBoth_within _ _ _) (.refl _ s)
  have hcoords := (congrArg Rng.coords (hsent.keeps .rng rfl) :)
  have hplaced := hsent.placed_eq rfl
  unfold commitTxn
  dsimp only
  generalize (if hasOthers s x then sendBoth 31 (.commit x.txn (s.now + x.leadUs * tpUs)) s else s) = u
    at hsent hcoords hplaced ⊢
  have hall (y : CoordTxn) (hy : y ∈ u.rng.coords) : y.txn = x.txn := by
    rw [show u.rng.coords = [x] from hcoords.trans hone, List.mem_singleton] at hy
    rw [hy]
  obtain ⟨hwithin, hnone, hkept⟩ := finishTxn_of_outcome (s := { u with rng := { u.rng with prepared := u.rng.prepared.map fun p =>
    if p.local_ ∧ p.txn = x.txn then { p with commitAt := some (s.now + x.leadUs * tpUs) } else p } }) x
    (some (s.now + x.leadUs * tpUs)) hall
  exact ⟨(hsent.mono rfl).trans (hwithin.fromPatch rfl rfl), hnone, hkept.trans hplaced⟩

/-- The last vote of a transaction that no one refused commits it. -/
theorem settleTxn_of_committed (hone : s.rng.coords = [x]) {y : CoordTxn} (htxn : y.txn = x.txn)
    (haborted : y.aborted = false) (hrefused : y.answers.any (·.refused) = false)
    (hall : y.answers.all (·.status.isSome) = true) :
    let t := settleTxn false y s
    Within txnPieces s t ∧ t.rng.coords = [] ∧ t.bar0.placed = s.bar0.placed := by
  have hsame : ({ y with aborted := false } : CoordTxn) = y := by rw [← haborted]
  have hstep : settleTxn false y s = commitTxn y (setTxn y s) := by
    unfold settleTxn
    simp only [haborted, hrefused, hall, Bool.not_false, Bool.not_true, Bool.and_false, Bool.or_self, Bool.false_eq_true,
      if_false, if_true, hsame]
  obtain ⟨hwithin, hnone, hplaced⟩ := commitTxn_of_only (setTxn_coords hone htxn)
  dsimp only
  rw [hstep]
  exact ⟨hwithin.fromPatch rfl rfl, hnone, hplaced⟩

theorem abortTxn_within (x : CoordTxn) (s : State) : Within [.rng, .sends, .out] s (abortTxn x s) :=
  ((Within.ite (sendBoth_within _ _ _) (.refl _ s)).mono rfl).trans (.of_patch rfl)

theorem abortTxn_coords (x : CoordTxn) (s : State) : (abortTxn x s).rng.coords = s.rng.coords :=
  (congrArg Rng.coords ((Within.ite (sendBoth_within _ _ _) (.refl _ s) : Within [.sends, .out] s
    (if hasOthers s x then sendBoth 31 (.abort x.txn) s else s)).keeps .rng rfl) :)

/-- A transaction with a vote missing when its time is up is aborted. -/
theorem settleTxn_of_timedOut (hone : s.rng.coords = [x]) (hmissing : x.answers.all (·.status.isSome) = false) :
    let t := settleTxn true x s
    Within txnPieces s t ∧ t.rng.coords = [] ∧ t.bar0.placed = s.bar0.placed := by
  have hwithin₁ : Within [.rng, .sends, .out] s (if x.aborted then s else abortTxn x s) :=
    .ite (.refl _ s) (abortTxn_within x s)
  have hcoords₁ : (if x.aborted then s else abortTxn x s).rng.coords = [x] := by
    split
    · exact hone
    · exact (abortTxn_coords x s).trans hone
  have hplaced₁ := hwithin₁.placed_eq rfl
  have hstep : settleTxn true x s = finishTxn { x with aborted := true } none
      (setTxn { x with aborted := true } (if x.aborted then s else abortTxn x s)) := by
    unfold settleTxn
    cases x.aborted <;> simp [hmissing]
  generalize (if x.aborted then s else abortTxn x s) = u at hwithin₁ hcoords₁ hplaced₁ hstep
  have hset := setTxn_coords (y := { x with aborted := true }) hcoords₁ rfl
  obtain ⟨hwithin, hnone, hplaced⟩ := finishTxn_of_outcome (s := setTxn { x with aborted := true } u)
    { x with aborted := true } none (fun y hy => by rw [hset, List.mem_singleton] at hy; rw [hy])
  dsimp only
  rw [hstep]
  exact ⟨(hwithin₁.mono rfl).trans (hwithin.fromPatch rfl rfl), hnone, hplaced.trans hplaced₁⟩

theorem voteTimeout_of_due (hone : s.rng.coords = [x]) (hdue : x.started + x.voteUs * tpUs ≤ s.now) :
    voteTimeout s = settleTxn true x s := by
  unfold voteTimeout
  simp [hone, hdue, each]

/-- The transaction with the one vote it waits for. -/
def votedYes (src : BitVec 5) (x : CoordTxn) : CoordTxn :=
  { x with answers := [{ address := src, status := some (BitVec.ofNat 16 eOk), result := [], refused := false }] }

theorem takeVote_of_last {src : BitVec 5} {txn : BitVec 16} (hone : s.rng.coords = [x]) (htxn : x.txn = txn)
    (hanswers : x.answers = [{ address := src }]) :
    takeVote src txn (BitVec.ofNat 16 eOk) [] s = settleTxn false (votedYes src x) s := by
  unfold takeVote
  rw [hone, List.find?_cons_of_pos (by simp [htxn])]
  dsimp only
  rw [hanswers]
  simp only [List.map_cons, List.map_nil, Option.isNone_none, and_self, if_true]
  rfl

/-! Reads that time out (R56) -/

theorem relayTimeout_of_due {r : Relay} (hone : s.rng.relays = [r]) (hdue : r.sentAt + r.timeoutUs * tpUs ≤ s.now) :
    let t := relayTimeout s
    Within txnPieces s t ∧ t.rng.relays = [] ∧ t.bar0.placed = s.bar0.placed := by
  have hnone : s.rng.relays.filter (fun z => z ≠ r) = [] := by simp [hone]
  have hstep : ∃ v, relayTimeout s = answer r.opcode r.cmd v { s with rng := { s.rng with relays := [] } } := by
    unfold relayTimeout
    rw [hone, List.filter_cons_of_pos (by simp [hdue]), List.filter_nil]
    simp only [each, List.foldl_cons, List.foldl_nil, hnone]
    split
    · exact ⟨_, rfl⟩
    · exact ⟨_, rfl⟩
  obtain ⟨v, hv⟩ := hstep
  have hanswered := answer_within r.opcode r.cmd v { s with rng := { s.rng with relays := [] } }
  dsimp only
  rw [hv]
  exact ⟨hanswered.fromPatch rfl rfl, (congrArg Rng.relays (hanswered.keeps .rng rfl) :), answer_placed _ _ _ _⟩

end Sys2Proof.Machine.Laws

namespace Sys2Proof.Machine.Proofs
open Sys2Proof.Machine Sys2Proof.Machine.Laws

/-- Settles O11: each packet and timeout by the one change or transaction it finds. -/
theorem twoPhaseRows : Obligations.TwoPhaseRows := by
  unfold Obligations.TwoPhaseRows
  refine ⟨?prepare, ?commit, ?abort, ?instant, ?expired, ?vote, ?voteTimeout, ?relayTimeout⟩
  case prepare =>
    intro t0 h txn ms c s hcalm harrives hfree hmode hbist hepoch hfeature htwo hheader hlength hvalue
    obtain ⟨o, hstep⟩ := arrive_of_new (arrives_advance harrives t0) (.prepare txn ms 0x0102 c) false
      (takePrepare h.src txn ms 0x0102 c)
    rw [takePrepare_of_yes (prepareVerdict_of_ringConfig (s := heardWith o h (advance t0 s)) hfree hmode hbist hepoch hfeature
      hheader hlength hvalue)] at hstep
    have hafter := (sendRing_within h.src (.vote txn (BitVec.ofNat 16 eOk) [])
      (prepare txn h.src false 0x0102 ms c (eOk, []) (heardWith o h (advance t0 s)))).trans
      (passed_within h (.prepare txn ms 0x0102 c) _)
    rw [← hstep] at hafter
    have hwithin : Within [.rng, .sends, .out] (advance t0 s)
        (arrive h (.prepare txn ms 0x0102 c) false (takePrepare h.src txn ms 0x0102 c) (advance t0 s)) :=
      hafter.fromPatch rfl rfl
    exact hwithin.runsServe hcalm rfl rfl ⟨holding h txn ms c (advance t0 s),
      (congrArg Rng.prepared (hafter.keeps .rng rfl) :), rfl, rfl, rfl, rfl, rfl, rfl, rfl, rfl,
      by rw [cfgGet, hwithin.keeps .settings rfl]; rfl, hwithin.only rfl⟩
  case commit =>
    intro t0 h txn at_ p s hcalm harrives hheld hremote htxn hcoord
    obtain ⟨o, hstep⟩ := arrive_of_new (arrives_advance harrives t0) (.commit txn at_) false (takeCommit h.src txn at_)
    rw [takeCommit_of_held (s := heardWith o h (advance t0 s)) hheld hremote htxn hcoord] at hstep
    have hafter := passed_within h (.commit txn at_) { heardWith o h (advance t0 s) with
      rng := { (heardWith o h (advance t0 s)).rng with prepared := some { p with commitAt := some at_ } } }
    rw [← hstep] at hafter
    have hwithin : Within [.rng, .sends, .out] (advance t0 s)
        (arrive h (.commit txn at_) false (takeCommit h.src txn at_) (advance t0 s)) := hafter.fromPatch rfl rfl
    exact hwithin.runsServe hcalm rfl rfl ⟨(congrArg Rng.prepared (hafter.keeps .rng rfl) :), hwithin.only rfl⟩
  case abort =>
    intro t0 h txn p s hcalm harrives hheld hremote htxn hcoord
    obtain ⟨o, hstep⟩ := arrive_of_new (arrives_advance harrives t0) (.abort txn) false (takeAbort h.src txn)
    rw [takeAbort_of_held (s := heardWith o h (advance t0 s)) hheld hremote htxn hcoord] at hstep
    have hafter := passed_within h (.abort txn) { heardWith o h (advance t0 s) with
      rng := { (heardWith o h (advance t0 s)).rng with prepared := none } }
    rw [← hstep] at hafter
    have hwithin : Within [.rng, .sends, .out] (advance t0 s)
        (arrive h (.abort txn) false (takeAbort h.src txn) (advance t0 s)) := hafter.fromPatch rfl rfl
    exact hwithin.runsServe hcalm rfl rfl ⟨(congrArg Rng.prepared (hafter.keeps .rng rfl) :), hwithin.only rfl⟩
  case instant =>
    intro t0 p at_ s hcalm hheld hop hcommit hdue
    have hstep := commitInstant_of_due (s := advance t0 s) hheld hcommit hdue
    obtain ⟨happlied, hset⟩ := applyPrepared_ringConfig (p := p)
      (s := { advance t0 s with rng := { (advance t0 s).rng with prepared := none } }) hop hcalm.steady.noAuto
    rw [← hstep] at happlied hset
    have hwithin : Within [.rng, .hub, .settings, .held, .sends] (advance t0 s) (commitInstant (advance t0 s)) :=
      happlied.fromPatch rfl rfl
    exact hwithin.runsServe hcalm rfl rfl ⟨(congrArg Rng.prepared (happlied.keeps .rng rfl) :), hset, hwithin.only rfl⟩
  case expired =>
    intro t0 p s hcalm hheld hremote hwaits hdue
    obtain ⟨d, hstep⟩ := prepareExpired_of_due (s := advance t0 s) hheld hremote hwaits hdue
    have hraised := raise_within 0x3802 0x08 d { advance t0 s with rng := { (advance t0 s).rng with prepared := none } }
    rw [← hstep] at hraised
    have hwithin : Within (.rng :: eventPieces) (advance t0 s) (prepareExpired (advance t0 s)) := hraised.fromPatch rfl rfl
    exact hwithin.runsServe hcalm rfl rfl ⟨(congrArg Rng.prepared (hraised.keeps .rng rfl) :), hwithin.only rfl⟩
  case vote =>
    intro t0 h txn x a s hcalm harrives hdst hone htxn hanswers ha haborted
    obtain ⟨o, hstep⟩ := arrive_of_new (arrives_advance harrives t0) (.vote txn (BitVec.ofNat 16 eOk) []) false
      (takeVote h.src txn (BitVec.ofNat 16 eOk) [])
    rw [takeVote_of_last (s := heardWith o h (advance t0 s)) hone htxn hanswers, passed, if_neg hdst] at hstep
    obtain ⟨hsettled, hnone, hplaced⟩ := settleTxn_of_committed (s := heardWith o h (advance t0 s)) (y := votedYes h.src x)
      hone rfl haborted rfl rfl
    rw [← hstep] at hsettled hnone hplaced
    have hwithin : Within txnPieces (advance t0 s) (arrive h (.vote txn (BitVec.ofNat 16 eOk) []) false
        (takeVote h.src txn (BitVec.ofNat 16 eOk) []) (advance t0 s)) := hsettled.fromPatch rfl rfl
    rw [ha]
    exact hwithin.runsService hcalm rfl (hplaced.trans hcalm.steady.nonePlaced) ⟨hnone, hwithin.only rfl⟩
  case voteTimeout =>
    intro t0 x s hcalm hone hdue hmissing
    obtain ⟨a, ha, hwaits⟩ := hmissing
    obtain ⟨hwithin, hnone, hplaced⟩ := settleTxn_of_timedOut (s := advance t0 s) hone
      (List.all_eq_false.2 ⟨a, ha, by simp [hwaits]⟩)
    rw [← voteTimeout_of_due (s := advance t0 s) hone hdue] at hwithin hnone hplaced
    exact hwithin.runsService hcalm rfl (hplaced.trans hcalm.steady.nonePlaced) ⟨hnone, hwithin.only rfl⟩
  case relayTimeout =>
    intro t0 x s hcalm hone hdue
    obtain ⟨hwithin, hnone, hplaced⟩ := relayTimeout_of_due (s := advance t0 s) hone hdue
    exact hwithin.runsService hcalm rfl (hplaced.trans hcalm.steady.nonePlaced) ⟨hnone, hwithin.only rfl⟩

end Sys2Proof.Machine.Proofs
end

section
/-! SUPPORT. What other units send over the ring (R59, R79 to R87). -/
namespace Sys2Proof.Machine.Laws
open Sys2Proof.Machine

variable {s t u : State} {h : RingHdr}

/-! What a unit sends reaches a port that is UP -/

/-- A packet sent by several ports leaves by one of them that is UP. -/
theorem each_sendOn_sent {f : RingPort → RingPacket} {ports : List RingPort} (hup : ports.any (portUp s) = true) :
    ∃ p ∈ ports, Output.ring p { f p with hdr := { (f p).hdr with port := p } }
      ∈ sent s (each ports (fun p => sendOn p (f p)) s) := by
  induction ports generalizing s with
  | nil => exact absurd hup (by simp)
  | cons q r ih =>
    have hrest (u : State) : Grows u (each r (fun p => sendOn p (f p)) u) := .each (fun _ _ => sendOn_grows _ _ _) _ _
    by_cases hq : portUp s q = true
    · obtain ⟨u, hu, hout⟩ := sendOn_of_up (f q) hq
      refine ⟨q, List.mem_cons_self, mem_sent (u := u) (.of_eq hout) ?_⟩
      exact hu ▸ hrest (sendOn q (f q) s)
    · have hlater : r.any (portUp (sendOn q (f q) s)) = true := by
        rw [List.any_cons, Bool.eq_false_iff.2 hq, Bool.false_or] at hup
        rw [show portUp (sendOn q (f q) s) = portUp s from funext ((sendOn_within q (f q) s).portUp_eq rfl)]
        exact hup
      obtain ⟨p, hp, hsent⟩ := ih hlater
      exact ⟨p, List.mem_cons_of_mem _ hp, mem_sent_after (sendOn_grows q (f q) s) (hrest _) hsent⟩

theorem sendRing_sent {dst : BitVec 5} (body : RingBody) (hup : (routes s dst).any (portUp s) = true) : ∃ p k,
    Output.ring p k ∈ sent s (sendRing dst body s) ∧ k.hdr.dst = dst ∧ k.body = body := by
  have hup' : (routes s dst).any (portUp { s with rng := { s.rng with txSeq := s.rng.txSeq + 1 } }) = true := hup
  obtain ⟨p, -, hsent⟩ := each_sendOn_sent (f := fun p =>
    { newPacket s dst body with hdr := { (newPacket s dst body).hdr with west := p = .west } }) hup'
  exact ⟨p, _, hsent, rfl, rfl⟩

/-! A relayed read (R79) -/

/-- The reply to a relayed IDENTIFY. -/
def identityReply (c : Cmd) (s : State) : Reply :=
  { seq := c.seq, status := BitVec.ofNat 16 eOk, opcode := BitVec.ofNat 16 0x0001, result := identifyReply s,
    source := BitVec.ofNat 8 s.rng.address.toNat }

theorem takeCmd_identify {src : BitVec 5} {c : Cmd} (hone : twoPhase c = false) (hheader : headerOk true c s = true)
    (hlength : lengthOk identifySpec c = true) (hbist : s.hub.bistFailed = 0) :
    takeCmd src 0x0001 c s = sendRing src (.rpl (identityReply c s)) s := by
  have hpermits : modePermits identifySpec s = true := ite_self true
  have hblock : blockFailed identifySpec.opcode s = false := by
    rw [blockFailed, hbist]
    rfl
  have hpasses : refusal identifySpec c s = none := by
    unfold refusal
    rw [hpermits, hlength, hblock]
    rfl
  have hfull : epochFull s s = false := by simp [epochFull]
  have hepoch : epochAfter s s = s := if_pos (.inl rfl)
  have hrun : runCommand identifySpec c (ringAsker src) s = ((eOk, identifyReply s), s) := by
    unfold runCommand
    rw [hpasses]
    change (if epochFull s s then _ else ((eOk, identifyReply s), epochAfter s s)) = _
    rw [hfull, hepoch]
    rfl
  have hlocal : runLocal identifySpec c (ringAsker src) s = ((eOk, identifyReply s), s) := by
    unfold runLocal
    rw [hpermits, show identifySpec.isRead = true from rfl, hheader]
    exact hrun
  have hspec : specOf 0x0001 = some identifySpec := rfl
  unfold takeCmd
  rw [hspec]
  dsimp only
  rw [hone, if_neg Bool.false_ne_true, hlocal]
  rfl

/-! A reply that a relay waits for (R50, R56) -/

theorem takeReply_of_only {r : Reply} {x : Relay} (hone : s.rng.relays = [x]) (hsingle : x.broadcast = false)
    (hop : x.opcode = r.opcode.toNat) (hseq : x.cmd.seq = r.seq)
    (hanswers : x.answers = [{ address := BitVec.ofNat 5 r.source.toNat }]) (hwanted : replyWanted x.cmd = true) :
    takeReply r s = { reply r s with rng := { (reply r s).rng with relays := [] } } := by
  have hkept : (reply r s).rng.relays = [x] :=
    (congrArg Rng.relays ((reply_within r s).keeps .rng rfl) :).trans hone
  have hwaits : s.rng.relays.find? (fun y => y.opcode == r.opcode.toNat && decide (y.cmd.seq = r.seq)
      && y.answers.any fun a => decide (a.address = BitVec.ofNat 5 r.source.toNat) && a.status.isNone) = some x := by
    rw [hone, List.find?_cons_of_pos]
    simp [hop, hseq, hanswers]
  unfold takeReply
  dsimp only
  rw [hwaits]
  simp only [relayedReply, hwanted, Bool.true_or, if_true, hsingle, Bool.not_false, hkept]
  simp

/-! An event of another unit (R59) -/

theorem deliverEvent_of_open (e : Event) (hopen : EventsOpen s) : deliverEvent e s = writeEvent e s := by
  obtain ⟨hring, hroom, hdma, hnone, -⟩ := hopen
  refine if_pos ?_
  rw [hnone, canWriteEvent, hring, hdma, decide_eq_true (Nat.lt_of_lt_of_le (by decide) hroom)]
  rfl

theorem writeEvent_sent (e : Event) (s : State) : ∃ slot phase, Output.event slot phase e ∈ sent s (writeEvent e s) :=
  ⟨_, _, mem_sent (u := { s with bar0 := { s.bar0 with evt := ringPush 1 s.bar0.evt } }) (.of_eq rfl) (countEntry_grows _ _)⟩

/-! Voids for tickets not held (R85) -/

theorem held_of_nothing (htickets : s.ldg.tickets = []) (hpages : s.mem.pages = []) (id : BitVec 64) : held s id = false := by
  have hnone : scheduledPages s = [] := by
    refine List.filterMap_eq_nil_iff.2 fun a _ => ?_
    rw [findPage, hpages]
    rfl
  rw [held, findTicket, htickets, findScheduled, hnone]
  rfl

/-- What one range of a VOID packet does: tickets held are voided, the others wait. -/
def voidRange (c : VoidCause) (src : BitVec 5) (reason : BitVec 8) (g : TicketRange) (s : State) : State :=
  let r := voidTickets c ((rangeIds g).filter (held s)) s
  let s := voidEvent 8 src (r.1.map BitVec.toNat) r.2
  pendVoids ((rangeIds g).filter fun id => !held s id) src reason s

theorem voidRange_of_unheld {c : VoidCause} {src : BitVec 5} {reason : BitVec 8} {g : TicketRange}
    (hheld : ∀ id, held s id = false) : voidRange c src reason g s = pendVoids (rangeIds g) src reason s := by
  have hnone : (rangeIds g).filter (held s) = [] := List.filter_eq_nil_iff.2 fun id _ => by simp [hheld id]
  have hall : (rangeIds g).filter (fun id => !held s id) = rangeIds g := List.filter_eq_self.2 fun id _ => by simp [hheld id]
  have hquiet : voidEvent 8 src ((voidTickets c [] s).1.map BitVec.toNat) (voidTickets c [] s).2 = s := rfl
  unfold voidRange
  dsimp only
  rw [hnone, hquiet, hall]

theorem pendVoids_of_empty {ids : List (BitVec 64)} {src : BitVec 5} {reason : BitVec 8} (hids : ids ≠ [])
    (hempty : s.rng.pendingVoid = []) : pendVoids ids src reason s
      = { s with rng := { s.rng with pendingVoid := [{ ids := ids, origin := src, reason := reason }] } } := by
  unfold pendVoids
  rw [if_neg (by simpa using hids), hempty]
  rfl

/-- Voids with a count for a unit that holds nothing wait in the table. -/
theorem receiveVoid_of_nothing {src : BitVec 5} {reason : BitVec 8} {g : TicketRange} (htickets : s.ldg.tickets = [])
    (hpages : s.mem.pages = []) (hempty : s.rng.pendingVoid = []) (hcount : 0 < g.count.toNat) :
    receiveVoid src reason [g] s = { s with rng := { s.rng with
      voidRx := s.rng.voidRx + 1, pendingVoid := [{ ids := rangeIds g, origin := src, reason := reason }] } } := by
  have hids : rangeIds g ≠ [] := fun hnil => by
    have hlen := congrArg List.length hnil
    simp [rangeIds, upTo] at hlen
    omega
  have hstep : receiveVoid src reason [g] s
      = voidRange { cause_ 8 s.now with origin := src, originReason := reason.toNat } src reason g
          { s with rng := { s.rng with voidRx := s.rng.voidRx + 1 } } := rfl
  exact hstep.trans ((voidRange_of_unheld (s := { s with rng := { s.rng with voidRx := s.rng.voidRx + 1 } })
    (held_of_nothing htickets hpages)).trans
      (pendVoids_of_empty (s := { s with rng := { s.rng with voidRx := s.rng.voidRx + 1 } }) hids hempty))

/-! A snapshot instant (R87) -/

theorem takeSnap_of_room {at_ : Time} (hahead : s.now + 2 * tpUs ≤ at_) (hnone : s.mer.snaps = []) :
    takeSnap h at_ s = { s with mer := { s.mer with snaps := [{ t := at_, source := 2 }] } } := by
  have hclose : snapTooClose s at_ = false := by rw [snapTooClose, hnone]; rfl
  have hrefused : ¬ (at_ < s.now + 2 * tpUs ∨ snapTooClose s at_ = true ∨ (4 ≤ s.mer.snaps.length ∧ (!snapPendingAt s at_) = true)) := by
    rw [hclose, hnone]
    simp [Nat.not_lt.2 hahead]
  unfold takeSnap
  rw [if_neg hrefused, addSnap, hnone]
  rfl

end Sys2Proof.Machine.Laws

namespace Sys2Proof.Machine.Proofs
open Sys2Proof.Machine Sys2Proof.Machine.Laws

/-- Settles O10: each packet is acknowledged, does its one effect on what it finds, and is passed on. -/
theorem ringRequestRows : Obligations.RingRequestRows := by
  unfold Obligations.RingRequestRows
  refine ⟨?cmd, ?rpl, ?evt, ?void, ?snap⟩
  case cmd =>
    intro t0 h c s hcalm harrives hone hheader hlength hbist hdst hup
    obtain ⟨o, hstep⟩ := arrive_of_new (arrives_advance harrives t0) (.cmd 0x0001 c) false (takeCmd h.src 0x0001 c)
    rw [takeCmd_identify (s := heardWith o h (advance t0 s)) hone hheader hlength hbist] at hstep
    have hafter := (sendRing_within h.src (.rpl (identityReply c (heardWith o h (advance t0 s))))
      (heardWith o h (advance t0 s))).trans (passed_within h (.cmd 0x0001 c) _)
    obtain ⟨p, k, hsent, hkdst, hbody⟩ := sendRing_sent (s := heardWith o h (advance t0 s))
      (.rpl (identityReply c (heardWith o h (advance t0 s)))) hup
    have hout := mem_sent_after (s := s) ⟨[o], rfl⟩ ((sendRing_grows _ _ _).trans (passed_grows h (.cmd 0x0001 c) _))
      (sent_grows (sendRing_grows _ _ _) (passed_grows h (.cmd 0x0001 c) _) hsent)
    rw [← hstep] at hafter hout
    have hwithin : Within [.rng, .sends, .out] (advance t0 s)
        (arrive h (.cmd 0x0001 c) false (takeCmd h.src 0x0001 c) (advance t0 s)) := hafter.fromPatch rfl rfl
    exact hwithin.runsServe hcalm rfl rfl ⟨p, k, _, hout, hkdst, hbody, rfl, rfl, rfl, rfl, hwithin.only rfl⟩
  case rpl =>
    intro t0 h r x s hcalm harrives hdst hone hsingle hop hseq hanswers hheld hroom hwanted
    obtain ⟨o, hstep⟩ := arrive_of_new (arrives_advance harrives t0) (.rpl r) false (takeReply r)
    rw [takeReply_of_only (s := heardWith o h (advance t0 s)) hone hsingle hop hseq hanswers hwanted, passed, if_neg hdst] at hstep
    have hreply := reply_within r (heardWith o h (advance t0 s))
    have hwithin : Within [.rng, .bar0, .events, .out] (advance t0 s) (arrive h (.rpl r) false (takeReply r) (advance t0 s)) := by
      rw [hstep]
      exact (Within.fromPatch hreply rfl rfl).trans (.of_patch rfl)
    refine hwithin.runsService hcalm rfl ?_ ⟨?_, ?_, hwithin.only rfl⟩
    · rw [hstep]
      exact (reply_placed _ _).trans hcalm.steady.nonePlaced
    · rw [hstep]
    · rw [hstep]
      exact reply_lastReply (s := heardWith o h (advance t0 s)) hheld hroom
  case evt =>
    intro t0 h e s halive harrives hopen
    obtain ⟨o, hstep⟩ := arrive_of_new (arrives_advance harrives t0) (.evt [e]) false (takeEvents h [e])
    have hdeliver : takeEvents h [e] (heardWith o h (advance t0 s))
        = writeEvent { e with remote := true, unit := h.src } (heardWith o h (advance t0 s)) :=
      deliverEvent_of_open _ ⟨hopen.ring, hopen.room, hopen.dma, hopen.noneWaits, hopen.noneLost⟩
    rw [hdeliver] at hstep
    have hwritten := writeEvent_within { e with remote := true, unit := h.src } (heardWith o h (advance t0 s))
    obtain ⟨slot, phase, hsent⟩ := writeEvent_sent { e with remote := true, unit := h.src } (heardWith o h (advance t0 s))
    have hout := mem_sent_after (s := s) ⟨[o], rfl⟩ ((writeEvent_grows _ _).trans (passed_grows h (.evt [e]) _))
      (sent_grows (writeEvent_grows _ _) (passed_grows h (.evt [e]) _) hsent)
    rw [← hstep] at hout
    have hwithin : Within [.rng, .sends, .events, .out] (advance t0 s)
        (arrive h (.evt [e]) false (takeEvents h [e]) (advance t0 s)) := by
      rw [hstep]
      exact (Within.fromPatch hwritten rfl rfl).andThen (passed_within _ _ _) rfl
    exact hwithin.runs halive ⟨⟨slot, phase, hout⟩, hwithin.only rfl⟩
  case void =>
    intro t0 h reason g s halive harrives htickets hpages hempty hcount hlimit
    obtain ⟨o, hstep⟩ := arrive_of_new (arrives_advance harrives t0) (.void reason [g]) false (receiveVoid h.src reason [g])
    rw [receiveVoid_of_nothing (s := heardWith o h (advance t0 s)) htickets hpages hempty hcount] at hstep
    have hpassed := passed_within h (.void reason [g]) { heardWith o h (advance t0 s) with
      rng := { (heardWith o h (advance t0 s)).rng with
        voidRx := (heardWith o h (advance t0 s)).rng.voidRx + 1
        pendingVoid := [{ ids := rangeIds g, origin := h.src, reason := reason }] } }
    rw [← hstep] at hpassed
    have hwithin : Within [.rng, .sends, .out] (advance t0 s)
        (arrive h (.void reason [g]) false (receiveVoid h.src reason [g]) (advance t0 s)) := hpassed.fromPatch rfl rfl
    have hrng := hpassed.keeps .rng rfl
    refine hwithin.runs halive ⟨(congrArg Rng.voidRx hrng :), ?_, (congrArg Ldg.tickets (hwithin.keeps .ldg rfl) :).trans htickets⟩
    rw [(congrArg Rng.pendingVoid hrng :)]
    exact List.cons_ne_nil _ _
  case snap =>
    intro t0 h at_ s halive harrives hahead hnone
    obtain ⟨o, hstep⟩ := arrive_of_new (arrives_advance harrives t0) (.snap at_) false (takeSnap h at_)
    rw [takeSnap_of_room (s := heardWith o h (advance t0 s)) hahead hnone] at hstep
    have hpassed := passed_within h (.snap at_) { heardWith o h (advance t0 s) with
      mer := { (heardWith o h (advance t0 s)).mer with snaps := [{ t := at_, source := 2 }] } }
    rw [← hstep] at hpassed
    have hwithin : Within [.mer, .rng, .sends, .out] (advance t0 s)
        (arrive h (.snap at_) false (takeSnap h at_) (advance t0 s)) := hpassed.fromPatch rfl rfl
    exact hwithin.runs halive ⟨(congrArg Mer.snaps (hpassed.keeps .mer rfl) :), hwithin.only rfl⟩

end Sys2Proof.Machine.Proofs
end

section
/-! SUPPORT. The web encoders and the Regulator (R107 to R123): what each operation leaves of what the encoders count. -/
namespace Sys2Proof.Machine.Laws
open Sys2Proof.Machine

variable {s t u : State} {x : Nat} {β γ : Type} {g : Encoder → β}

/-! What an operation keeps of both encoders -/

/-- What `g` reads of each encoder is as it was. -/
def EncKept (g : Encoder → β) (s t : State) : Prop := ∀ x, g (encOf t x) = g (encOf s x)

/-- What the encoders and their faults may change. -/
def sourcePieces : List Piece := .enc :: .causes :: .standing :: .free :: runPieces

/-- An operation of the encoders that keeps what `g` reads of each. -/
structure Web (g : Encoder → β) (s t : State) : Prop where
  within : Within sourcePieces s t
  kept : EncKept g s t

theorem Web.refl (g : Encoder → β) (s : State) : Web g s s := ⟨.refl _ s, fun _ => rfl⟩

theorem Web.trans (hst : Web g s t) (htu : Web g t u) : Web g s u :=
  ⟨hst.within.trans htu.within, fun x => (htu.kept x).trans (hst.kept x)⟩

theorem Web.ite {c : Prop} [Decidable c] (ht : Web g s t) (hu : Web g s u) : Web g s (if c then t else u) := by
  split
  · exact ht
  · exact hu

/-- What is kept of more is kept of less. -/
theorem Web.map {f : Encoder → γ} (h : Web g s t) (hf : ∀ {a b}, g a = g b → f a = f b) : Web f s t :=
  ⟨h.within, fun x => hf (h.kept x)⟩

theorem Within.web {l : List Piece} (h : Within l s t) (henc : l.contains .enc = false) (hl : incl l sourcePieces = true) :
    Web g s t :=
  ⟨h.mono hl, fun x => congrArg g (encOf_congr (h.keeps .enc henc) x)⟩

@[simp] theorem encOf_setEnc_same (x : Nat) (v : Encoder) (s : State) : encOf (setEnc x v s) x = v := by
  by_cases hx : x = 0 <;> simp [encOf, setEnc, hx]

theorem encOf_setEnc_other {y : Nat} (v : Encoder) (s : State) (h : decide (y = 0) ≠ decide (x = 0)) :
    encOf (setEnc x v s) y = encOf s y := by
  by_cases hx : x = 0 <;> by_cases hy : y = 0 <;> simp_all [encOf, setEnc]

/-- An encoder written with what `g` reads of it as it was. -/
theorem web_setEnc {v : Encoder} (h : g v = g (encOf s x)) : Web g s (setEnc x v s) := by
  refine ⟨(setEnc_within x v s).mono rfl, fun y => ?_⟩
  by_cases hxy : decide (y = 0) = decide (x = 0)
  · have hsame (w : State) : encOf w y = encOf w x := by
      rw [encOf, encOf]
      simp only [decide_eq_decide] at hxy
      simp only [hxy]
    rw [hsame, hsame s, encOf_setEnc_same, h]
  · rw [encOf_setEnc_other v s hxy]

/-- The block's own registers written, and neither encoder. -/
theorem web_block (h : Within [.enc] s t) (h0 : t.enc.e0 = s.enc.e0) (h1 : t.enc.e1 = s.enc.e1) : Web g s t :=
  ⟨h.mono rfl, fun x => by rw [encOf, encOf, h0, h1]⟩

/-! The Regulator (R117 to R121) -/

/-- An encoder but for its Regulator's state. -/
def besideReg (e : Encoder) : Encoder := { e with reg := 0, inLock := 0, outLock := 0, frozen := false }

/-- What an encoder has sensed: all but its causes and what the Regulator predicts. -/
def sensed (e : Encoder) : Encoder :=
  { besideReg e with
    causes := [], pos := 0, vel := 0, acc := 0, time := 0, residual := 0, stepLeft := 0, silentRef := 0 }

theorem Web.sensed (h : Web besideReg s t) : Web Laws.sensed s t := h.map (congrArg Laws.sensed)

theorem sourceRecheck_web (s : State) : Web g s (sourceRecheck s) :=
  .ite ((web_block (.of_patch (by rfl)) (by rfl) (by rfl) : Web g s { s with enc := { s.enc with noSource := false } }).trans
    ((clearSafe_within _ _ _).web rfl rfl)) (.refl g s)

theorem regEnter_web (x new : Nat) (s : State) : Web besideReg s (regEnter x new s) :=
  .ite (.refl _ s) (((web_setEnc (by rfl)).trans ((raise_within _ _ _ _).web rfl rfl)).trans (sourceRecheck_web _))

theorem switchTo_web (x cause : Nat) (line : Int) (s : State) : Web g s (switchTo x cause line s) :=
  (web_block (.of_patch (by rfl)) (by rfl) (by rfl)).trans ((raise_within _ _ _ _).web rfl rfl)

theorem encoderSwitchover_web (n : Int) (s : State) : Web besideReg s (encoderSwitchover n s) := by
  unfold encoderSwitchover
  split
  · exact .refl _ s
  · exact .trans ((switchTo_web _ _ _ _).trans (regEnter_web _ _ _)) (.ite (.refl _ _) (regEnter_web _ _ _))

theorem encoderSource_web (x : Nat) (s : State) : Web g s (encoderSource x s) := by
  have hspare (u : State) : Within [.cal] u { u with cal := { u.cal with spareHome := none } } :=
    Within.ofIdle (.of_patch rfl) fun hruns _ => ⟨hruns, rfl⟩
  exact ((abortRuns_within 8 (fun r => (r.type == 1 || r.type == 10) && (r.target == x || r.spare)) s).andThen (hspare _)
    rfl).web rfl rfl

/-! Fault causes (R119 to R121) -/

/-- What follows a cause that an encoder gains. -/
def afterCause (x c : Nat) (s : State) : State :=
  let s := if unusableCause c then raise 0x3301 0x03 (leBytes 1 x ++ leBytes 1 (8 + c) ++ zeros 2 ++ timeBytes s.now) s else s
  let s := if unusableCause c then encoderSource x s else s
  if x ≠ activeEnc s then (if unusableCause c then regEnter x 0 s else s)
  else if s.enc.switch.isSome then s
  else if bit (u8 (regCfg s) 10) 0 && otherFit s then
    let s := setEnc x { encOf s x with frozen := true } { s with enc := { s.enc with switch := some (c, s.now) } }
    if printingMode s.hub.mode then s else encoderSwitchover (nextLine s) s
  else if unusableCause c then
    let s := regEnter x 0 s
    let s := raise 0x3302 0x03 (leBytes 1 x ++ leBytes 1 (8 + c) ++ leBytes 1 (modeCode s.hub.mode)) s
    let s := { s with enc := { s.enc with noSource := true } }
    if printingMode s.hub.mode then internalFault 0x03 s else s
  else s

theorem afterCause_web (x c : Nat) (s : State) : Web besideReg s (afterCause x c s) := by
  have hfreeze (u : State) : Web besideReg u
      (setEnc x { encOf u x with frozen := true } { u with enc := { u.enc with switch := some (c, u.now) } }) :=
    (web_block (t := { u with enc := { u.enc with switch := some (c, u.now) } }) (.of_patch rfl) rfl rfl).trans (web_setEnc (by rfl))
  have hlost (u : State) : Web besideReg u { u with enc := { u.enc with noSource := true } } :=
    web_block (.of_patch (by rfl)) (by rfl) (by rfl)
  unfold afterCause
  extract_lets s₁ s₂
  have h₁ : Web besideReg s s₁ := .ite ((raise_within _ _ _ _).web rfl rfl) (.refl _ s)
  have h₂ : Web besideReg s s₂ := h₁.trans (.ite (encoderSource_web _ _) (.refl _ _))
  clear_value s₂
  refine h₂.trans (.ite (.ite (regEnter_web _ _ _) (.refl _ _)) (.ite (.refl _ _) (.ite ?_ (.ite ?_ (.refl _ _)))))
  · exact .trans (hfreeze _) (.ite (.refl _ _) (encoderSwitchover_web _ _))
  · exact .trans (((regEnter_web _ _ _).trans ((raise_within _ _ _ _).web rfl rfl)).trans (hlost _))
      (.ite ((internalFault_within _ _).web rfl rfl) (.refl _ _))

theorem gainCause_of_new {c : Nat} (h : (encOf s x).causes.any (fun k => k.1 = c) = false) : gainCause x c s
    = afterCause x c (setEnc x { encOf s x with causes := (encOf s x).causes ++ [(c, s.now)] } s) :=
  if_neg (by rw [h]; exact Bool.false_ne_true)

/-- A cause that an encoder gains is kept with its instant, whatever follows from it. -/
theorem gainCause_causes {c : Nat} (h : (encOf s x).causes.any (fun k => k.1 = c) = false) :
    (encOf (gainCause x c s) x).causes = (encOf s x).causes ++ [(c, s.now)] := by
  have hkept := (afterCause_web x c (setEnc x { encOf s x with causes := (encOf s x).causes ++ [(c, s.now)] } s)).kept x
  rw [encOf_setEnc_same] at hkept
  rw [gainCause_of_new h]
  exact (congrArg Encoder.causes hkept :)

theorem gainCause_web (x c : Nat) (s : State) : Web sensed s (gainCause x c s) := by
  cases hnew : (encOf s x).causes.any (fun k => k.1 = c) with
  | true =>
    have hstep : gainCause x c s = setEnc x { encOf s x with
        causes := (encOf s x).causes.map fun k => if k.1 = c then (c, s.now) else k } s := if_pos hnew
    rw [hstep]
    exact web_setEnc (by rfl)
  | false =>
    rw [gainCause_of_new hnew]
    exact (web_setEnc (by rfl)).trans (afterCause_web x c _).sensed

theorem quadError_counted (x : Nat) (s : State) : Within sourcePieces s (quadError x s)
    ∧ (encOf (quadError x s) x).quadErr = satInc 16 (encOf s x).quadErr
    ∧ ∀ y, (encOf (quadError x s) y).count = (encOf s y).count := by
  have hset : Web Encoder.count s (setEnc x { encOf s x with
      quadErr := satInc 16 (encOf s x).quadErr
      quadTimes := (s.now :: (encOf s x).quadTimes).filter fun u => s.now < u + tpMs } s) := web_setEnc (by rfl)
  have hgain : Web sensed (setEnc x { encOf s x with
      quadErr := satInc 16 (encOf s x).quadErr
      quadTimes := (s.now :: (encOf s x).quadTimes).filter fun u => s.now < u + tpMs } s) (quadError x s) :=
    .ite (gainCause_web _ _ _) (.refl _ _)
  refine ⟨hset.within.trans hgain.within, ?_, fun y => ?_⟩
  · refine (congrArg Encoder.quadErr (hgain.kept x) :).trans ?_
    rw [encOf_setEnc_same]
    rfl
  · exact (congrArg Encoder.count (hgain.kept y) :).trans (hset.kept y)

theorem silentFrom_web (x : Nat) (s : State) : Web Encoder.causes s (silentFrom x s) := web_setEnc (by rfl)

/-- A cause that an encoder loses, before what follows from it. -/
theorem loseCause_causes (x c : Nat) (s : State) :
    Within sourcePieces s (loseCause x c s)
      ∧ (encOf (loseCause x c s) x).causes = (encOf s x).causes.filter fun k => k.1 ≠ c := by
  have hset := (setEnc_within x { encOf s x with causes := (encOf s x).causes.filter fun k => k.1 ≠ c } s).mono
    (l' := sourcePieces) rfl
  have hentered (u : State) : Web Encoder.causes u
      (regEnter x 1 (setEnc x { encOf u x with pos := measured u x, time := u.now, vel := 0, acc := 0 } u)) :=
    (web_setEnc (by rfl)).trans ((regEnter_web _ _ _).map fun h => (congrArg Encoder.causes h :))
  have hafter : Web Encoder.causes (setEnc x { encOf s x with causes := (encOf s x).causes.filter fun k => k.1 ≠ c } s)
      (loseCause x c s) := by
    unfold loseCause
    exact ((Web.ite (silentFrom_web _ _) (.refl _ _)).trans (.ite (hentered _) (.refl _ _))).trans (sourceRecheck_web _)
  refine ⟨hset.trans hafter.within, (hafter.kept x).trans ?_⟩
  rw [encOf_setEnc_same]

theorem encoderCauseClear_of_held {c : Nat} {at_ : Time} (hc : c < 3) (honly : (encOf s x).causes = [(c, at_)])
    (hdue : at_ + clearHold c ≤ s.now) : encoderCauseClear x c s = loseCause x c s := by
  unfold encoderCauseClear
  dsimp only
  rw [honly, List.find?_cons_of_pos (by simp)]
  exact if_pos ⟨by omega, hdue, .inl (by omega)⟩

/-! Standstill (R112) -/

/-- An encoder that is declared at standstill. -/
def stilled (s : State) (x : Nat) : Encoder :=
  let e := encOf s x
  let hold := e.reg = 1 ∨ e.reg = 2
  { e with
    standstill := true, declaredHere := true, starting := none
    pos := if hold then predict e (standstillAt s x) else e.pos
    time := if hold then standstillAt s x else e.time
    vel := if hold then 0 else e.vel, acc := if hold then 0 else e.acc }

theorem declareStandstill_eq (x : Nat) (s : State) : declareStandstill x s
    = if (encOf s x).reg = 1 ∨ (encOf s x).reg = 2 then regEnter x 3 (setEnc x (stilled s x) s)
      else setEnc x (stilled s x) s := rfl

theorem declareStandstill_web (x : Nat) (s : State) : Web Encoder.count s (declareStandstill x s) := by
  have hset : Web Encoder.count s (setEnc x (stilled s x) s) := web_setEnc (by rfl)
  rw [declareStandstill_eq]
  exact .ite (hset.trans ((regEnter_web _ _ _).map fun h => (congrArg Encoder.count h :))) hset

theorem settleStandstill_web (x : Nat) (atToo : Bool) (s : State) : Web Encoder.count s (settleStandstill x atToo s) :=
  .ite (declareStandstill_web _ _) (.refl _ s)

theorem regEnter_reg {new : Nat} (x : Nat) (s : State) : (encOf (regEnter x new s) x).reg = new := by
  unfold regEnter
  dsimp only
  split
  next h => exact h
  · have hafter := ((raise_within 0x1302 0x03 (leBytes 1 x ++ leBytes 1 (encOf s x).reg ++ leBytes 1 new)
      (setEnc x { encOf s x with reg := new, inLock := 0, outLock := 0, frozen := false } s)).web (g := Encoder.reg) rfl rfl).trans
      (sourceRecheck_web _)
    rw [hafter.kept x, encOf_setEnc_same]

/-- A standstill that is due: the Regulator of the encoder holds (R112, R118). -/
theorem settleStandstill_of_due (henabled : encEnabled s x = true) (hmoves : (encOf s x).standstill = false)
    (hdue : standstillAt s x ≤ s.now) :
    let t := settleStandstill x true s
    (encOf t x).standstill = true
      ∧ ((encOf s x).reg = 2 → (encOf t x).reg = 3 ∧ (encOf t x).vel = 0) := by
  have hstep : settleStandstill x true s = declareStandstill x s := by
    refine if_pos ?_
    rw [henabled, hmoves]
    simp only [Bool.not_false, Bool.and_self, Bool.true_and, Bool.or_eq_true, decide_eq_true_eq]
    exact Nat.lt_or_eq_of_le hdue
  dsimp only
  rw [hstep, declareStandstill_eq]
  have hbeside := (regEnter_web x 3 (setEnc x (stilled s x) s)).kept x
  rw [encOf_setEnc_same] at hbeside
  split
  next hhold =>
    refine ⟨(congrArg Encoder.standstill hbeside :), fun _ => ⟨regEnter_reg x _, (congrArg Encoder.vel hbeside :).trans ?_⟩⟩
    exact if_pos hhold
  next hfree =>
    rw [encOf_setEnc_same]
    exact ⟨rfl, fun h => absurd (.inr h) hfree⟩

/-! Counting (R107, R108, R110, R116) -/

theorem regCount_web (x : Nat) (s : State) : Web sensed s (regCount x s) := by
  have hdrawn (u : State) : Within [.free] u (drawInt 5 (drawInt 4 (drawInt 3 (drawInt 2 u).2).2).2).2 := .of_patch rfl
  unfold regCount
  refine .ite (.refl _ s) ?_
  extract_lets s₁ e p m r v tested a b c d left e' th inside outside e'' s₂
  have h₁ : Web sensed s s₁ := .ite (regEnter_web _ _ _).sensed (.refl _ s)
  have hsame : sensed e'' = sensed (encOf s₁ x) := by
    dsimp only [e'', e']
    split <;> rfl
  have hfree : Within [.free] s₁ (if r = 0 then s₁ else d.2) := .ite (.refl _ s₁) (hdrawn s₁)
  have h₂ : Web sensed s₁ s₂ :=
    (hfree.web rfl rfl).trans (web_setEnc (hsame.trans (congrArg sensed (encOf_congr (hfree.keeps .enc rfl) x)).symm))
  clear_value s₂ e''
  exact (h₁.trans h₂).trans (.ite (regEnter_web _ _ _).sensed (.ite (regEnter_web _ _ _).sensed (.refl _ _)))

theorem silentCheck_web (x y : Nat) (s : State) : Web sensed s (silentCheck x y s) :=
  .ite (gainCause_web _ _ _) (.refl _ s)

theorem pulseStart_web (at_ : Time) (s : State) : Web g s (pulseStart at_ s) := web_block (.of_patch (by rfl)) (by rfl) (by rfl)

theorem pulseEmit_web (s : State) : Web g s (pulseEmit s) := by
  have hstart (u : State) (hu : Web g s u) (at_ : Time) : Web g s (pulseStart at_ u) := hu.trans (pulseStart_web _ _)
  unfold pulseEmit
  dsimp only
  split
  · refine .ite (.ite (web_block (.of_patch (by rfl)) (by rfl) (by rfl)) ?_) (hstart _ (web_block (.of_patch (by rfl)) (by rfl) (by rfl)) _)
    exact .trans (web_block (.of_patch (by rfl)) (by rfl) (by rfl) : Web g s { s with enc := { s.enc with
      pulseOverrun := satInc 32 s.enc.pulseOverrun } }) ((raise_within _ _ _ _).web rfl rfl)
  · exact hstart _ (web_block (.of_patch (by rfl)) (by rfl) (by rfl)) _

theorem pulseCountIn_web (reverse : Bool) (s : State) : Web g s (pulseCountIn reverse s) := by
  have hblock {u : State} (hw : Within [.enc] s u) (h0 : u.enc.e0 = s.enc.e0) (h1 : u.enc.e1 = s.enc.e1) : Web g s u :=
    web_block hw h0 h1
  unfold pulseCountIn
  dsimp only
  split
  · split
    · refine .ite ((hblock (.of_patch (by rfl)) (by rfl) (by rfl)).trans (pulseStart_web _ _)) (.ite (hblock (.of_patch (by rfl)) (by rfl) (by rfl)) ?_)
      exact (hblock (.of_patch (by rfl)) (by rfl) (by rfl)).trans (pulseEmit_web _)
    · exact hblock (.of_patch (by rfl)) (by rfl) (by rfl)
  · split
    · exact .ite ((hblock (.of_patch (by rfl)) (by rfl) (by rfl)).trans (pulseStart_web _ _)) (hblock (.of_patch (by rfl)) (by rfl) (by rfl))
    · exact hblock (.of_patch (by rfl)) (by rfl) (by rfl)

theorem pulseTake_web (x : Nat) (reverse : Bool) (before : Int) (s : State) : Web g s (pulseTake x reverse before s) :=
  .ite (.trans (.ite (web_block (.of_patch (by rfl)) (by rfl) (by rfl)) (.refl _ s)) (pulseCountIn_web _ _)) (.refl _ s)

/-- An encoder that has counted: with the count and direction it has now. -/
structure Counted (x : Nat) (rev : Bool) (s t : State) : Prop where
  within : Within sourcePieces s t
  count : (encOf t x).count = (encOf s x).count + (if rev then -1 else 1)
  reverse : (encOf t x).reverse = rev
  standstill : (encOf t x).standstill = false
  lastEdge : (encOf t x).lastEdge = s.now
  other : (encOf t (1 - x)).count = (encOf s (1 - x)).count

theorem countEncoder_counted (hx : x < 2) (pin : Bool) (s : State) :
    Counted x (pin != bit (u8 (encCfg s x) 1) 1) s (countEncoder x pin s) := by
  have hsettled := settleStandstill_web x true s
  have hcfg : encCfg (settleStandstill x true s) x = encCfg s x := by
    rw [encCfg, cfgGet, hsettled.within.keeps .settings rfl]
    rfl
  have hnow := hsettled.within.now
  have hcount := hsettled.kept
  unfold countEncoder
  extract_lets s₀ e rev d w recent turned e' s₁ s₂ missing s₃ s₄ s₅
  have hrev : rev = (pin != bit (u8 (encCfg s x) 1) 1) := by
    dsimp only [rev, s₀]
    rw [hcfg]
  have hset : Within sourcePieces s₀ s₁ := (setEnc_within _ _ _).mono rfl
  have hafter : Web sensed s₁ (pulseTake x rev e.count s₅) := by
    refine Web.trans ?_ (pulseTake_web _ _ _ _)
    refine Web.trans ?_ (silentCheck_web _ _ _)
    refine Web.trans ?_ (regCount_web _ _)
    refine Web.trans (.ite (gainCause_web _ _ _) (.refl _ _)) (.ite ?_ (.refl _ _))
    exact ((raise_within _ _ _ _).web rfl rfl).trans (gainCause_web _ _ _)
  have hown := hafter.kept x
  rw [encOf_setEnc_same] at hown
  rw [← hrev]
  have hother : decide (1 - x = 0) ≠ decide (x = 0) := by
    rcases (by omega : x = 0 ∨ x = 1) with rfl | rfl <;> decide
  refine ⟨(hsettled.within.trans hset).trans hafter.within, ?_, (congrArg Encoder.reverse hown :),
    (congrArg Encoder.standstill hown :), (congrArg Encoder.lastEdge hown :).trans hnow, ?_⟩
  · refine (congrArg Encoder.count hown :).trans ?_
    exact congrArg (· + d) (hcount x)
  · refine (congrArg Encoder.count (hafter.kept (1 - x)) :).trans ?_
    refine (congrArg Encoder.count (encOf_setEnc_other e' s₀ hother) :).trans (hcount (1 - x))

theorem calCount_of_noRuns (hruns : s.cal.runs = []) : calCount x s = s := by
  unfold calCount
  rw [hruns]
  rfl

end Sys2Proof.Machine.Laws
end

section
/-! SUPPORT. What the Escapement does at a count or a slot (R166 to R175), and how the Regulator's state is followed. -/
namespace Sys2Proof.Machine.Laws
open Sys2Proof.Machine

variable {s t u : State}

/-- What the Escapement may change that judges slots and follows the Regulator. -/
def followPieces : List Piece := .grt :: .mem :: stopPieces

/-- An operation of the Escapement that leaves the high-water mark. -/
structure SameMark (s t : State) : Prop where
  within : Within followPieces s t
  mark : t.esc.hwm = s.esc.hwm

theorem SameMark.refl (s : State) : SameMark s s := ⟨.refl _ s, rfl⟩

theorem SameMark.trans (hst : SameMark s t) (htu : SameMark t u) : SameMark s u :=
  ⟨hst.within.trans htu.within, htu.mark.trans hst.mark⟩

theorem SameMark.ite {c : Prop} [Decidable c] (ht : SameMark s t) (hu : SameMark s u) :
    SameMark s (if c then t else u) := by
  split
  · exact ht
  · exact hu

theorem Within.sameMark {l : List Piece} (h : Within l s t) (hesc : l.contains .esc = false)
    (hl : incl l followPieces = true) : SameMark s t := ⟨h.mono hl, (congrArg Esc.hwm (h.keeps .esc hesc) :)⟩

/-! Stops of firing (R174) -/

theorem sendRevoke_sameMark (sr : Int) (detected : Time) (discard : Bool) (s : State) :
    SameMark s (sendRevoke sr detected discard s) :=
  ⟨(sendRevoke_within _ _ _ _).mono rfl, (congrArg Esc.hwm ((sendAll_within _ _).keeps .esc rfl) :).trans rfl⟩

theorem discardFrom_sameMark (from_ : Int) (detected : Time) (s : State) : SameMark s (discardFrom from_ detected s) :=
  .ite (.refl s) ((sendRevoke_sameMark _ _ _ _).trans
    ((Within.each (l := [.modules]) (fun _ _ => setModule_keeps (by rfl)) _ _).sameMark rfl rfl))

theorem stopBy_sameMark (c : VoidCause) (s : State) : SameMark s (stopBy c s) := by
  refine .ite (.refl s) ?_
  extract_lets stop esc₁ s₁ s₂ esc₃ s₃
  have h₁ : SameMark s s₁ := ⟨.of_patch rfl, rfl⟩
  have h₂ : SameMark s s₂ := h₁.trans (discardFrom_sameMark _ _ _)
  have h₃ : SameMark s s₃ := h₂.trans ⟨.of_patch rfl, rfl⟩
  exact h₃.trans (((flushAll_within _ _).seq (voidPrinting_within _ _) (m := slotPieces) rfl).sameMark rfl rfl)

/-- A stop of firing with the drain that it schedules. -/
theorem stopAndDrain_sameMark (reason cause : Nat) (due : Due) (s : State) :
    SameMark s (scheduleDrain cause due (stopFiring s.now reason s)) :=
  (stopBy_sameMark _ s).trans ((scheduleDrain_within _ _ _).sameMark rfl rfl)

theorem trip_sameMark (kind m : Nat) (s : State) : SameMark s (trip kind m s) := by
  refine .ite (.refl s) ?_
  extract_lets esc₁ s₁ s₂
  have h₁ : SameMark s s₁ := ⟨.of_patch rfl, rfl⟩
  exact .ite ((h₁.trans (stopAndDrain_sameMark _ _ _ _)).trans ((raise_within _ _ _ _).sameMark rfl rfl)) h₁

theorem overspeedCount_sameMark (s : State) : SameMark s (overspeedCount s) := by
  refine .ite (.refl s) ?_
  extract_lets esc₁ s₁
  have h₁ : SameMark s s₁ := ⟨.of_patch rfl, rfl⟩
  have hwarned : SameMark s₁ { s₁ with esc := { s₁.esc with overspeed := 1 } } := ⟨.of_patch rfl, rfl⟩
  clear_value s₁
  exact .ite h₁ (.ite (h₁.trans (trip_sameMark _ _ _))
    (.ite ((h₁.trans hwarned).trans ((raise_within _ _ _ _).sameMark rfl rfl)) h₁))

theorem reverseStop_sameMark (s : State) : SameMark s (reverseStop s) :=
  .ite (.refl s) ((stopAndDrain_sameMark _ _ _ _).trans ((raise_within _ _ _ _).sameMark rfl rfl))

/-! Tests of fixed slots (R168 to R171) -/

theorem spoilLines_sameMark (flag : Nat) (l : List (Int × Int × Int)) (s : State) : SameMark s (spoilLines flag l s) := by
  unfold spoilLines
  extract_lets ids s₁ mem₂ s₂
  have h₁ : SameMark s s₁ := .ite (.refl s) ((flagTickets_within _ _ _).sameMark rfl rfl)
  have h₂ : SameMark s s₂ := h₁.trans ⟨.of_patch rfl, rfl⟩
  exact h₂.trans ((voidHere_within _ _ _).sameMark rfl rfl)

theorem missedEvent_sameMark (n : Int) (cause k : Nat) (s : State) : SameMark s (missedEvent n cause k s) := by
  unfold missedEvent
  extract_lets r esc₁ s₁
  have h₁ : SameMark s s₁ := ⟨.of_patch rfl, rfl⟩
  clear_value s₁
  split
  · exact h₁.trans ((raise_within _ _ _ _).sameMark rfl rfl)
  · exact h₁

theorem revokeReport_sameMark (sr : Int) (what k : Nat) (s : State) : SameMark s (revokeReport sr what k s) := by
  unfold revokeReport
  extract_lets r esc₁ s₁
  have h₁ : SameMark s s₁ := ⟨.of_patch rfl, rfl⟩
  clear_value s₁
  split
  · exact h₁.trans ((raise_within _ _ _ _).sameMark rfl rfl)
  · exact h₁

theorem missSlot_sameMark (n : Int) (cause : Nat) (s : State) : SameMark s (missSlot n cause s) := by
  unfold missSlot
  extract_lets esc₁ s₁ s₂ v lines
  have h₁ : SameMark s s₁ := ⟨.of_patch rfl, rfl⟩
  have h₂ : SameMark s s₂ := h₁.trans ((Within.each (fun m u => skipSlot_within m n u) _ s₁).sameMark rfl rfl)
  clear_value s₂ lines
  have hcounted : SameMark s₂ { s₂ with esc := { s₂.esc with missed := satInc 32 s₂.esc.missed } } := ⟨.of_patch rfl, rfl⟩
  exact (((h₂.trans hcounted).trans (spoilLines_sameMark _ _ _)).trans (missedEvent_sameMark _ _ _ _)).trans
    ((closeTickets_within _).sameMark rfl rfl)

theorem rearmModule_within (f : FixedSlot) (m : Nat) (s : State) : Within slotPieces s (rearmModule f m s) := by
  unfold rearmModule
  dsimp only
  split
  · refine .ite (.refl _ s) (.ite (lateSlot_within _ _ _) ?_)
    exact (((setModule_keeps (by rfl)).mono (l' := slotPieces) rfl).andThen
      (.each (fun _ _ => sendControl_within _ _ _) _ _) rfl).fromPatch rfl rfl
  · exact .refl _ s

theorem takeSlot_sameMark (f : FixedSlot) (s : State) : SameMark s (Machine.takeSlot f s) := by
  unfold Machine.takeSlot
  extract_lets esc₁ s₁
  have h₁ : SameMark s s₁ := ⟨.of_patch rfl, rfl⟩
  exact h₁.trans ((Within.each (fun m u => rearmModule_within f m u) _ s₁).sameMark rfl rfl)

theorem noteError_sameMark (e : Int) (s : State) : SameMark s (noteError e s) := ⟨.of_patch rfl, rfl⟩

/-- The slots revoked, fixed anew one after the other until one has to wait. -/
theorem recompute_sameMark (l : List FixedSlot) (s : State) : SameMark s (recompute l s) := by
  induction l generalizing s with
  | nil => exact .refl s
  | cons f rest ih =>
    have hunfix : SameMark s { s with esc := { s.esc with handled := f.n - 1, fixedTop := f.n - 1 } } := ⟨.of_patch rfl, rfl⟩
    rw [recompute]
    dsimp only
    refine .ite hunfix ?_
    split
    · exact .ite ((missSlot_sameMark _ _ _).trans (ih _)) hunfix
    · refine .ite ((missSlot_sameMark _ _ _).trans (ih _)) (.ite hunfix ?_)
      split
      · exact hunfix.trans (trip_sameMark _ _ _)
      · exact (takeSlot_sameMark _ _).trans (ih _)

theorem revoke_sameMark (cause : Nat) (e : Int) (s : State) : SameMark s (revoke cause e s) := by
  unfold revoke
  split
  · exact noteError_sameMark e s
  · exact .ite (noteError_sameMark e s)
      (((sendRevoke_sameMark _ _ _ s).trans (recompute_sameMark _ _)).trans (revokeReport_sameMark _ _ _ _))

theorem judgeError_sameMark (cause : Nat) (e : Int) (s : State) : SameMark s (judgeError cause e s) :=
  .ite (revoke_sameMark _ _ _) (noteError_sameMark _ _)

theorem testA_sameMark (s : State) : SameMark s (testA s) := by
  unfold testA
  split
  · exact .refl s
  · exact judgeError_sameMark _ _ s

theorem testB_sameMark (s : State) : SameMark s (testB s) := by
  unfold testB
  split
  · exact .refl s
  · exact judgeError_sameMark _ _ s

theorem escCount_sameMark (wasReversed : Bool) (s : State) : SameMark s (escCount wasReversed s) :=
  ((overspeedCount_sameMark s).trans (.ite (reverseStop_sameMark _) (.refl _))).trans (testA_sameMark _)

/-! The Regulator's state is followed (R118, R161) -/

theorem settleStop_within (s : State) : Within followPieces s (settleStop s) := by
  unfold settleStop
  split
  · refine .ite ?_ (.refl _ s)
    exact ((stopBy_within _ _).mono (l' := followPieces) rfl).fromPatch rfl rfl
  · exact .refl _ s

theorem printOvertaken_within (s : State) : Within followPieces s (printOvertaken s) := by
  unfold printOvertaken
  extract_lets fixed s₁ esc₂ grt₂ mem₂ s₂ s₃
  have h₁ : Within followPieces s s₁ := by
    dsimp only [s₁]
    split
    · exact .refl _ s
    · exact (discardFrom_within _ _ _).mono rfl
  have h₂ : Within followPieces s s₂ := h₁.trans (.of_patch rfl)
  have h₃ : Within followPieces s s₃ := h₂.andThen (raiseMark_within _) rfl
  exact .ite (h₃.trans (.of_patch rfl)) h₂

theorem idleIfOff_within (before s : State) : Within followPieces s (idleIfOff before s) := by
  refine .ite ((settleStop_within s).trans ?_) (.refl _ s)
  exact .ite ((raiseMark_within _).fromPatch rfl rfl)
    ((Within.ite (printOvertaken_within _) (.refl _ _)).andThen (escEnter_within _ _) rfl)

theorem followRegulator_within (before s : State) : Within followPieces s (followRegulator before s) :=
  (idleIfOff_within before s).trans (.ite (.of_patch rfl) (.refl _ _))

/-- With the Regulator in the state it was in there is nothing to follow. -/
theorem followRegulator_of_same {before : State} (h : (encOf s (activeEnc s)).reg = (encOf before (activeEnc s)).reg) :
    followRegulator before s = s := by
  have hidle : idleIfOff before s = s := if_neg fun ⟨_, hbefore, hnow⟩ => hbefore (h ▸ hnow)
  rw [followRegulator, hidle]
  refine if_neg fun ⟨hbefore, hnow⟩ => ?_
  rw [← h, hnow] at hbefore
  exact absurd hbefore (by decide)

/-! Steps of the web encoders -/

/-- What a step of the web encoders may change. -/
def webPieces : List Piece := followPieces ++ sourcePieces

/-- A step of the web encoders in a calm block. -/
theorem Within.runsFollow {t0 : Time} {f : State → State} {P : State → Prop} (h : Within webPieces (advance t0 s) (f (advance t0 s)))
    (hcalm : Calm s) (hP : P (followRegulator (advance t0 s) (f (advance t0 s)))) : Runs (atWeb t0 f s) P :=
  Within.runsCal (f := fun s => followRegulator s (f s)) (h.andThen (followRegulator_within _ _) rfl) hcalm rfl hP

/-- What a step leaves of the encoders, its operation leaves. -/
theorem Within.runsWeb {t0 : Time} {f : State → State} {P : State → Prop} (h : Within webPieces (advance t0 s) (f (advance t0 s)))
    (hcalm : Calm s) (hP : ∀ t, t.enc = (f (advance t0 s)).enc → P t) : Runs (atWeb t0 f s) P :=
  h.runsFollow hcalm (hP _ ((followRegulator_within _ _).keeps .enc rfl))

/-! Agreement of the encoders, and slot boundaries (R119, R161) -/

theorem agreementCheck_web {β : Type} {g : Encoder → β} (s : State) : Web g s (agreementCheck s) := by
  unfold agreementCheck
  extract_lets both diff enc₁ tol passed lost s₁
  have h₁ : Web g s s₁ := by
    refine .ite (web_block (.of_patch rfl) rfl rfl) (.ite (.ite (web_block (.of_patch rfl) rfl rfl) ?_) (.refl g s))
    have hlost : Web g s lost := web_block (.of_patch rfl) rfl rfl
    exact .ite (hlost.trans ((raise_within _ _ _ _).web rfl rfl)) hlost
  clear_value s₁
  exact h₁.trans (web_block (.of_patch rfl) rfl rfl)

theorem agreementCheck_esc (s : State) : (agreementCheck s).esc.hwm = s.esc.hwm := by
  have hesc := (agreementCheck_web (g := Encoder.count) s).within.keeps .esc rfl
  exact (congrArg Esc.hwm hesc :)

/-- The offset of the encoders as it is latched (R119). -/
def latchOffset (s : State) : State :=
  { s with enc := { s.enc with
    offset := predict s.enc.e1 s.now - predict s.enc.e0 s.now, latched := true, agree := true, passing := 0 } }

/-- Which encoders are fit to be used, noted. -/
def noteFit (s : State) : State :=
  { s with enc := { s.enc with
    ok0 := encHealthy s 0 && regReady s 0 && s.enc.agree, ok1 := encHealthy s 1 && regReady s 1 && s.enc.agree } }

theorem agreementCheck_of_unlatched (hboth : (encHealthy s 0 && encHealthy s 1 && regReady s 0 && regReady s 1) = true)
    (hlatched : s.enc.latched = false) : agreementCheck s = noteFit (latchOffset s) := by
  refine congrArg noteFit (if_pos ?_)
  rw [hlatched]
  exact (Bool.and_true _).trans hboth

theorem countQualify_within (s : State) : Within [.esc] s (countQualify s) := .ite (.of_patch rfl) (.refl _ s)

theorem countQualify_sameMark (s : State) : SameMark s (countQualify s) := .ite ⟨.of_patch rfl, rfl⟩ (.refl s)

/-- In STANDBY a slot boundary moves the mark, counts for the overspeed machine and tests the last slot fixed. -/
theorem slotReached_of_standby (hmode : s.hub.mode = .standby) (hruns : s.cal.runs = []) (hspare : s.cal.spareHome = none)
    (n : Int) : slotReached n s = testB (countQualify { s with esc := { s.esc with hwm := n } }) := by
  have hcal (u : State) (h : u.cal.runs = []) : calBoundary n u = u := by
    simp only [calBoundary, fixBoundaries, acceptedRuns, h, List.filter_nil, each, List.foldl_nil]
  have hplace (u : State) (h : u.hub.mode = .standby) : beginTo n u = u := if_pos (by rw [h]; decide)
  have hwait : decide (s.hub.mode = .armed) = false := by rw [hmode]; rfl
  have hcount := countQualify_within { s with esc := { s.esc with hwm := n } }
  unfold slotReached
  dsimp only
  rw [hwait, when_, if_neg Bool.false_ne_true, hplace _ ((congrArg Hub.mode (hcount.keeps .hub rfl) :).trans hmode),
    hcal _ (hcount.keeps .idle rfl hruns hspare).1]

theorem slotReached_mark (hmode : s.hub.mode = .standby) (hruns : s.cal.runs = []) (hspare : s.cal.spareHome = none)
    (n : Int) : Within followPieces s (slotReached n s) ∧ (slotReached n s).esc.hwm = n := by
  have htest := (countQualify_sameMark { s with esc := { s.esc with hwm := n } }).trans (testB_sameMark _)
  rw [slotReached_of_standby hmode hruns hspare]
  exact ⟨htest.within.fromPatch rfl rfl, htest.mark⟩

theorem slotBoundary_of_standby {n : Int} (hswitch : s.enc.switch = none) (hmode : s.hub.mode = .standby)
    (hruns : s.cal.runs = []) (hspare : s.cal.spareHome = none) (hahead : s.esc.hwm < n) :
    Within webPieces s (slotBoundary n s) ∧ (slotBoundary n s).esc.hwm = n ∧ EncKept Encoder.reg s (slotBoundary n s) := by
  have hswitched : encoderSwitchover n s = s := by rw [encoderSwitchover, hswitch]
  obtain ⟨hwithin, hmark⟩ := slotReached_mark hmode hruns hspare n
  have hstep : slotBoundary n s = agreementCheck (slotReached n s) := by
    rw [slotBoundary, hswitched, if_pos hahead]
  have hagree := agreementCheck_web (g := Encoder.reg) (slotReached n s)
  rw [hstep]
  exact ⟨(hwithin.mono rfl).trans (hagree.within.mono rfl), (agreementCheck_esc _).trans hmark, fun x =>
    (hagree.kept x).trans (congrArg Encoder.reg (encOf_congr (hwithin.keeps .enc rfl) x))⟩

/-! Counting -/

/-- A valid transition of a sensed encoder in a block without runs: what the encoders are after it. -/
theorem encoderCount_counted {x : Nat} (hx : x < 2) (pin : Bool) (henabled : encEnabled s x = true) (hruns : s.cal.runs = [])
    (hspare : s.cal.spareHome = none) : ∃ u, Counted x (pin != bit (u8 (encCfg s x) 1) 1) s u
      ∧ Within followPieces u (encoderCount x pin true s) := by
  have hcounted := countEncoder_counted hx pin s
  have hcal := calCount_of_noRuns (x := x) (hcounted.within.keeps .idle rfl hruns hspare).1
  have hstep : encoderCount x pin true s = if x = activeEnc s then
      escCount (webReversed s) (followRegulator s (countEncoder x pin s)) else countEncoder x pin s := by
    unfold encoderCount
    rw [henabled]
    simp only [Bool.not_true, Bool.false_eq_true, if_false]
    rw [hcal]
  rw [hstep]
  exact ⟨_, hcounted, .ite ((followRegulator_within _ _).trans (escCount_sameMark _ _).within) (.refl _ _)⟩

theorem pulseWidthEnd_of_due {e : Time} (hpulse : s.enc.pulseEnd = some e) (hdue : e ≤ s.now) : pulseWidthEnd s
    = if 0 < s.enc.pulseWaiting then
        pulseStart s.now { s with enc := { s.enc with
          pulseWaiting := s.enc.pulseWaiting - 1, pulseEnd := some (s.now + u16 (pulseCfg s) 6 * tpNs) } }
      else { s with enc := { s.enc with pulseEnd := none } } := by
  rw [pulseWidthEnd, hpulse]
  exact if_pos hdue

theorem pulseWidthEnd_within {e : Time} (hpulse : s.enc.pulseEnd = some e) (hdue : e ≤ s.now) :
    Within [.enc] s (pulseWidthEnd s) := by
  rw [pulseWidthEnd_of_due hpulse hdue]
  exact .ite (.of_patch rfl) (.of_patch rfl)

end Sys2Proof.Machine.Laws

namespace Sys2Proof.Machine.Proofs
open Sys2Proof.Machine Sys2Proof.Machine.Laws

/-- Settles O16: each transition, index, fault, check and boundary by the branch it takes; what follows the Regulator's
state changes nothing of the encoders. -/
theorem encoderRows : Obligations.EncoderRows := by
  unfold Obligations.EncoderRows
  refine ⟨fun t0 x rev s hcalm henabled => ?valid, fun t0 x rev s hcalm henabled => ?invalid,
    fun t0 x rev valid s hcalm hdisabled => ?disabled, fun t0 x s hcalm henabled hindex hfirst => ?index,
    fun t0 x s hcalm henabled hnone => ?receiver, fun t0 x k u s hcalm hk honly hdue => ?clear,
    fun t0 x s hcalm henabled hmoves hdue => ?standstill, fun t0 s hcalm hstill hlatched hboth => ?agreement,
    fun t0 e s halive hpulse hdue => ?pulse, fun t0 n s hcalm hswitch hmode hahead _ => ?boundary⟩
  case valid =>
    obtain ⟨u, hcounted, hafter⟩ := encoderCount_counted (s := advance t0 s) x.isLt rev henabled hcalm.noRuns
      hcalm.steady.noSpare
    have hwithin := (hcounted.within.mono (l' := webPieces) rfl).andThen hafter rfl
    refine hwithin.runsWeb hcalm fun t ht => ?_
    have henc (y : Nat) : encOf t y = encOf u y := encOf_congr (ht.trans (hafter.keeps .enc rfl)) y
    rw [henc, henc]
    exact ⟨hcounted.count, hcounted.reverse, hcounted.standstill, hcounted.lastEdge, hcounted.other⟩
  case invalid =>
    obtain ⟨hwithin, herr, hcount⟩ := quadError_counted x.val (advance t0 s)
    have hstep (u : State) (hu : encEnabled u x = true) : encoderCount x rev false u = quadError x u := by
      simp only [encoderCount, hu, Bool.not_true, Bool.false_eq_true, if_false, Bool.not_false, if_true]
    have hquad := hstep (advance t0 s) henabled
    refine Within.runsWeb (f := encoderCount x rev false) (by rw [hquad]; exact hwithin.mono rfl) hcalm fun t ht => ?_
    rw [hquad] at ht
    rw [encOf_congr ht, encOf_congr ht]
    exact ⟨herr, hcount _, hcount _⟩
  case disabled =>
    have hstep (u : State) (hu : encEnabled u x = false) : encoderCount x rev valid u = u := if_pos (by rw [hu]; rfl)
    have hsame := hstep (advance t0 s) hdisabled
    refine Within.runsFollow (f := encoderCount x rev valid) (by rw [hsame]; exact .refl _ _) hcalm ?_
    rw [hsame, followRegulator_of_same rfl]
    exact ⟨rfl, rfl, rfl⟩
  case index =>
    have hstep (u : State) (henabled : encEnabled u x = true) (hindex : bit (u8 (encCfg u x) 1) 2 = true)
        (hfirst : (encOf u x).referenced = false) : encoderIndex x u
        = setEnc x { encOf u x with referenced := true, subrev := indexPosition u x, rev := 0, sinceIndex := 0 } u := by
      simp only [encoderIndex, henabled, hindex, hfirst, Bool.not_true, Bool.or_self, Bool.false_eq_true, if_false,
        Bool.not_false, if_true]
    have hset := hstep (advance t0 s) henabled hindex hfirst
    refine Within.runsWeb (f := encoderIndex x) (by rw [hset]; exact (setEnc_within _ _ _).mono rfl) hcalm fun t ht => ?_
    rw [encOf_congr ht, hset, encOf_setEnc_same]
    exact ⟨rfl, rfl, rfl, rfl, rfl⟩
  case receiver =>
    have hnew : (encOf (advance t0 s) x).causes.any (fun k => k.1 = 0) = false := by
      rw [show (encOf (advance t0 s) x).causes = [] from hnone]
      rfl
    have hgain : receiverFault x (advance t0 s) = gainCause x 0 (advance t0 s) := if_pos henabled
    refine Within.runsWeb (f := receiverFault x) (by rw [hgain]; exact (gainCause_web _ _ _).within.mono rfl) hcalm fun t ht => ?_
    rw [encOf_congr ht, hgain, gainCause_causes hnew]
    exact List.mem_append_right _ (List.mem_singleton_self _)
  case clear =>
    obtain ⟨hwithin, hcauses⟩ := loseCause_causes x k (advance t0 s)
    have hlose : encoderCauseClear x k (advance t0 s) = loseCause x k (advance t0 s) :=
      encoderCauseClear_of_held hk honly hdue
    refine Within.runsWeb (f := encoderCauseClear x k) (by rw [hlose]; exact hwithin.mono rfl) hcalm fun t ht => ?_
    rw [encOf_congr ht, hlose, hcauses, show (encOf (advance t0 s) x).causes = [(k.val, u)] from honly]
    simp
  case standstill =>
    have hweb := settleStandstill_web x.val true (advance t0 s)
    obtain ⟨hstill, hholds⟩ := settleStandstill_of_due (s := advance t0 s) henabled hmoves hdue
    refine Within.runsWeb (f := settleStandstill x true) (hweb.within.mono rfl) hcalm fun t ht => ?_
    rw [encOf_congr ht]
    exact ⟨hstill, hholds, hweb.kept x⟩
  case agreement =>
    have hcheck : agreementMsCheck (advance t0 s) = agreementCheck (advance t0 s) := if_pos hstill
    have hlatch := agreementCheck_of_unlatched (s := advance t0 s) hboth hlatched
    refine Within.runsWeb (f := agreementMsCheck) ?_ hcalm fun t ht => ?_
    · rw [hcheck]
      exact (agreementCheck_web (g := Encoder.count) _).within.mono rfl
    · rw [ht, hcheck, hlatch]
      exact ⟨rfl, rfl, rfl, rfl⟩
  case pulse =>
    have hwithin := pulseWidthEnd_within (s := advance t0 s) hpulse hdue
    have hstep := pulseWidthEnd_of_due (s := advance t0 s) hpulse hdue
    refine hwithin.runs halive ⟨fun hnone => ?_, fun hsome => ?_, hwithin.only rfl⟩
    · rw [hstep.trans (if_neg (Nat.not_lt.2 (Nat.le_of_eq hnone)))]
      rfl
    · rw [hstep.trans (if_pos hsome)]
      exact ⟨rfl, rfl⟩
  case boundary =>
    obtain ⟨hwithin, hmark, hreg⟩ := slotBoundary_of_standby (s := advance t0 s) hswitch hmode hcalm.noRuns
      hcalm.steady.noSpare hahead
    refine hwithin.runsFollow hcalm ?_
    rw [followRegulator_of_same (hreg _)]
    exact hmark

end Sys2Proof.Machine.Proofs
end
